-- ==== Sys2Proof/Word.lean ====
section
/-! DEFINITION. Bit-vector names of the manual's quantities, and fixed-length tables reached by number. -/

namespace Sys2Proof

/-- A byte of a chain frame, or the eight data bits of a drop character. -/
abbrev Byte := BitVec 8

/-- A class, 0 to 3 (00_scope.md, Identifiers). -/
abbrev Cls := BitVec 2

/-- A tag, 0 to 4,095 (00_scope.md, Identifiers). -/
abbrev Tag := BitVec 12

/-- A 16-bit quantity: a logical address, an epoch, a counter. -/
abbrev Word16 := BitVec 16

/-- A 32-bit quantity: the device tick count, the scan time. -/
abbrev Word32 := BitVec 32

/-- Entry `i` of a table; `d` beyond its end. -/
def vget {α : Type} {n : Nat} (v : Vector α n) (i : Nat) (d : α) : α :=
  if h : i < n then v[i] else d

/-- The table with entry `i` replaced; unchanged when `i` is beyond its end. -/
def vset {α : Type} {n : Nat} (v : Vector α n) (i : Nat) (a : α) : Vector α n :=
  v.setIfInBounds i a

/-- The table with every entry changed by `f`. -/
def vmap {α β : Type} {n : Nat} (f : α → β) (v : Vector α n) : Vector β n :=
  ⟨⟨v.toList.map f⟩, by simp⟩

/-- High byte of a 16-bit value. -/
def hiByte (w : Word16) : Byte := w.extractLsb' 8 8

/-- Low byte of a 16-bit value. -/
def loByte (w : Word16) : Byte := w.extractLsb' 0 8

end Sys2Proof
end

