-- ==== Sys2Proof/Syntax.lean ====
section
/-! DEFINITION. The commands of the block: one constructor for each row of spec/opcode_table.json, and the data they carry. -/

namespace Sys2Proof

/-- The two chain ports (R138). -/
inductive PortId where
  | u
  | d
  deriving DecidableEq, Repr

/-- How a hard reset comes (R161, R191): power-on, or RESET_N low for so many nanoseconds. -/
inductive ResetCause where
  | powerOn
  | resetN (lowNs : Nat)
  deriving DecidableEq, Repr

/-- What one symbol time on a port's receiver carries (R139, R140, R191): no symbol, or ten bits, the control flag first
(bit 9), then the value (bits 8 to 1) and the parity bit (bit 0). -/
inductive SymbolTime where
  | silent
  | symbol (w : BitVec 10)
  deriving DecidableEq, Repr

/-- A character received on the drop line (R33): its mark bit, its data bits, and whether its stop bit was sampled low. -/
structure DropChar where
  mark : Bool
  data : Byte
  framing : Bool := false
  deriving DecidableEq, Repr

/-- The header of a chain frame but for its kind and length (R185). `rsv` is bit 0 of byte 0, forwarded as received. -/
structure Header where
  cls : Cls
  mark : Bool := false
  rsv : Bool := false
  position : BitVec 6
  tag : Tag
  logical : Word16 := 0#16
  code : Byte := 0#8
  aux : Byte := 0#8
  deriving DecidableEq, Repr

/-- The commands. Each is one whole, indivisible step of the bridge (95_what_each_step_holds.md). -/
inductive Instr where
  /-- HARD_RESET (R191) -/
  | hardReset (cause : ResetCause)
  /-- RESET_N_RISE (R161) -/
  | resetNRise
  /-- TICK (R171) -/
  | tick
  /-- EXPIRY (R25) -/
  | expiry
  /-- REVIVAL_POINT (R66) -/
  | revivalPoint
  /-- SCAN_DUE (R110) -/
  | scanDue
  /-- LINK_UP (R139): the symbol times a DOWN port's receiver sees. -/
  | linkUp (p : PortId) (times : List SymbolTime)
  /-- LINK_DOWN (R140): the symbol times an UP port's receiver sees. -/
  | linkDown (p : PortId) (times : List SymbolTime)
  /-- HOLD (R148) -/
  | hold (p : PortId)
  /-- GO (R148) -/
  | go (p : PortId)
  /-- U_FRAME_ARRIVAL (R151): the bytes of the frame, after those already in reception, and whether a symbol time among
  them carried an invalid symbol. -/
  | uFrameArrival (bytes : List Byte) (invalidSymbol : Bool)
  /-- ENUMERATE (R156): a good ENUMERATE with this header and count. -/
  | enumerate (header : Header) (count : Byte)
  /-- D_FRAME_ARRIVAL (R153) -/
  | dFrameArrival (bytes : List Byte) (invalidSymbol : Bool)
  /-- CHAIN_END_ACK (R157) -/
  | chainEndAck
  /-- MERGE_GRANT (R129) -/
  | mergeGrant
  /-- U_TX_FRAME_END (R127) -/
  | uTxFrameEnd
  /-- OTQ_SEND_START (R144) -/
  | otqSendStart
  /-- OTQ_SEND_END (R144) -/
  | otqSendEnd
  /-- NOTICE_PLACE (R133) -/
  | noticePlace
  /-- REQUEST_ADMISSION (R9) -/
  | requestAdmission
  /-- BAD_COMMAND (R162) -/
  | badCommand
  /-- READ_STATUS (R166) -/
  | readStatus
  /-- GET_PARAM (R168) -/
  | getParam
  /-- SET_PARAM (R169) -/
  | setParam
  /-- CLEAR_FAULTS (R174) -/
  | clearFaults
  /-- READ_COUNTERS (R177) -/
  | readCounters
  /-- TABLE_WRITE (R91) -/
  | tableWrite
  /-- TABLE_READ (R92) -/
  | tableRead
  /-- SHADOW_LOAD (R93) -/
  | shadowLoad
  /-- COMMIT (R94) -/
  | commit
  /-- COMMIT_REJECT (R96) -/
  | commitReject
  /-- SWAP (R97) -/
  | swap
  /-- CANCEL (R27) -/
  | cancel
  /-- FLUSH (R29) -/
  | flush
  /-- NODE_RESET (R68) -/
  | nodeReset
  /-- NODE_READ (R70) -/
  | nodeRead
  /-- LINE_HALT (R54) -/
  | lineHalt
  /-- LINE_RUN (R55) -/
  | lineRun
  /-- SOFT_RESET (R178) -/
  | softReset
  /-- SELECTION (R21) -/
  | selection
  /-- READ_BACK_COMPLETE (R39) -/
  | readBackComplete
  /-- LINE_CONTENTION (R40): the read-back of the request's character `k`. -/
  | lineContention (k : Nat) (readBack : DropChar)
  /-- LINE_FAULT (R41) -/
  | lineFault
  /-- RESPONSE_START (R42): an address character, its data bits and its framing error. -/
  | responseStart (data : Byte) (framing : Bool)
  /-- NO_RESPONSE (R42) -/
  | noResponse
  /-- RESPONSE_CHARACTER (R43) -/
  | responseCharacter (c : DropChar)
  /-- RESPONSE_END (R43) -/
  | responseEnd
  /-- GUARD_END (R47) -/
  | guardEnd
  /-- STRAY_CHARACTER (R46) -/
  | strayCharacter (c : DropChar)
  /-- FRAME_START_IN_RECEPTION (R142): a frame-start symbol on the port, and the data bytes that follow it so far. -/
  | frameStartInReception (p : PortId) (data : List Byte)
  /-- RESET_CHARACTER_FINISHED (R57) -/
  | resetCharacterFinished
  deriving DecidableEq, Repr

end Sys2Proof
end

