-- ==== Sys2Proof/Config.lean ====
section
/-! DEFINITION. What the part fixes: the capacities of its queues and tables and its identity. The manual leaves no
value of an operation open, so there is no free value here (NOTES.md, Scope and Assumptions). -/

namespace Sys2Proof.Config

/-- Exchange Queue capacity, all four class lists together (R4). -/
def eqCapacity : Nat := 48

/-- OTQ capacity (R144). -/
def otqCapacity : Nat := 4

/-- HTQ capacity (R145). -/
def htqCapacity : Nat := 8

/-- Local Inbox capacity (R146). -/
def inboxCapacity : Nat := 4

/-- Items one NOTICE carries at most (R134). -/
def noticeItems : Nat := 16

/-- Valid symbols that bring a link UP (R139). -/
def acquisitionLimit : Nat := 1024

/-- Symbol times without a valid symbol that take a link DOWN (R140). -/
def silenceLimit : Nat := 256

/-- Part id of the status record (R166). -/
def partId : BitVec 16 := 3162#16

/-- Revision code of the status record (R166). -/
def revision : BitVec 8 := 1#8

end Sys2Proof.Config
end

