-- ==== Sys2Proof/Machine/State.lean ====
section
/-! DEFINITION. The state of the bridge as plain data: every block's registers, queues and tables, and the queue of
waiting commands. -/

namespace Sys2Proof.Machine

/-! ### Chain frames (R185) -/

/-- The frame kinds (R185). -/
inductive FrameKind where
  | request
  | control
  | enumerate
  | reply
  | ack
  | scanReport
  | notice
  deriving DecidableEq, Repr

/-- A good chain frame. Its length field is the payload's length and its CRC-16 is the one of R186, so neither is held. -/
structure Frame extends Header where
  kind : FrameKind
  payload : List Byte
  deriving DecidableEq, Repr

/-! ### Ports (R138) -/

/-- Link state (R138). -/
inductive LinkState where
  | down
  | up
  deriving DecidableEq, Repr

/-- The two flow-control symbols (R148). -/
inductive FlowSymbol where
  | hold
  | go
  deriving DecidableEq, Repr

/-- A frame in reception: the bytes so far, and whether a symbol time inside it carried an invalid symbol (R138, R143). -/
structure Reception where
  bytes : List Byte
  invalid : Bool
  deriving DecidableEq, Repr

/-- One chain port (R138). -/
structure Port where
  link : LinkState := .down
  acquisition : Nat := 0
  silence : Nat := 0
  held : Bool := false
  holdSent : Bool := false
  rx : Option Reception := none
  /-- The last HOLD or GO handed to this port's transmitter (R148). -/
  flowOut : Option FlowSymbol := none
  deriving DecidableEq, Repr

/-- The pending chain-end answer (R157). -/
structure ChainEnd where
  tag : Tag
  cls : Cls
  count : Byte
  deriving DecidableEq, Repr

/-- Where the frame being sent on Port U Tx comes from: a Local Output Queue slot, the HTQ's head, or a local frame held
apart from the queue since a soft reset (R127, R130, R136). -/
inductive TxSource where
  | slot (n : Nat)
  | htq
  | detached
  deriving DecidableEq, Repr

/-- The frame being sent on Port U Tx, its position already in place (R127). -/
structure UTx where
  source : TxSource
  frame : Frame
  deriving DecidableEq, Repr

/-! ### Local Output Queue and Notice Set (chapter 7) -/

/-- The holder of a RESERVED slot (R122). -/
inductive Holder where
  | dispatch
  | exchange
  | commit
  deriving DecidableEq, Repr

/-- A slot of the Local Output Queue (R122). -/
inductive Slot where
  | free
  | reserved (h : Holder)
  | filled (f : Frame) (fill : Nat)
  deriving DecidableEq, Repr

/-- Node health (R59). -/
inductive NodeState where
  | unknown
  | online
  | suspect
  | offline
  deriving DecidableEq, Repr

/-- The UNREACHABLE item (R131). -/
structure Unreachable where
  position : BitVec 6
  count : Nat
  deriving DecidableEq, Repr

/-- The Notice Set: at most one item for each subject (R131), the holdoff count (R132) and the notice sequence (R134). -/
structure NoticeSet where
  faults : BitVec 6 := 0#6
  linkU : Option LinkState := none
  linkD : Option LinkState := none
  nodes : Vector (Option NodeState) 31 := Vector.replicate 31 none
  unreachable : Option Unreachable := none
  holdoff : Nat := 255
  sequence : BitVec 12 := 0#12
  deriving DecidableEq, Repr

/-! ### Exchange records (R1) -/

/-- The outcomes (chapter 11, code tables). -/
inductive OutcomeCode where
  | ok
  | nodeBusy
  | nodeRefused
  | noResponse
  | badResponse
  | lineContention
  | lineFault
  | sent
  | noRoute
  | accessDenied
  | nodeOffline
  | queueFull
  | tagInUse
  | payloadError
  | expired
  | cancelled
  | guarded
  deriving DecidableEq, Repr

/-- The function of a CONTROLLER record with its count or payload (R1). -/
inductive Fn where
  | read (count : Nat)
  | write (data : List Byte)
  | bwrite (data : List Byte)
  deriving DecidableEq, Repr

/-- A record of origin CONTROLLER (R1). -/
structure CtlRecord where
  tag : Tag
  epoch : Word16
  cls : Cls
  node : Nat
  fn : Fn
  index : Nat
  logical : Word16
  retry : Nat
  ageLimit : Byte
  arrival : Word32
  /-- The reply slot; taken away by uplink loss alone (R1, R32). -/
  slot : Option Nat
  cancelMark : Bool
  deriving DecidableEq, Repr

/-- A record of origin SCAN; always a READ (R1, R112). -/
structure ScanRecord where
  scanIndex : Nat
  epoch : Word16
  cls : Cls
  node : Nat
  index : Nat
  count : Nat
  retry : Nat
  /-- The reply slot, present once started (R1). -/
  slot : Option Nat
  deriving DecidableEq, Repr

/-- An exchange record of one of the three origins (R1). A PROBE is class 3 and SYNC-only (R66). -/
inductive ExRecord where
  | controller (r : CtlRecord)
  | scan (r : ScanRecord)
  | probe (node : Nat)
  deriving DecidableEq, Repr

/-- The four class lists, oldest first (R3). -/
structure ExchangeQueue where
  c0 : List ExRecord := []
  c1 : List ExRecord := []
  c2 : List ExRecord := []
  c3 : List ExRecord := []
  deriving DecidableEq, Repr

/-! ### Drop Line Controller (R37) -/

/-- DLC states (R37). -/
inductive DlcState where
  | idle
  | transmit
  | await
  | receive
  | guard
  | halted
  deriving DecidableEq, Repr

/-- The steps of an exchange (R38). -/
inductive Step where
  | sync
  | main
  deriving DecidableEq, Repr

/-- The five line settings (R56). -/
structure LineSettings where
  dropRate : Nat := 1
  tResp : Nat := 20
  tGap : Nat := 3
  tGuard : Nat := 2
  tBcast : Nat := 10
  deriving DecidableEq, Repr

/-- The pending line settings (R37, R56). -/
structure PendingSettings where
  dropRate : Option Nat := none
  tResp : Option Nat := none
  tGap : Option Nat := none
  tGuard : Option Nat := none
  tBcast : Option Nat := none
  deriving DecidableEq, Repr

/-- The in-flight record with the exchange's plan and the attempt under way (R34, R37). -/
structure Exchange where
  record : ExRecord
  hasSync : Bool
  step : Step
  syncSent : Nat := 0
  mainSent : Nat := 0
  lastOutcome : Option OutcomeCode := none
  /-- Some attempt of the current step ended NO_RESPONSE or BAD_RESPONSE. -/
  anyBad : Bool := false
  /-- The toggle of the current step's requests. -/
  toggle : Bool := false
  /-- The characters every attempt of the current step sends (R34). -/
  request : List DropChar := []
  /-- The characters of the response so far (R43). -/
  response : List DropChar := []
  /-- A BWRITE has been read back whole (R47). -/
  broadcastDone : Bool := false
  deriving DecidableEq, Repr

/-- The Drop Line Controller (R37). -/
structure Dlc where
  state : DlcState := .idle
  /-- In TRANSMIT after a soft reset: the character being sent is finished (R57). -/
  stopping : Bool := false
  inflight : Option Exchange := none
  haltReq : Bool := false
  sessionLost : Bool := false
  cur : LineSettings := {}
  pend : PendingSettings := {}
  /-- Length in char times of the read-back limit, window, gap or guard in progress (R33); 0 when none is. -/
  interval : Nat := 0
  deriving DecidableEq, Repr

/-! ### Node Table (R59) -/

/-- Synchronisation of a node's toggle (R59). -/
inductive SyncState where
  | inSync
  | needsSync
  deriving DecidableEq, Repr

/-- A node record (R59). -/
structure NodeRecord where
  state : NodeState := .unknown
  sync : SyncState := .needsSync
  nextToggle : Bool := false
  failures : Nat := 0
  lastOutcome : Option OutcomeCode := none
  deriving DecidableEq, Repr

/-! ### Banks (R89) -/

/-- A 10-byte entry image (R188). -/
abbrev Image := Vector Byte 10

/-- The all-zero image: an entry that is not valid (R87). -/
def Image.zero : Image := Vector.replicate 10 0#8

/-- A bank: a Route Table and a Scan List (R89). -/
structure Bank where
  routes : Vector Image 128 := Vector.replicate 128 Image.zero
  scans : Vector Image 32 := Vector.replicate 32 Image.zero
  deriving DecidableEq, Repr

/-- The two banks' names (R89). -/
inductive BankId where
  | bank0
  | bank1
  deriving DecidableEq, Repr

/-- The two tables of a bank (R89). -/
inductive TableId where
  | route
  | scan
  deriving DecidableEq, Repr

/-- The sweep cursor: the next shadow entry the sweep examines (R89). -/
structure Cursor where
  table : TableId
  index : Nat
  deriving DecidableEq, Repr

/-- The pending commit (R89). The commit state is VALIDATING exactly while one is present. -/
structure PendingCommit where
  tag : Tag
  cls : Cls
  addressed : Bool
  slot : Option Nat
  cursor : Cursor
  deriving DecidableEq, Repr

/-! ### Scan Engine (R106, R65, R66) -/

/-- A Scan State record (R106). -/
structure ScanState where
  outstanding : Bool := false
  lastOutcome : Option OutcomeCode := none
  lastData : Option (List Byte) := none
  sequence : Byte := 0#8
  missed : Nat := 0
  deriving DecidableEq, Repr

/-- The retired scan (R106, R117). -/
structure Retired where
  scanIndex : Nat
  sequence : Byte
  missed : Nat
  deriving DecidableEq, Repr

/-- The Scan Engine's state (R106), with the revival count and cursor (R65, R66). -/
structure ScanEngine where
  records : Vector ScanState 32 := Vector.replicate 32 {}
  time : Word32 := 0#32
  startPending : Bool := true
  retired : Option Retired := none
  /-- The model's own: the dues of the last scan step that are not yet judged, in index order (log entry 3). -/
  duesOwed : List Nat := []
  reviveCount : Nat := 0
  reviveCursor : Nat := 0
  /-- The model's own: the last tick was a revival point that is not yet taken (log entry 3). -/
  revivalOwed : Bool := false
  deriving DecidableEq, Repr

/-! ### Management Unit and Tick Timer (chapter 9) -/

/-- Parameters 6 to 14 with their defaults (R167). -/
structure Params where
  offlineThreshold : Nat := 3
  reviveInterval : Nat := 1000
  tickPeriod : Nat := 10
  scanEnable : Nat := 0
  classReserve : Nat := 4
  throughWeight : Nat := 2
  noticeHoldoff : Nat := 5
  checkPolicy : Nat := 0
  counterMode : Nat := 0
  deriving DecidableEq, Repr

/-- The Tick Timer (R171): the device tick count, and the period in progress in units of 100 µs. -/
structure TickTimer where
  count : Word32 := 0#32
  period : Nat := 10
  deriving DecidableEq, Repr

/-! ### The whole bridge -/

/-- The state of the bridge. The default of each field is its value after a hard reset. -/
structure State where
  /-- RESET_N is held low after a hard reset (R161, R191). -/
  inReset : Bool := false
  portU : Port := {}
  portD : Port := {}
  /-- Own position; the bridge is assigned when it is not 0 (R151). -/
  position : Nat := 0
  chainEnd : Option ChainEnd := none
  otq : List Frame := []
  htq : List Frame := []
  inbox : List Frame := []
  uTx : Option UTx := none
  dTx : Option Frame := none
  streak : Nat := 0
  loq : Vector Slot 64 := Vector.replicate 64 .free
  notice : NoticeSet := {}
  queue : ExchangeQueue := {}
  dlc : Dlc := {}
  nodes : Vector NodeRecord 31 := Vector.replicate 31 {}
  bank0 : Bank := {}
  bank1 : Bank := {}
  activeBank : BankId := .bank0
  epoch : Word16 := 0#16
  commit : Option PendingCommit := none
  scan : ScanEngine := {}
  params : Params := {}
  /-- The fault set, bits as the fault kind codes (R172). -/
  faults : BitVec 6 := 0#6
  /-- The 14 counters in the order of R176. -/
  counters : Vector Word16 14 := Vector.replicate 14 0#16
  timer : TickTimer := {}
  /-- The commands that wait, first in first out. -/
  pending : List Instr := []
  deriving DecidableEq, Repr

/-- The bridge right after a hard reset, once RESET_N has risen (R161): every field at the value its rule gives. -/
def State.reset : State := {}

/-- Why a step stops with a fault: the manual names no event that stops the machine, so there is no reason. The latched
faults of R172 are state. -/
inductive Fault where
  deriving DecidableEq, Repr

/-- Why a command is refused. -/
inductive Refusal where
  /-- Raised by an arm of `exec` whose command has no meaning yet. Safe: the machine stops where the hardware goes on. -/
  | notModelled (mnemonic : String)
  deriving DecidableEq, Repr

end Sys2Proof.Machine
end

