-- ==== Sys2Proof/Machine/DropLine.lean ====
section
/-! DEFINITION. The drop line's characters (R33, R187), drop requests (R34), and the judgement of a response (R35, R44). -/

namespace Sys2Proof.Machine

/-- Bit rate in bit/s of a DROP_RATE value (R33). A character is 11 bit times. -/
def bitRate (dropRate : Nat) : Nat :=
  if dropRate = 0 then 115200
  else if dropRate = 1 then 250000
  else if dropRate = 2 then 500000
  else if dropRate = 3 then 1000000
  else 2000000

/-- The levels of a character's 11 bits in the order sent, true for the mark level: start, the eight data bits least
significant first, mark, stop (R33, R187). The stop bit of a framing error is low. Which level is which: log entry 29. -/
def DropChar.bits (c : DropChar) : List Bool :=
  false :: (List.range 8).map c.data.getLsbD ++ [c.mark, !c.framing]

/-- The character that 11 sampled levels carry; none without a start bit (R33). -/
def DropChar.ofBits : List Bool → Option DropChar
  | [false, b0, b1, b2, b3, b4, b5, b6, b7, mark, stop] =>
    some {
      mark := mark
      data := (List.foldr (fun (b : Bool) (a : Byte) => (a <<< 1) ||| (BitVec.ofBool b).setWidth 8) 0#8
        [b0, b1, b2, b3, b4, b5, b6, b7])
      framing := !stop }
  | _ => none

/-- One bit of the CRC-8, polynomial 07h (R187). -/
def crc8Bit (r : Byte) : Byte :=
  if r.getLsbD 7 then (r <<< 1) ^^^ 0x07#8 else r <<< 1

/-- The CRC-8 of the data bits of a run of characters, register started at 00h (R187). -/
def crc8 (bytes : List Byte) : Byte :=
  bytes.foldl (fun r b => (List.range 8).foldl (fun a _ => crc8Bit a) (r ^^^ b)) 0#8

/-- Drop functions on the line (R187). -/
inductive LineFn where
  | read
  | write
  | sync
  | bwrite
  deriving DecidableEq, Repr

/-- Function codes of the control character (R187). -/
def LineFn.code : LineFn → BitVec 4
  | .read => 1#4
  | .write => 2#4
  | .sync => 3#4
  | .bwrite => 4#4

/-- The characters of a drop request (R34): address with the mark set, control, index, count, payload, check. -/
def requestChars (node : Nat) (fn : LineFn) (toggle : Bool) (index count : Nat) (payload : List Byte) : List DropChar :=
  let body : List Byte :=
    [BitVec.ofNat 8 (node % 32), fn.code ++ (0#3 ++ BitVec.ofBool toggle), BitVec.ofNat 8 index, BitVec.ofNat 8 count] ++ payload
  match body ++ [crc8 body] with
  | [] => []
  | a :: rest => { mark := true, data := a } :: rest.map fun b => { mark := false, data := b }

/-- The SYNC request to a node: toggle 0, index 0, count 0, no payload (R34). -/
def syncRequest (node : Nat) : List DropChar := requestChars node .sync false 0 0 []

/-- The drop node a record is for (R1). -/
def ExRecord.node : ExRecord → Nat
  | .controller r => r.node
  | .scan r => r.node
  | .probe n => n

/-- The class of a record; a PROBE is class 3 (R1). -/
def ExRecord.cls : ExRecord → Cls
  | .controller r => r.cls
  | .scan r => r.cls
  | .probe _ => 3#2

/-- Extra MAIN attempts allowed (R1, R83). A PROBE has no MAIN step. -/
def ExRecord.retry : ExRecord → Nat
  | .controller r => r.retry
  | .scan r => r.retry
  | .probe _ => 0

/-- The record is a PROBE. -/
def ExRecord.isProbe : ExRecord → Bool
  | .probe _ => true
  | .controller _ | .scan _ => false

/-- The record is a SCAN. -/
def ExRecord.isScan : ExRecord → Bool
  | .scan _ => true
  | .controller _ | .probe _ => false

/-- The record is a CONTROLLER record. -/
def ExRecord.isController : ExRecord → Bool
  | .controller _ => true
  | .scan _ | .probe _ => false

/-- The reply slot a record holds (R1). -/
def ExRecord.slot : ExRecord → Option Nat
  | .controller r => r.slot
  | .scan r => r.slot
  | .probe _ => none

/-- The record with its reply slot replaced. -/
def ExRecord.withSlot (slot : Option Nat) : ExRecord → ExRecord
  | .controller r => .controller { r with slot := slot }
  | .scan r => .scan { r with slot := slot }
  | .probe n => .probe n

/-- The record's cancel mark (R27). -/
def ExRecord.cancelMark : ExRecord → Bool
  | .controller r => r.cancelMark
  | .scan _ | .probe _ => false

/-- The record is a CONTROLLER record with this tag (R6). -/
def ExRecord.hasTag (tag : Tag) : ExRecord → Bool
  | .controller r => decide (r.tag = tag)
  | .scan _ | .probe _ => false

/-- The record is a BWRITE (R48). -/
def ExRecord.isBwrite : ExRecord → Bool
  | .controller r => match r.fn with
    | .bwrite _ => true
    | .read _ | .write _ => false
  | .scan _ | .probe _ => false

/-- The number of bytes a READ wants; none for another function. -/
def ExRecord.readCount : ExRecord → Option Nat
  | .controller r => match r.fn with
    | .read n => some n
    | .write _ | .bwrite _ => none
  | .scan r => some r.count
  | .probe _ => none

/-- The characters of a MAIN request (R34). A PROBE has no MAIN step and sends its SYNC. -/
def mainRequest (r : ExRecord) (toggle : Bool) : List DropChar :=
  match r with
  | .controller c =>
    match c.fn with
    | .read n => requestChars c.node .read toggle c.index n []
    | .write d => requestChars c.node .write toggle c.index d.length d
    | .bwrite d => requestChars 0 .bwrite false c.index d.length d
  | .scan c => requestChars c.node .read toggle c.index c.count []
  | .probe n => syncRequest n

/-- The count a valid OK response carries, and whether as many payload characters follow (R35). -/
def okForm (step : Step) (r : ExRecord) : Nat × Bool :=
  match step, r with
  | .sync, _ => (0, false)
  | .main, .controller c =>
    match c.fn with
    | .read n => (n, true)
    | .write d => (d.length, false)
    | .bwrite d => (d.length, false)
  | .main, .scan c => (c.count, true)
  | .main, .probe _ => (0, false)

/-- The judgement of a collected response (R44): the attempt's outcome, and the data of a valid OK response to a READ. -/
def judgeResponse (step : Step) (r : ExRecord) (toggle : Bool) (resp : List DropChar) : OutcomeCode × List Byte :=
  match resp with
  | a :: st :: ct :: rest =>
    let bytes := resp.map DropChar.data
    let status := st.data.extractLsb' 4 4
    let echo := st.data.getLsbD 0
    let count := ct.data.toNat
    let good :=
      a.mark && a.data.getLsbD 7 && decide ((a.data.extractLsb' 0 5).toNat = r.node) &&
      resp.all (fun c => !c.framing) && decide (resp.length ≤ 36) &&
      decide (bytes.getLast? = some (crc8 bytes.dropLast)) && (echo == toggle)
    let form := okForm step r
    if good && status == 1#4 && decide (count = form.1) &&
        decide (resp.length = 4 + (if form.2 then form.1 else 0)) then
      (.ok, if form.2 then (rest.map DropChar.data).take form.1 else [])
    else if good && status == 2#4 && decide (count = 0) && decide (resp.length = 4) then (.nodeBusy, [])
    else if good && status == 3#4 && decide (count = 0) && decide (resp.length = 4) then (.nodeRefused, [])
    else (.badResponse, [])
  | _ => (.badResponse, [])

end Sys2Proof.Machine
end

