-- ==== Sys2Proof/Machine/Frames.lean ====
section
/-! DEFINITION. Chain frames on the link: symbols (R191), codes, header layout (R185), CRC-16 (R186), the receive check
(R143), and the frames the bridge writes (R125). -/

namespace Sys2Proof.Machine

/-! ### Link symbols (R191) -/

/-- The number of ones among the ten bits is odd. -/
def oddParity (w : BitVec 10) : Bool :=
  (List.range 10).foldl (fun a i => a ^^ w.getLsbD i) false

/-- The link symbols: a frame byte, and the five control symbols (R142, R148, R191). -/
inductive LinkSymbol where
  | data (b : Byte)
  | idle
  | frameStart
  | frameEnd
  | hold
  | go
  deriving DecidableEq, Repr

/-- The control flag and the eight value bits, in the order sent (R191). -/
def LinkSymbol.flagAndValue : LinkSymbol → BitVec 9
  | .data b => 0#1 ++ b
  | .idle => 1#1 ++ 0x00#8
  | .frameStart => 1#1 ++ 0x01#8
  | .frameEnd => 1#1 ++ 0x02#8
  | .hold => 1#1 ++ 0x03#8
  | .go => 1#1 ++ 0x04#8

/-- The ten bits of a symbol, the first sent in bit 9; the parity bit makes the number of ones odd (R191). -/
def LinkSymbol.word (y : LinkSymbol) : BitVec 10 :=
  y.flagAndValue ++ BitVec.ofBool (!oddParity (y.flagAndValue.setWidth 10))

/-- The symbol that ten bits carry; none for an even parity or another control value (R191). -/
def LinkSymbol.ofWord (w : BitVec 10) : Option LinkSymbol :=
  if !oddParity w then none
  else if !w.getLsbD 9 then some (.data (w.extractLsb' 1 8))
  else if w.extractLsb' 1 8 = 0x00#8 then some .idle
  else if w.extractLsb' 1 8 = 0x01#8 then some .frameStart
  else if w.extractLsb' 1 8 = 0x02#8 then some .frameEnd
  else if w.extractLsb' 1 8 = 0x03#8 then some .hold
  else if w.extractLsb' 1 8 = 0x04#8 then some .go
  else none

/-- A valid symbol (R191). -/
def validSymbol (w : BitVec 10) : Bool := (LinkSymbol.ofWord w).isSome

/-- A frame of n bytes on the link: n + 2 symbols (R142, R191). -/
def frameSymbols (bytes : List Byte) : List LinkSymbol := .frameStart :: bytes.map .data ++ [.frameEnd]

/-- The frame bytes among received symbols; HOLD and GO are taken out of the stream (R142). -/
def frameData (ys : List LinkSymbol) : List Byte :=
  ys.filterMap fun
    | .data b => some b
    | .idle | .frameStart | .frameEnd | .hold | .go => none

/-- The symbol of a flow-control decision (R148). -/
def FlowSymbol.symbol : FlowSymbol → LinkSymbol
  | .hold => .hold
  | .go => .go

/-- The symbol time carries a valid symbol (R139, R140). -/
def validTime : SymbolTime → Bool
  | .silent => false
  | .symbol w => validSymbol w

/-- The symbol time carries an invalid symbol (R143). -/
def invalidTime : SymbolTime → Bool
  | .silent => false
  | .symbol w => !validSymbol w

/-! ### Code tables (R185, chapter 11) -/

/-- Kind codes. -/
def FrameKind.code : FrameKind → BitVec 4
  | .request => 0x1#4
  | .control => 0x2#4
  | .enumerate => 0x3#4
  | .reply => 0x9#4
  | .ack => 0xA#4
  | .scanReport => 0xB#4
  | .notice => 0xC#4

/-- The kind a code names (R190: the others are check errors). -/
def FrameKind.ofCode (c : BitVec 4) : Option FrameKind :=
  if c = 0x1#4 then some .request
  else if c = 0x2#4 then some .control
  else if c = 0x3#4 then some .enumerate
  else if c = 0x9#4 then some .reply
  else if c = 0xA#4 then some .ack
  else if c = 0xB#4 then some .scanReport
  else if c = 0xC#4 then some .notice
  else none

/-- Outcome codes. -/
def OutcomeCode.code : OutcomeCode → Byte
  | .ok => 0x01#8
  | .nodeBusy => 0x02#8
  | .nodeRefused => 0x03#8
  | .noResponse => 0x04#8
  | .badResponse => 0x05#8
  | .lineContention => 0x06#8
  | .lineFault => 0x07#8
  | .sent => 0x08#8
  | .noRoute => 0x09#8
  | .accessDenied => 0x0A#8
  | .nodeOffline => 0x0B#8
  | .queueFull => 0x0C#8
  | .tagInUse => 0x0D#8
  | .payloadError => 0x0E#8
  | .expired => 0x0F#8
  | .cancelled => 0x10#8
  | .guarded => 0x11#8

/-- Outcome code where 00h means absent. -/
def outcomeByte : Option OutcomeCode → Byte
  | none => 0#8
  | some o => o.code

/-- The results of an ACK (R165). -/
inductive AckCode where
  | done
  | badCommand
  | badParam
  | badValue
  | badIndex
  | commitBusy
  | commitRejected
  | notFound
  | inFlight
  | nodeBusy
  | chainEnd
  deriving DecidableEq, Repr

/-- ACK result codes. -/
def AckCode.code : AckCode → Byte
  | .done => 0x00#8
  | .badCommand => 0x01#8
  | .badParam => 0x02#8
  | .badValue => 0x03#8
  | .badIndex => 0x04#8
  | .commitBusy => 0x05#8
  | .commitRejected => 0x06#8
  | .notFound => 0x07#8
  | .inFlight => 0x08#8
  | .nodeBusy => 0x09#8
  | .chainEnd => 0x0A#8

/-- Node state codes. -/
def NodeState.code : NodeState → Byte
  | .unknown => 0#8
  | .online => 1#8
  | .suspect => 2#8
  | .offline => 3#8

/-- DLC state codes. -/
def DlcState.code : DlcState → Byte
  | .idle => 0#8
  | .transmit => 1#8
  | .await => 2#8
  | .receive => 3#8
  | .guard => 4#8
  | .halted => 5#8

/-- Table id codes. -/
def TableId.code : TableId → Byte
  | .route => 1#8
  | .scan => 2#8

/-- The table an id names. -/
def TableId.ofCode (b : Byte) : Option TableId :=
  if b = 1#8 then some .route else if b = 2#8 then some .scan else none

/-- Bank ids as bytes. -/
def BankId.code : BankId → Byte
  | .bank0 => 0#8
  | .bank1 => 1#8

/-- The code in the command field of a chain-end ACK (R157). -/
def enumerateCode : Byte := 0x20#8

/-! ### CRC-16 (R186) -/

/-- One bit of the CRC-16, polynomial 1021h. -/
def crc16Bit (r : BitVec 16) : BitVec 16 :=
  if r.getLsbD 15 then (r <<< 1) ^^^ 0x1021#16 else r <<< 1

/-- One byte into the CRC-16, most significant bit first. -/
def crc16Byte (r : BitVec 16) (b : Byte) : BitVec 16 :=
  (List.range 8).foldl (fun a _ => crc16Bit a) (r ^^^ ((b.setWidth 16) <<< 8))

/-- The CRC-16 of a run of bytes, register started at FFFFh. -/
def crc16 (bytes : List Byte) : BitVec 16 := bytes.foldl crc16Byte 0xFFFF#16

/-- The two CRC-16 bytes as sent, high byte first. -/
def crc16Bytes (bytes : List Byte) : List Byte := [hiByte (crc16 bytes), loByte (crc16 bytes)]

/-! ### Header layout (R185) -/

/-- Byte 0: kind, class, range mark, bit 0. -/
def headByte0 (f : Frame) : Byte :=
  f.kind.code ++ f.cls ++ BitVec.ofBool f.mark ++ BitVec.ofBool f.rsv

/-- Bytes 1 to 3 as one 24-bit value: position, tag, length. -/
def headWord (f : Frame) : BitVec 24 :=
  f.position ++ f.tag ++ BitVec.ofNat 6 f.payload.length

/-- The eight header bytes. -/
def headerBytes (f : Frame) : List Byte :=
  let w := headWord f
  [headByte0 f, w.extractLsb' 16 8, w.extractLsb' 8 8, w.extractLsb' 0 8,
   hiByte f.logical, loByte f.logical, f.code, f.aux]

/-- The bytes of a frame as sent, with its CRC-16. -/
def encodeFrame (f : Frame) : List Byte :=
  let body := headerBytes f ++ f.payload
  body ++ crc16Bytes body

/-- The frame a run of bytes carries; none when it is a check error (R143): fewer than 10 or more than 42 bytes, a length
field above 32 or other than the bytes received minus 10, a kind code that names no kind, an ENUMERATE whose payload is
not 1 byte, or a CRC-16 that does not match. -/
def parseFrame : List Byte → Option Frame
  | b0 :: b1 :: b2 :: b3 :: b4 :: b5 :: b6 :: b7 :: rest =>
    let w : BitVec 24 := b1 ++ b2 ++ b3
    let len := (w.extractLsb' 0 6).toNat
    let payload := rest.take len
    if len ≤ 32 ∧ rest.length = len + 2 ∧
        rest.drop len = crc16Bytes ([b0, b1, b2, b3, b4, b5, b6, b7] ++ payload) then
      match FrameKind.ofCode (b0.extractLsb' 4 4) with
      | none => none
      | some kind =>
        if kind = .enumerate ∧ len ≠ 1 then none
        else some
          { kind := kind, cls := b0.extractLsb' 2 2, mark := b0.getLsbD 1, rsv := b0.getLsbD 0,
            position := w.extractLsb' 18 6, tag := w.extractLsb' 6 12, logical := b4 ++ b5,
            code := b6, aux := b7, payload := payload }
    else none
  | _ => none

/-- The receive check at a frame's arrival (R143): none is a check error. -/
def checkFrame (bytes : List Byte) (invalidSymbol : Bool) : Option Frame :=
  if invalidSymbol then none else parseFrame bytes

/-! ### Frames the bridge writes (R125); the position is stamped later (R127) -/

/-- A REPLY: attempts used in bits 7 to 5 of the code, the outcome in bits 4 to 0, the epoch's low byte in aux. -/
def replyFrame (tag : Tag) (logical : Word16) (cls : Cls) (o : OutcomeCode) (attempts : Nat) (epoch : Word16)
    (data : List Byte) : Frame :=
  { kind := .reply, cls := cls, position := 0#6, tag := tag, logical := logical,
    code := ((BitVec.ofNat 8 attempts) <<< 5) ||| o.code, aux := loByte epoch, payload := data }

/-- An ACK: the command code and the result code (R165). -/
def ackFrame (cls : Cls) (tag : Tag) (command : Byte) (result : AckCode) (payload : List Byte) : Frame :=
  { kind := .ack, cls := cls, position := 0#6, tag := tag, code := command, aux := result.code, payload := payload }

/-- A SCAN_REPORT (R116, R186). -/
def scanReportFrame (cls : Cls) (scanIndex : Nat) (epoch : Word16) (o : OutcomeCode) (sequence : Byte) (missed : Nat)
    (time : Word32) (data : List Byte) : Frame :=
  { kind := .scanReport, cls := cls, position := 0#6, tag := BitVec.ofNat 12 scanIndex, logical := epoch,
    code := o.code, aux := sequence,
    payload := [BitVec.ofNat 8 missed, hiByte (time.setWidth 16), loByte (time.setWidth 16)] ++
      (if o = .ok then data else []) }

/-- A NOTICE with its sequence and items (R134). -/
def noticeFrame (sequence : BitVec 12) (items : List Byte) : Frame :=
  { kind := .notice, cls := 0#2, position := 0#6, tag := sequence, payload := items }

/-- A frame of a homeward kind (R145). -/
def FrameKind.homeward : FrameKind → Bool
  | .reply | .ack | .scanReport | .notice => true
  | .request | .control | .enumerate => false

end Sys2Proof.Machine
end

