-- ==== Sys2Proof/Machine/Operands.lean ====
section
/-! DEFINITION. Operands of the CONTROL commands (R164, R189), parameters (R167), fields of entry images (R188), the
validation conditions (R84, R120), route lookup (R74 to R78), scan dues (R109). -/

namespace Sys2Proof.Machine

/-! ### Commands (R164, chapter 11) -/

/-- The CONTROL commands. -/
inductive Command where
  | readStatus
  | getParam
  | setParam
  | clearFaults
  | readCounters
  | tableWrite
  | tableRead
  | shadowLoad
  | commit
  | cancel
  | flush
  | nodeReset
  | nodeRead
  | lineHalt
  | lineRun
  | softReset
  deriving DecidableEq, Repr

/-- Command codes. -/
def Command.code : Command → Byte
  | .readStatus => 0x01#8
  | .getParam => 0x02#8
  | .setParam => 0x03#8
  | .clearFaults => 0x04#8
  | .readCounters => 0x05#8
  | .tableWrite => 0x06#8
  | .tableRead => 0x07#8
  | .shadowLoad => 0x08#8
  | .commit => 0x09#8
  | .cancel => 0x0A#8
  | .flush => 0x0B#8
  | .nodeReset => 0x0C#8
  | .nodeRead => 0x0D#8
  | .lineHalt => 0x0E#8
  | .lineRun => 0x0F#8
  | .softReset => 0x10#8

/-- Every command, in code order. -/
def Command.all : List Command :=
  [.readStatus, .getParam, .setParam, .clearFaults, .readCounters, .tableWrite, .tableRead, .shadowLoad, .commit,
   .cancel, .flush, .nodeReset, .nodeRead, .lineHalt, .lineRun, .softReset]

/-- The command a code names (R162). -/
def Command.ofCode (b : Byte) : Option Command := Command.all.find? fun c => c.code == b

/-- Operand bytes of each command (R164). -/
def Command.operandBytes : Command → Nat
  | .readStatus | .readCounters | .shadowLoad | .commit | .lineHalt | .lineRun => 0
  | .getParam | .clearFaults | .flush | .nodeReset | .nodeRead | .softReset => 1
  | .cancel => 2
  | .setParam | .tableRead => 3
  | .tableWrite => 12

/-- A code that may be broadcast: every code but the six whose answers could not be returned (R152). -/
def broadcastable (code : Byte) : Bool :=
  !(code == 0x01#8 || code == 0x02#8 || code == 0x05#8 || code == 0x07#8 || code == 0x0D#8 || code == 0x0A#8)

/-- The frame was sent to position 63 (R162). -/
def broadcastFrame (f : Frame) : Bool := f.position == 63#6

/-- The operand bytes of a CONTROL: the whole payload, or what follows a broadcast's select range (R163, R164). -/
def operandsOf (f : Frame) : List Byte :=
  if broadcastFrame f && f.mark then f.payload.drop 2 else f.payload

/-- Operand byte `i`. -/
def opByte (ops : List Byte) (i : Nat) : Byte := ops.getD i 0#8

/-- Operand bytes `i` and `i + 1` as one value, high byte first. -/
def opWord (ops : List Byte) (i : Nat) : Word16 := opByte ops i ++ opByte ops (i + 1)

/-! ### Parameters (R167) -/

/-- The value lies in the range of parameter `id`, 1 to 14. -/
def paramInRange (id : Nat) (v : Nat) : Bool :=
  if id = 1 then decide (v ≤ 4)
  else if id = 2 then decide (2 ≤ v) && decide (v ≤ 255)
  else if id = 3 then decide (2 ≤ v) && decide (v ≤ 15)
  else if id = 4 then decide (1 ≤ v) && decide (v ≤ 63)
  else if id = 5 then decide (1 ≤ v) && decide (v ≤ 255)
  else if id = 6 then decide (1 ≤ v) && decide (v ≤ 7)
  else if id = 7 then decide (v ≤ 65535)
  else if id = 8 then decide (1 ≤ v) && decide (v ≤ 255)
  else if id = 9 then decide (v ≤ 1)
  else if id = 10 then decide (v ≤ 16)
  else if id = 11 then decide (1 ≤ v) && decide (v ≤ 8)
  else if id = 12 then decide (v ≤ 255)
  else if id = 13 then decide (v ≤ 1)
  else if id = 14 then decide (v ≤ 1)
  else false

/-- The current value of parameter `id`; ids 1 to 5 are the DLC's current line settings (R161, R168). -/
def paramValue (cur : LineSettings) (p : Params) (id : Nat) : Nat :=
  if id = 1 then cur.dropRate
  else if id = 2 then cur.tResp
  else if id = 3 then cur.tGap
  else if id = 4 then cur.tGuard
  else if id = 5 then cur.tBcast
  else if id = 6 then p.offlineThreshold
  else if id = 7 then p.reviveInterval
  else if id = 8 then p.tickPeriod
  else if id = 9 then p.scanEnable
  else if id = 10 then p.classReserve
  else if id = 11 then p.throughWeight
  else if id = 12 then p.noticeHoldoff
  else if id = 13 then p.checkPolicy
  else if id = 14 then p.counterMode
  else 0

/-- The pending value of parameter `id`, for the line settings (R168). -/
def paramPending (pend : PendingSettings) (id : Nat) : Option Nat :=
  if id = 1 then pend.dropRate
  else if id = 2 then pend.tResp
  else if id = 3 then pend.tGap
  else if id = 4 then pend.tGuard
  else if id = 5 then pend.tBcast
  else none

/-- Line setting `id` written as current. -/
def setCurrent (id v : Nat) (c : LineSettings) : LineSettings :=
  if id = 1 then { c with dropRate := v }
  else if id = 2 then { c with tResp := v }
  else if id = 3 then { c with tGap := v }
  else if id = 4 then { c with tGuard := v }
  else if id = 5 then { c with tBcast := v }
  else c

/-- Line setting `id` written as pending. -/
def setPending (id v : Nat) (c : PendingSettings) : PendingSettings :=
  if id = 1 then { c with dropRate := some v }
  else if id = 2 then { c with tResp := some v }
  else if id = 3 then { c with tGap := some v }
  else if id = 4 then { c with tGuard := some v }
  else if id = 5 then { c with tBcast := some v }
  else c

/-- Parameter `id`, 6 to 14, written. -/
def setOwnParam (id v : Nat) (p : Params) : Params :=
  if id = 6 then { p with offlineThreshold := v }
  else if id = 7 then { p with reviveInterval := v }
  else if id = 8 then { p with tickPeriod := v }
  else if id = 9 then { p with scanEnable := v }
  else if id = 10 then { p with classReserve := v }
  else if id = 11 then { p with throughWeight := v }
  else if id = 12 then { p with noticeHoldoff := v }
  else if id = 13 then { p with checkPolicy := v }
  else if id = 14 then { p with counterMode := v }
  else p

/-- Every pending line setting becomes current (R56). -/
def applyPending (cur : LineSettings) (p : PendingSettings) : LineSettings :=
  { dropRate := p.dropRate.getD cur.dropRate
    tResp := p.tResp.getD cur.tResp
    tGap := p.tGap.getD cur.tGap
    tGuard := p.tGuard.getD cur.tGuard
    tBcast := p.tBcast.getD cur.tBcast }

/-- The default line settings, all pending (R57). -/
def pendingDefaults : PendingSettings :=
  { dropRate := some 1, tResp := some 20, tGap := some 3, tGuard := some 2, tBcast := some 10 }

/-! ### Entry images (R188) -/

/-- Byte `i` of an image as a number. -/
def Image.byte (img : Image) (i : Nat) : Nat := (vget img i 0#8).toNat

/-- Bytes `i` and `i + 1` of an image as a number, high byte first. -/
def Image.word (img : Image) (i : Nat) : Nat := img.byte i * 256 + img.byte (i + 1)

/-- The valid field, bit 0 of byte 0 in both tables. -/
def Image.valid (img : Image) : Bool := (vget img 0 0#8).getLsbD 0

/-- The access of a route entry (R73). -/
inductive Access where
  | readOnly
  | writeOnly
  | readWrite
  deriving DecidableEq, Repr

/-- The access an access byte names. -/
def Access.ofCode (n : Nat) : Option Access :=
  if n = 1 then some .readOnly else if n = 2 then some .writeOnly else if n = 3 then some .readWrite else none

/-- Route entry: node. -/
def Image.routeNode (img : Image) : Nat := img.byte 1
/-- Route entry: logical base. -/
def Image.routeBase (img : Image) : Nat := img.word 2
/-- Route entry: span. -/
def Image.routeSpan (img : Image) : Nat := img.word 4
/-- Route entry: index base. -/
def Image.routeIndexBase (img : Image) : Nat := img.byte 6
/-- Route entry: access, none for an undefined code. -/
def Image.routeAccess (img : Image) : Option Access := Access.ofCode (img.byte 7)
/-- Route entry: the class override byte, 0 to 3 or FFh for NONE. -/
def Image.routeOverride (img : Image) : Nat := img.byte 8
/-- Route entry: retry limit. -/
def Image.routeRetry (img : Image) : Nat := img.byte 9

/-- Scan entry: node. -/
def Image.scanNode (img : Image) : Nat := img.byte 1
/-- Scan entry: first node-side index. -/
def Image.scanFirst (img : Image) : Nat := img.byte 2
/-- Scan entry: length. -/
def Image.scanLength (img : Image) : Nat := img.byte 3
/-- Scan entry: interval in ticks. -/
def Image.scanInterval (img : Image) : Nat := img.word 4
/-- Scan entry: phase in ticks. -/
def Image.scanPhase (img : Image) : Nat := img.word 6
/-- Scan entry: class field, bits 7 to 4 of byte 8. -/
def Image.scanClass (img : Image) : Nat := img.byte 8 / 16
/-- Scan entry: retry limit, bits 3 to 0 of byte 8. -/
def Image.scanRetry (img : Image) : Nat := img.byte 8 % 16
/-- Scan entry: report mode, 0 ALWAYS, 1 ON_CHANGE. -/
def Image.scanMode (img : Image) : Nat := img.byte 9

/-! ### Validation (R84, R120) -/

/-- The reasons a COMMIT is rejected for (R84, R120). -/
inductive Reason where
  | undefinedCode
  | spanRange
  | addressOverrun
  | indexOverrun
  | broadcastAccess
  | nodeRange
  | lengthRange
  | intervalRange
  | phaseRange
  deriving DecidableEq, Repr

/-- Reason codes (R188). -/
def Reason.code : Reason → Byte
  | .undefinedCode => 1#8
  | .spanRange => 2#8
  | .addressOverrun => 3#8
  | .indexOverrun => 4#8
  | .broadcastAccess => 5#8
  | .nodeRange => 6#8
  | .lengthRange => 7#8
  | .intervalRange => 8#8
  | .phaseRange => 9#8

/-- The first of R84's conditions a route entry fails; none when it passes or is not valid. -/
def routeFails (img : Image) : Option Reason :=
  if !img.valid then none
  else if 31 < img.routeNode ∨ img.routeAccess = none ∨ (3 < img.routeOverride ∧ img.routeOverride ≠ 255) ∨
      3 < img.routeRetry then some .undefinedCode
  else if img.routeSpan < 1 ∨ 256 < img.routeSpan then some .spanRange
  else if 65535 < img.routeBase + img.routeSpan - 1 then some .addressOverrun
  else if 255 < img.routeIndexBase + img.routeSpan - 1 then some .indexOverrun
  else if img.routeNode = 0 ∧ img.routeAccess ≠ some .writeOnly then some .broadcastAccess
  else none

/-- The first of R120's conditions a scan entry fails; none when it passes or is not valid. -/
def scanFails (img : Image) : Option Reason :=
  if !img.valid then none
  else if 3 < img.scanClass ∨ 3 < img.scanRetry ∨ 1 < img.scanMode then some .undefinedCode
  else if img.scanNode < 1 ∨ 31 < img.scanNode then some .nodeRange
  else if img.scanLength < 1 ∨ 29 < img.scanLength then some .lengthRange
  else if 255 < img.scanFirst + img.scanLength - 1 then some .indexOverrun
  else if img.scanInterval < 1 ∨ 4095 < img.scanInterval then some .intervalRange
  else if img.scanInterval ≤ img.scanPhase then some .phaseRange
  else none

/-- The first failing entry of a table from entry `i` on. -/
def firstFailing (fails : Image → Option Reason) : Nat → List Image → Option (Nat × Reason)
  | _, [] => none
  | i, img :: rest =>
    match fails img with
    | some r => some (i, r)
    | none => firstFailing fails (i + 1) rest

/-- The sweep from the cursor to its end (R95): the failing entry that stops it, or none when scan entry 31 has passed. -/
def sweepFrom (b : Bank) (c : Cursor) : Option (TableId × Nat × Reason) :=
  match c.table with
  | .route =>
    match firstFailing routeFails c.index (b.routes.toList.drop c.index) with
    | some (i, r) => some (.route, i, r)
    | none =>
      match firstFailing scanFails 0 b.scans.toList with
      | some (i, r) => some (.scan, i, r)
      | none => none
  | .scan =>
    match firstFailing scanFails c.index (b.scans.toList.drop c.index) with
    | some (i, r) => some (.scan, i, r)
    | none => none

/-- The cursor after the entry it names, when that entry passes and is not the last of the sweep (R95). -/
def sweepAdvance (b : Bank) (c : Cursor) : Cursor :=
  match c.table with
  | .route =>
    if routeFails (vget b.routes c.index Image.zero) = none then
      if c.index < 127 then { c with index := c.index + 1 } else { table := .scan, index := 0 }
    else c
  | .scan =>
    if scanFails (vget b.scans c.index Image.zero) = none ∧ c.index < 31 then { c with index := c.index + 1 } else c

/-! ### Route lookup (R74 to R78) -/

/-- A route entry covers a logical address (R74). -/
def Image.covers (img : Image) (a : Nat) : Bool :=
  img.valid && decide (img.routeBase ≤ a) && decide (a < img.routeBase + img.routeSpan)

/-- The lookup: the first entry that covers the address, when it covers the whole width too (R75, R76). -/
def lookup (b : Bank) (a n : Nat) : Option Image :=
  match b.routes.toList.find? fun img => img.covers a with
  | none => none
  | some img => if img.covers (a + n - 1) then some img else none

/-- The class override byte, or the frame's class for NONE (R12, R82). -/
def resolveClass (img : Image) (frameCls : Cls) : Cls :=
  if img.routeOverride ≤ 3 then BitVec.ofNat 2 img.routeOverride else frameCls

/-! ### Scan dues (R109) -/

/-- A scan entry is due at a scan time: valid, at or past its phase, and a whole number of intervals past it. -/
def dueAt (img : Image) (time : Nat) : Bool :=
  img.valid && decide (img.scanPhase ≤ time) && decide ((time - img.scanPhase) % img.scanInterval = 0)

/-- The entries due at a scan time, in ascending index order. -/
def duesAt (b : Bank) (time : Nat) : List Nat :=
  (List.range 32).filter fun i => dueAt (vget b.scans i Image.zero) time

end Sys2Proof.Machine
end

