-- ==== Sys2Proof/Machine/Flags.lean ====
section
/-! DEFINITION. Counters (R176), the fault set and ALERT_N (R172, R173), the guarded state (R175), the pins and views read
from the state, and the flow-control flags of the ports (R148 to R150). -/

namespace Sys2Proof.Machine

/-! ### Counters (R176) -/

/-- The 14 counters. -/
inductive Counter where
  | chainCheckU
  | chainCheckD
  | receiveOverflow
  | misdirected
  | unreachable
  | exchOk
  | exchFail
  | retries
  | contention
  | strayBytes
  | refused
  | expired
  | scanOverruns
  | syncs
  deriving DecidableEq, Repr

/-- A counter's place in the order of R176. -/
def Counter.index : Counter → Nat
  | .chainCheckU => 0
  | .chainCheckD => 1
  | .receiveOverflow => 2
  | .misdirected => 3
  | .unreachable => 4
  | .exchOk => 5
  | .exchFail => 6
  | .retries => 7
  | .contention => 8
  | .strayBytes => 9
  | .refused => 10
  | .expired => 11
  | .scanOverruns => 12
  | .syncs => 13

/-- One more, staying at 65,535 (R176). -/
def saturate (w : Word16) : Word16 := if w = 0xFFFF#16 then w else w + 1#16

/-- The value of a counter. -/
def State.counter (s : State) (c : Counter) : Word16 := vget s.counters c.index 0#16

/-- A counter rises by 1. -/
def State.bump (c : Counter) (s : State) : State :=
  { s with counters := vset s.counters c.index (saturate (s.counter c)) }

/-! ### Faults (R172 to R175) -/

/-- The six fault kinds. -/
inductive FaultKind where
  | chainCheckU
  | chainCheckD
  | receiveOverflow
  | dropContention
  | strayTraffic
  | dropLineDead
  deriving DecidableEq, Repr

/-- Fault kind code and fault-mask bit. -/
def FaultKind.code : FaultKind → Nat
  | .chainCheckU => 0
  | .chainCheckD => 1
  | .receiveOverflow => 2
  | .dropContention => 3
  | .strayTraffic => 4
  | .dropLineDead => 5

/-- The fault's bit in the fault set. -/
def FaultKind.bit (k : FaultKind) : BitVec 6 := 1#6 <<< k.code

/-- The fault is latched. -/
def State.latched (s : State) (k : FaultKind) : Bool := s.faults.getLsbD k.code

/-- An event latches its fault; a fault that was clear places its FAULT item (R172). -/
def State.latch (k : FaultKind) (s : State) : State :=
  { s with
    faults := s.faults ||| k.bit
    notice := if s.latched k then s.notice else { s.notice with faults := s.notice.faults ||| k.bit } }

/-- The guarded state: CHECK_POLICY GUARDED and CHAIN_CHECK_U latched (R175). -/
def State.guarded (s : State) : Bool := decide (s.params.checkPolicy = 0) && s.latched .chainCheckU

/-- ALERT_N is driven low: the fault set holds a latched fault, and no hard reset is held (R173, R191). -/
def State.alertAsserted (s : State) : Bool := !s.inReset && decide (s.faults ≠ 0#6)

/-- DDE is asserted: in TRANSMIT alone, and not in a hard reset (R37, R191). -/
def State.ddeAsserted (s : State) : Bool := !s.inReset && decide (s.dlc.state = .transmit)

/-- What the DTX pin carries (R33, R191, the pin table of chapter 11). -/
inductive DtxOutput where
  /-- Mark level: whenever nothing is transmitted, a hard reset included. -/
  | mark
  /-- The bits of the request being sent, its characters back to back. -/
  | sends (bits : List Bool)
  /-- The rest of the character that a soft reset has cut short (R57). -/
  | finishing
  deriving DecidableEq, Repr

/-- DTX: it leaves the mark level only while DDE is asserted (R33, R57, R191). -/
def State.dtx (s : State) : DtxOutput :=
  if s.ddeAsserted then
    match s.dlc.inflight with
    | some x => .sends (x.request.flatMap DropChar.bits)
    | none => .finishing
  else .mark

/-- The chain transmitters send symbols: not while a hard reset is held (R191). -/
def State.chainSends (s : State) : Bool := !s.inReset

/-- The frame being sent on a port's transmitter (R127, R144). -/
def State.frameOut (s : State) : PortId → Option Frame
  | .u => s.uTx.map UTx.frame
  | .d => s.dTx

/-- The symbols a port's transmitter sends: none in a hard reset, those of the frame being sent, idle symbols otherwise
(R138, R142, R191). HOLD and GO are inserted among them as `flowOut` says (R148). -/
def State.symbolsOut (s : State) (p : PortId) : List LinkSymbol :=
  if s.chainSends then
    match s.frameOut p with
    | some f => frameSymbols (encodeFrame f)
    | none => [.idle]
  else []

/-! ### Views (R151, R89) -/

/-- The assigned flag: set when the position is 1 to 62 (R151). -/
def State.assigned (s : State) : Bool := decide (s.position ≠ 0)

/-- The commit state is VALIDATING (R89). -/
def State.validating (s : State) : Bool := s.commit.isSome

/-- The bank of an id. -/
def State.bank (s : State) : BankId → Bank
  | .bank0 => s.bank0
  | .bank1 => s.bank1

/-- The other bank. -/
def BankId.other : BankId → BankId
  | .bank0 => .bank1
  | .bank1 => .bank0

/-- The ACTIVE bank (R89). -/
def State.active (s : State) : Bank := s.bank s.activeBank

/-- The SHADOW bank (R89). -/
def State.shadow (s : State) : Bank := s.bank s.activeBank.other

/-- A bank replaced. -/
def State.setBank (i : BankId) (b : Bank) (s : State) : State :=
  match i with
  | .bank0 => { s with bank0 := b }
  | .bank1 => { s with bank1 := b }

/-- Scanning runs while SCAN_ENABLE is 1 and Port U is UP (R107). -/
def State.scanning (s : State) : Bool := decide (s.params.scanEnable = 1) && decide (s.portU.link = .up)

/-! ### Flow control (R148 to R150) -/

/-- A receive side judges its queues: HOLD at or above the upper limit, GO at or below the lower one. -/
def Port.judge (holdAt goAt : Bool) (p : Port) : Port :=
  if p.link = .up then
    if holdAt && !p.holdSent then { p with holdSent := true, flowOut := some .hold }
    else if goAt && p.holdSent then { p with holdSent := false, flowOut := some .go }
    else p
  else p

/-- Port U's receive side watches the OTQ and the Inbox (R149). -/
def State.judgeU (s : State) : State :=
  { s with
    portU := s.portU.judge (decide (3 ≤ s.otq.length) || decide (3 ≤ s.inbox.length))
      (decide (s.otq.length ≤ 1) && decide (s.inbox.length ≤ 1)) }

/-- Port D's receive side watches the HTQ (R150). -/
def State.judgeD (s : State) : State :=
  { s with portD := s.portD.judge (decide (7 ≤ s.htq.length)) (decide (s.htq.length ≤ 5)) }

/-- At the start of a run of idle symbols the transmitter repeats the symbol of its hold sent flag (R148). -/
def Port.repeatFlow (p : Port) : Port :=
  if p.link = .up then { p with flowOut := some (if p.holdSent then .hold else .go) } else p

end Sys2Proof.Machine
end

