-- ==== Sys2Proof/Machine/Ops.lean ====
section
/-! DEFINITION. The named operations of the blocks' shared state: Local Output Queue slots, the Notice Set, the Exchange
Queue, the Node Table, the Scan Engine's results, and the Inbox head. Each is total and changes only what its rule names. -/

namespace Sys2Proof.Machine

/-! ### Local Output Queue (R122 to R124) -/

/-- The slot is FREE. -/
def Slot.isFree : Slot → Bool
  | .free => true
  | .reserved _ | .filled _ _ => false

/-- The slot is FILLED. -/
def Slot.isFilled : Slot → Bool
  | .filled _ _ => true
  | .free | .reserved _ => false

/-- The FREE count (R122). -/
def State.freeCount (s : State) : Nat := s.loq.toList.countP Slot.isFree

/-- The number of FILLED slots: the next fill number (R122). -/
def State.filledCount (s : State) : Nat := s.loq.toList.countP Slot.isFilled

/-- The lowest-numbered FREE slot (R122). -/
def State.lowestFree (s : State) : Option Nat := s.loq.toList.findIdx? Slot.isFree

/-- Slot `n`. -/
def State.slot (s : State) (n : Nat) : Slot := vget s.loq n .free

/-- Slot `n` becomes RESERVED. -/
def State.reserveSlot (n : Nat) (h : Holder) (s : State) : State := { s with loq := vset s.loq n (.reserved h) }

/-- A frame is written into slot `n`, which takes the next fill number (R122, R124). -/
def State.fillSlot (n : Nat) (f : Frame) (s : State) : State := { s with loq := vset s.loq n (.filled f s.filledCount) }

/-- A fill number after the slot with fill number `k` has become FREE (R122). -/
def Slot.lower (k : Nat) : Slot → Slot
  | .filled f m => .filled f (if k < m then m - 1 else m)
  | .free => .free
  | .reserved h => .reserved h

/-- Slot `n` becomes FREE; fill numbers above its own fall by 1 (R122). -/
def State.freeSlot (n : Nat) (s : State) : State :=
  match s.slot n with
  | .filled _ k => { s with loq := vmap (Slot.lower k) (vset s.loq n .free) }
  | .free | .reserved _ => { s with loq := vset s.loq n .free }

/-- A frame is written into a reply slot, when one is held (R19, R51). -/
def State.answer (slot : Option Nat) (f : Frame) (s : State) : State :=
  match slot with
  | some n => s.fillSlot n f
  | none => s

/-- A reply slot is released, when one is held. -/
def State.releaseReply (slot : Option Nat) (s : State) : State :=
  match slot with
  | some n => s.freeSlot n
  | none => s

/-- A frame is written into the lowest FREE slot, when there is one (R123, R124). -/
def State.fillLowest (f : Frame) (s : State) : State :=
  match s.lowestFree with
  | some n => s.fillSlot n f
  | none => s

/-! ### Notice Set (R131) -/

/-- A NODE item is placed (R64). -/
def State.noticeNode (node : Nat) (st : NodeState) (s : State) : State :=
  { s with notice := { s.notice with nodes := vset s.notice.nodes (node - 1) (some st) } }

/-- A LINK item is placed (R141). -/
def State.noticeLink (p : PortId) (l : LinkState) (s : State) : State :=
  match p with
  | .u => { s with notice := { s.notice with linkU := some l } }
  | .d => { s with notice := { s.notice with linkD := some l } }

/-- The UNREACHABLE item with one more frame for `position` (R131). -/
def Unreachable.next (position : BitVec 6) : Option Unreachable → Unreachable
  | none => { position := position, count := 1 }
  | some u => { position := position, count := if u.count < 255 then u.count + 1 else 255 }

/-- A frame for `position` is unreachable: counted, and its item placed (R154). -/
def State.unreachableFrame (position : BitVec 6) (s : State) : State :=
  let t := s.bump .unreachable
  { t with notice := { t.notice with unreachable := some (Unreachable.next position t.notice.unreachable) } }

/-! ### Exchange Queue (R3, R4) -/

/-- Every queued record, in class order and then list order. -/
def ExchangeQueue.all (q : ExchangeQueue) : List ExRecord := q.c0 ++ q.c1 ++ q.c2 ++ q.c3

/-- The number of queued records (R4). -/
def ExchangeQueue.size (q : ExchangeQueue) : Nat := q.c0.length + q.c1.length + q.c2.length + q.c3.length

/-- A class list. -/
def ExchangeQueue.list (q : ExchangeQueue) (c : Cls) : List ExRecord :=
  if c = 0#2 then q.c0 else if c = 1#2 then q.c1 else if c = 2#2 then q.c2 else q.c3

/-- A record is appended to the tail of its class list (R3). -/
def ExchangeQueue.insert (r : ExRecord) (q : ExchangeQueue) : ExchangeQueue :=
  if r.cls = 0#2 then { q with c0 := q.c0 ++ [r] }
  else if r.cls = 1#2 then { q with c1 := q.c1 ++ [r] }
  else if r.cls = 2#2 then { q with c2 := q.c2 ++ [r] }
  else { q with c3 := q.c3 ++ [r] }

/-- The records that satisfy `p` leave; the others keep their order (R3). -/
def ExchangeQueue.remove (p : ExRecord → Bool) (q : ExchangeQueue) : ExchangeQueue :=
  { c0 := q.c0.filter fun r => !p r
    c1 := q.c1.filter fun r => !p r
    c2 := q.c2.filter fun r => !p r
    c3 := q.c3.filter fun r => !p r }

/-- The oldest record that satisfies `p` in the lowest class that has one, and the queue without it (R21). -/
def ExchangeQueue.takeFirst (p : ExRecord → Bool) (q : ExchangeQueue) : Option (ExRecord × ExchangeQueue) :=
  match q.c0.find? p with
  | some r => some (r, { q with c0 := q.c0.eraseP p })
  | none =>
    match q.c1.find? p with
    | some r => some (r, { q with c1 := q.c1.eraseP p })
    | none =>
      match q.c2.find? p with
      | some r => some (r, { q with c2 := q.c2.eraseP p })
      | none =>
        match q.c3.find? p with
        | some r => some (r, { q with c3 := q.c3.eraseP p })
        | none => none

/-- Free entries (R4). -/
def State.freeEntries (s : State) : Nat := Config.eqCapacity - s.queue.size

/-- The capacity rule (R4): class 0 while at least 1 entry is free, classes 1 to 3 while more than CLASS_RESERVE are. -/
def State.admits (s : State) (c : Cls) : Bool :=
  if c = 0#2 then decide (1 ≤ s.freeEntries) else decide (s.params.classReserve < s.freeEntries)

/-- A record enters the queue. -/
def State.enqueue (r : ExRecord) (s : State) : State := { s with queue := s.queue.insert r }

/-- The record in flight (R2). -/
def State.inflightRecord (s : State) : Option ExRecord := s.dlc.inflight.map Exchange.record

/-- A tag is in use: carried by a queued or in-flight CONTROLLER record (R6). -/
def State.tagInUse (s : State) (tag : Tag) : Bool :=
  s.queue.all.any (ExRecord.hasTag tag) || (s.inflightRecord.map (ExRecord.hasTag tag)).getD false

/-- A PROBE is outstanding, queued or in flight (R7). -/
def State.probeOutstanding (s : State) : Bool :=
  s.queue.all.any ExRecord.isProbe || (s.inflightRecord.map ExRecord.isProbe).getD false

/-- An exchange addressed to node `n` is in flight (R68, R70). -/
def State.nodeInFlight (s : State) (n : Nat) : Bool := (s.inflightRecord.map fun r => decide (r.node = n)).getD false

/-- The REPLY of a CONTROLLER record (R19, R51). -/
def CtlRecord.reply (r : CtlRecord) (o : OutcomeCode) (attempts : Nat) (data : List Byte) : Frame :=
  replyFrame r.tag r.logical r.cls o attempts r.epoch data

/-! ### Node Table (R59, R64) -/

/-- The record of node 1 to 31. -/
def State.node (s : State) (n : Nat) : NodeRecord := vget s.nodes (n - 1) {}

/-- Node numbers that have a record (R59). -/
def isNode (n : Nat) : Bool := decide (1 ≤ n) && decide (n ≤ 31)

/-- The node has a record and it is OFFLINE. -/
def State.nodeOffline (s : State) (n : Nat) : Bool := isNode n && decide ((s.node n).state = .offline)

/-- The record of node `n` replaced, with a NODE item when its state changes (R64). -/
def State.setNode (n : Nat) (r : NodeRecord) (s : State) : State :=
  let t := { s with nodes := vset s.nodes (n - 1) r }
  if (s.node n).state = r.state then t else t.noticeNode n r.state

/-- Nodes 1 to 31 whose record satisfies `p`. -/
def State.countNodes (s : State) (st : NodeState) : Nat := s.nodes.toList.countP fun r => decide (r.state = st)

/-! ### Scan results (R111, R114 to R117) -/

/-- Scan State record `i` (R106). -/
def State.scanRecord (s : State) (i : Nat) : ScanState := vget s.scan.records i {}

/-- Scan State record `i` replaced. -/
def State.setScanRecord (i : Nat) (r : ScanState) (s : State) : State :=
  { s with scan := { s.scan with records := vset s.scan.records i r } }

/-- A missed due (R111). -/
def State.missDue (i : Nat) (s : State) : State :=
  let r := s.scanRecord i
  (s.setScanRecord i { r with missed := if r.missed < 255 then r.missed + 1 else 255 }).bump .scanOverruns

/-- A result is reported: ALWAYS, or ON_CHANGE when it differs from the last judged result (R115). -/
def reportDue (mode : Nat) (r : ScanState) (o : OutcomeCode) (data : List Byte) : Bool :=
  if mode = 1 then
    decide (r.lastOutcome ≠ some o) || (decide (o = .ok) && decide (r.lastData ≠ some data))
  else true

/-- The Scan State after a judged result (R114). -/
def ScanState.judged (r : ScanState) (o : OutcomeCode) (data : List Byte) : ScanState :=
  { r with outstanding := false, lastOutcome := some o, lastData := if o = .ok then some data else none }

/-- The Scan State after its report is written (R116). -/
def ScanState.reported (r : ScanState) : ScanState := { r with sequence := r.sequence + 1#8, missed := 0 }

/-- The report mode of an entry of the ACTIVE bank (R114). -/
def State.scanMode (s : State) (i : Nat) : Nat := (vget s.active.scans i Image.zero).scanMode

/-- A current-epoch SCAN record ends with an outcome (R114, R115, R116). -/
def State.scanJudged (r : ScanRecord) (o : OutcomeCode) (data : List Byte) (s : State) : State :=
  let st := s.scanRecord r.scanIndex
  if reportDue (s.scanMode r.scanIndex) st o data then
    (s.answer r.slot (scanReportFrame r.cls r.scanIndex r.epoch o st.sequence st.missed s.scan.time data)).setScanRecord
      r.scanIndex (st.judged o data).reported
  else (s.releaseReply r.slot).setScanRecord r.scanIndex (st.judged o data)

/-- A current-epoch SCAN record ends without an outcome: its slot is released and its flag cleared (R50, R114). -/
def State.scanUnjudged (r : ScanRecord) (s : State) : State :=
  (s.releaseReply r.slot).setScanRecord r.scanIndex { s.scanRecord r.scanIndex with outstanding := false }

/-- The retired scan becomes absent (R117). -/
def State.dropRetired (s : State) : State := { s with scan := { s.scan with retired := none } }

/-- An old-epoch SCAN record ends: its report is always written when it has an outcome (R117). -/
def State.scanRetired (t : Retired) (r : ScanRecord) (o : Option OutcomeCode) (data : List Byte) (s : State) : State :=
  match o with
  | some o =>
    (s.answer r.slot (scanReportFrame r.cls t.scanIndex r.epoch o t.sequence t.missed s.scan.time data)).dropRetired
  | none => (s.releaseReply r.slot).dropRetired

/-- Scan time is started (R108). -/
def State.startScanTime (s : State) : State := { s with scan := { s.scan with time := 0#32, startPending := true } }

/-- All Scan State records are cleared (R106). -/
def State.clearScanRecords (s : State) : State :=
  { s with scan := { s.scan with records := Vector.replicate 32 {} } }

/-- The outstanding flags of the queued SCAN records are cleared, as they leave the queue (R7, R32). -/
def State.clearQueuedFlags (s : State) : State :=
  { s with
    scan := { s.scan with
      records := s.queue.all.foldl
        (fun v r => match r with
          | .scan c => vset v c.scanIndex { vget v c.scanIndex {} with outstanding := false }
          | .controller _ | .probe _ => v) s.scan.records } }

/-! ### One scan due (R110 to R113) -/

/-- A due whose node is OFFLINE (R113). -/
def State.offlineDue (i : Nat) (img : Image) (s : State) : State :=
  let st := s.scanRecord i
  if reportDue img.scanMode st .nodeOffline [] then
    if 4 ≤ s.freeCount then
      (s.fillLowest (scanReportFrame (BitVec.ofNat 2 img.scanClass) i s.epoch .nodeOffline st.sequence st.missed
        s.scan.time [])).setScanRecord i (st.judged .nodeOffline []).reported
    else s.missDue i
  else s.setScanRecord i (st.judged .nodeOffline [])

/-- The SCAN record of a due (R112). -/
def scanRecordOf (i : Nat) (img : Image) (epoch : Word16) : ScanRecord :=
  { scanIndex := i, epoch := epoch, cls := BitVec.ofNat 2 img.scanClass, node := img.scanNode, index := img.scanFirst,
    count := img.scanLength, retry := img.scanRetry, slot := none }

/-- A due of entry `i` is judged by the first of R110's conditions that holds. -/
def State.judgeDue (i : Nat) (s : State) : State :=
  let img := vget s.active.scans i Image.zero
  let st := s.scanRecord i
  if st.outstanding then s.missDue i
  else if s.nodeOffline img.scanNode then s.offlineDue i img
  else if s.admits (BitVec.ofNat 2 img.scanClass) then
    (s.enqueue (.scan (scanRecordOf i img s.epoch))).setScanRecord i { st with outstanding := true }
  else s.missDue i

/-- The dues that the last scan step still owes are judged, in index order (log entry 3). -/
def State.settleDues (s : State) : State :=
  s.scan.duesOwed.foldl (fun t i => t.judgeDue i) { s with scan := { s.scan with duesOwed := [] } }

/-! ### Expiry and the revival point (R25, R66) -/

/-- A queued record's age reaches its age limit (R25). -/
def ExRecord.isExpired (now : Word32) : ExRecord → Bool
  | .controller r => decide (r.ageLimit ≠ 0#8) && decide (r.ageLimit.toNat ≤ (now - r.arrival).toNat)
  | .scan _ | .probe _ => false

/-- One expired record is answered and counted (R25). -/
def State.expireOne (s : State) : ExRecord → State
  | .controller r => (s.answer r.slot (r.reply .expired 0 [])).bump .expired
  | .scan _ | .probe _ => s

/-- Every expired record leaves, its REPLY written in class order and then list order (R25, R124). -/
def State.takeExpired (s : State) : State :=
  let gone := s.queue.all.filter (ExRecord.isExpired s.timer.count)
  gone.foldl State.expireOne { s with queue := s.queue.remove (ExRecord.isExpired s.timer.count) }

/-- The order in which a revival point examines the nodes: cursor + 1 to 31, then 1 to the cursor (R66). -/
def revivalOrder (cursor : Nat) : List Nat :=
  ((List.range 31).map (· + 1)).filter (cursor < ·) ++ ((List.range 31).map (· + 1)).filter (· ≤ cursor)

/-- A revival point: the first OFFLINE node after the cursor gets a PROBE, when the capacity rule admits it (R66). -/
def State.reviveNow (s : State) : State :=
  if s.probeOutstanding then s
  else
    match (revivalOrder s.scan.reviveCursor).find? fun n => s.nodeOffline n with
    | none => s
    | some n =>
      if s.admits 3#2 then
        let t := s.enqueue (.probe n)
        { t with scan := { t.scan with reviveCursor := n } }
      else s

/-- The revival point that the last tick owes is taken (log entry 3). -/
def State.settleRevival (s : State) : State :=
  if s.scan.revivalOwed then { s with scan := { s.scan with revivalOwed := false } }.reviveNow else s

/-- The events that the last tick owes are taken: expiry, the revival point, the dues (log entry 3). -/
def State.settleTick (s : State) : State := s.takeExpired.settleRevival.settleDues

/-! ### DLC states (R37, R47, R56) -/

/-- The DLC enters GUARD for so many char times (R47). -/
def State.enterGuard (charTimes : Nat) (s : State) : State :=
  { s with dlc := { s.dlc with state := .guard, interval := charTimes } }

/-- The DLC enters IDLE; pending line settings become current (R56). -/
def State.enterIdle (s : State) : State :=
  { s with
    dlc := { s.dlc with state := .idle, interval := 0, cur := applyPending s.dlc.cur s.dlc.pend, pend := {} } }

/-- The DLC enters HALTED; pending line settings become current and the halt request flag is cleared (R47, R56). -/
def State.enterHalted (s : State) : State :=
  { s with
    dlc := { s.dlc with
      state := .halted, interval := 0, cur := applyPending s.dlc.cur s.dlc.pend, pend := {}, haltReq := false } }

/-- With no exchange in flight GUARD ends in HALTED or IDLE (R47). -/
def State.leaveGuard (s : State) : State := if s.dlc.haltReq then s.enterHalted else s.enterIdle

/-- The in-flight exchange replaced. -/
def State.setInflight (x : Option Exchange) (s : State) : State := { s with dlc := { s.dlc with inflight := x } }

/-! ### The Inbox head (R8, R162) -/

/-- The Inbox head is taken when it satisfies `want` and a slot is FREE: it leaves the Inbox, the lowest FREE slot
becomes RESERVED, and Port U's receive side judges its flow control (R8, R149). -/
def State.takeHead (want : Frame → Bool) (s : State) : Option (Frame × Nat × State) :=
  match s.inbox with
  | [] => none
  | f :: rest =>
    if want f then
      match s.lowestFree with
      | none => none
      | some n => some (f, n, ({ s with inbox := rest }.reserveSlot n .dispatch).judgeU)
    else none

/-- The dues that the last scan step still owes are judged before an Inbox head that satisfies `want` is taken. They fall
before its dispatch, while it claims no slot (R109, R162, R181, log entry 3). -/
def State.settleBefore (want : Frame → Bool) (s : State) : State :=
  match s.inbox with
  | [] => s
  | f :: _ => if want f && s.lowestFree.isSome then s.settleDues else s

/-- An event of a bridge that is held in its hard reset has no effect (R161); otherwise it takes `f`'s effect. -/
def live (f : State → State) (s : State) : Host.Outcome State Fault Refusal :=
  .next (if s.inReset then s else f s)

end Sys2Proof.Machine
end

