-- ==== Sys2Proof/Machine/Admission.lean ====
section
/-! DEFINITION. REQUEST_ADMISSION: the seven checks in order (R9 to R17) and the admitted record (R18). -/

namespace Sys2Proof.Machine

/-- The function bits of a REQUEST's code, bits 7 to 6 (R185). -/
def requestFn (f : Frame) : BitVec 2 := f.code.extractLsb' 6 2

/-- The count bits of a REQUEST's code, bits 5 to 0 (R185). -/
def requestCount (f : Frame) : Nat := (f.code.extractLsb' 0 6).toNat

/-- The REQUEST is a READ. -/
def isRead (f : Frame) : Bool := requestFn f == 1#2

/-- The REQUEST is a WRITE. -/
def isWrite (f : Frame) : Bool := requestFn f == 2#2

/-- Check 2: function, count and payload form (R11). -/
def requestFormOk (f : Frame) : Bool :=
  (isRead f && decide (1 ≤ requestCount f) && decide (requestCount f ≤ 32) && f.payload.isEmpty) ||
  (isWrite f && decide (1 ≤ f.payload.length) && decide (f.payload.length ≤ 32))

/-- The number of logical addresses a REQUEST covers (R11). -/
def requestWidth (f : Frame) : Nat := if isRead f then requestCount f else f.payload.length

/-- Check 5: the route's access and node against the function (R15). -/
def accessAllows (img : Image) (f : Frame) : Bool :=
  if img.routeNode = 0 then isWrite f
  else
    match img.routeAccess with
    | some .readOnly => isRead f
    | some .writeOnly => isWrite f
    | some .readWrite => true
    | none => false

/-- The outcome and class of a refusal, or the winning entry of a REQUEST that passes all seven checks (R9). -/
inductive AdmissionVerdict where
  | refuse (o : OutcomeCode) (cls : Cls)
  | accept (img : Image)
  deriving DecidableEq, Repr

/-- The seven checks in their order (R9 to R17). -/
def State.judgeRequest (s : State) (f : Frame) : AdmissionVerdict :=
  if s.guarded then .refuse .guarded f.cls
  else if !requestFormOk f then .refuse .payloadError f.cls
  else if s.tagInUse f.tag then .refuse .tagInUse f.cls
  else
    match lookup s.active f.logical.toNat (requestWidth f) with
    | none => .refuse .noRoute f.cls
    | some img =>
      if !accessAllows img f then .refuse .accessDenied (resolveClass img f.cls)
      else if s.nodeOffline img.routeNode then .refuse .nodeOffline (resolveClass img f.cls)
      else if !s.admits (resolveClass img f.cls) then .refuse .queueFull (resolveClass img f.cls)
      else .accept img

/-- The function of the admitted record (R15, R18). -/
def admittedFn (img : Image) (f : Frame) : Fn :=
  if isRead f then .read (requestCount f)
  else if img.routeNode = 0 then .bwrite f.payload
  else .write f.payload

/-- The CONTROLLER record of an admitted REQUEST (R18). -/
def State.admittedRecord (s : State) (img : Image) (f : Frame) (slot : Nat) : CtlRecord :=
  { tag := f.tag, epoch := s.epoch, cls := resolveClass img f.cls, node := img.routeNode, fn := admittedFn img f,
    index := img.routeIndexBase + (f.logical.toNat - img.routeBase), logical := f.logical, retry := img.routeRetry,
    ageLimit := f.aux, arrival := s.timer.count, slot := some slot, cancelMark := false }

/-- The admission of one REQUEST, its slot claimed (R9, R18). -/
def State.admitRequest (f : Frame) (slot : Nat) (s : State) : State :=
  match s.judgeRequest f with
  | .refuse o cls => (s.fillSlot slot (replyFrame f.tag f.logical cls o 0 s.epoch [])).bump .refused
  | .accept img => (s.reserveSlot slot .exchange).enqueue (.controller (s.admittedRecord img f slot))

/-- REQUEST_ADMISSION (R8, R9): the REQUEST at the Inbox head is taken when a slot is FREE. -/
def execRequestAdmission (s : State) : Host.Outcome State Fault Refusal :=
  live (fun s =>
    match s.takeHead (fun f => decide (f.kind = .request)) with
    | none => s
    | some (f, n, t) => t.admitRequest f n) s

end Sys2Proof.Machine
end

