-- ==== Sys2Proof/Machine/Exchange.lean ====
section
/-! DEFINITION. Drop exchanges: SELECTION (R20 to R23), the attempt on the line (R38 to R44, R46), steps and retries (R45,
R47, R48), completion (R49 to R52, R60 to R63), and the character that ends after a soft reset (R57). -/

namespace Sys2Proof.Machine

/-! ### Starting (R38, R39) -/

/-- The DLC enters TRANSMIT for an attempt of the exchange's current step: the attempt is counted, and RETRIES rises when
it is not the first of its step (R38, R39). The read-back limit is one char time (R41). -/
def State.beginAttempt (x : Exchange) (s : State) : State :=
  let first := match x.step with
    | .sync => decide (x.syncSent = 0)
    | .main => decide (x.mainSent = 0)
  let x' := match x.step with
    | .sync => { x with syncSent := x.syncSent + 1, response := [] }
    | .main => { x with mainSent := x.mainSent + 1, response := [] }
  let t := { s with dlc := { s.dlc with state := .transmit, inflight := some x', interval := 1 } }
  if first then t else t.bump .retries

/-- The toggle of a MAIN step: 0 for node 0 and after a SYNC step that succeeded, otherwise the node record's next toggle
(R34, R48, R62). -/
def State.mainToggle (s : State) (x : Exchange) : Bool :=
  if x.record.node = 0 || x.hasSync then false else (s.node x.record.node).nextToggle

/-- The exchange with its MAIN step begun (R34, R38). -/
def State.mainStep (s : State) (x : Exchange) : Exchange :=
  { x with
    step := .main, anyBad := false, toggle := s.mainToggle x, request := mainRequest x.record (s.mainToggle x) }

/-- The plan of an exchange (R38): a SYNC step first for a PROBE, and for node 1 to 31 whose record says NEEDS_SYNC. -/
def State.planExchange (s : State) (r : ExRecord) : Exchange :=
  let needs := r.isProbe || (isNode r.node && decide ((s.node r.node).sync = .needsSync))
  let x : Exchange := { record := r, hasSync := needs, step := .sync, request := syncRequest r.node }
  if needs then x else s.mainStep x

/-- The exchange of a selected record starts: the session-lost flag is cleared and the first attempt begins (R38). -/
def State.startExchange (r : ExRecord) (s : State) : State :=
  { s with dlc := { s.dlc with sessionLost := false } }.beginAttempt (s.planExchange r)

/-! ### Selection (R20 to R23) -/

/-- A record is startable: a SCAN while at least 4 slots are FREE, the others always (R20). -/
def State.startable (s : State) (r : ExRecord) : Bool := !r.isScan || decide (4 ≤ s.freeCount)

/-- Taking a SCAN record reserves the lowest FREE slot as its reply slot (R22). -/
def State.claimScanSlot (r : ExRecord) (s : State) : ExRecord × State :=
  if r.isScan then
    match s.lowestFree with
    | some n => (r.withSlot (some n), s.reserveSlot n .exchange)
    | none => (r, s)
  else (r, s)

/-- A CONTROLLER or SCAN record whose node is OFFLINE completes at once (R23). -/
def State.completeOffline (r : ExRecord) (s : State) : State :=
  match r with
  | .controller c => (s.answer c.slot (c.reply .nodeOffline 0 [])).bump .refused
  | .scan c => s.scanJudged c .nodeOffline []
  | .probe _ => s

/-- A taken record is completed offline or started (R22). -/
def State.runRecord (r : ExRecord) (s : State) : State :=
  if !r.isProbe && s.nodeOffline r.node then s.completeOffline r else s.startExchange r

/-- The oldest startable record of the first class that has one is taken (R21). -/
def State.select (s : State) : State :=
  match s.queue.takeFirst s.startable with
  | none => s
  | some (r, q) =>
    let c := { s with queue := q }.claimScanSlot r
    c.2.runRecord c.1

/-- SELECTION (R20, R21): made in IDLE while a startable record is queued. -/
def execSelection (s : State) : Host.Outcome State Fault Refusal :=
  live (fun s => if s.dlc.state = .idle then s.select else s) s

/-! ### Completion (R49 to R52, R60 to R63) -/

/-- The verdicts (R52). -/
inductive Verdict where
  | synchronised
  | healthySync
  | healthyMain
  | failure
  | noChange
  | lineFault
  deriving DecidableEq, Repr

/-- The outcome is that of a valid response (R44). -/
def validOutcome (o : OutcomeCode) : Bool := o == .ok || o == .nodeBusy || o == .nodeRefused

/-- A MAIN step follows a SYNC step that succeeded (R52, R62). -/
def Exchange.carried (x : Exchange) : Bool := x.hasSync && decide (x.step = .main)

/-- The verdict of a completed exchange, drawn from the step that ran last (R52). With no attempt recorded, which no run
reaches, only a SYNC step that succeeded speaks (log entry 20). -/
def Exchange.verdict (x : Exchange) : Verdict :=
  match x.lastOutcome with
  | none => if x.carried then .synchronised else .noChange
  | some o =>
    if o = .lineFault then .lineFault
    else
      match x.step with
      | .sync =>
        if o = .ok then .synchronised
        else if validOutcome o then .healthySync
        else if x.anyBad then .failure
        else .noChange
      | .main =>
        if validOutcome o then .healthyMain
        else if x.anyBad then .failure
        else if x.hasSync then .synchronised
        else .noChange

/-- A health failure applied to a record (R60, R61). -/
def NodeRecord.fail (threshold : Nat) (r : NodeRecord) : NodeRecord :=
  match r.state with
  | .offline => r
  | .suspect =>
    { r with failures := r.failures + 1, state := if threshold ≤ r.failures + 1 then .offline else .suspect }
  | .unknown | .online => { r with failures := 1, state := if threshold ≤ 1 then .offline else .suspect }

/-- A SYNC step's success carried into a MAIN step's verdict (R62). -/
def NodeRecord.carrySync (carried : Bool) (r : NodeRecord) : NodeRecord :=
  if carried then { r with sync := .inSync, nextToggle := false } else r

/-- A verdict applied to a record: health by R60, sync and next toggle by R62. -/
def NodeRecord.apply (threshold : Nat) (carried : Bool) (v : Verdict) (r : NodeRecord) : NodeRecord :=
  let b := r.carrySync carried
  match v with
  | .synchronised => { b with state := .online, failures := 0, sync := .inSync, nextToggle := false }
  | .healthySync => { b with state := .online, failures := 0 }
  | .healthyMain => { b with state := .online, failures := 0, nextToggle := !b.nextToggle }
  | .failure => { b.fail threshold with sync := .needsSync }
  | .noChange => b
  | .lineFault => { b with sync := .needsSync }

/-- The last outcome recorded for the node: the exchange outcome, or that of the last attempt when there is none (R63). -/
def Exchange.recorded (x : Exchange) (o : Option OutcomeCode) : Option OutcomeCode :=
  match o with
  | some o => some o
  | none => x.lastOutcome

/-- The verdict reaches the record of a node 1 to 31 (R52, R60 to R64). -/
def State.handVerdict (x : Exchange) (o : Option OutcomeCode) (s : State) : State :=
  if isNode x.record.node then
    s.setNode x.record.node
      { (s.node x.record.node).apply s.params.offlineThreshold x.carried x.verdict with lastOutcome := x.recorded o }
  else s

/-- The number of requests sent in the exchange (R49). -/
def Exchange.attempts (x : Exchange) : Nat := x.syncSent + x.mainSent

/-- The result of a completed exchange goes by its record's origin (R50, R51, R114, R117, R118). A CONTROLLER exchange
always ends with an outcome; for want of one its slot would be released (log entry 20). -/
def State.handResult (x : Exchange) (o : Option OutcomeCode) (data : List Byte) (s : State) : State :=
  match x.record with
  | .controller r =>
    if s.dlc.sessionLost then s
    else
      match o with
      | some o => s.answer r.slot (r.reply o x.attempts data)
      | none => s.releaseReply r.slot
  | .scan r =>
    if s.dlc.sessionLost then s.dropRetired
    else
      match s.scan.retired with
      | some t => s.scanRetired t r o data
      | none =>
        match o with
        | some o => s.scanJudged r o data
        | none => s.scanUnjudged r
  | .probe _ => s

/-- The exchange counted by its outcome (R49). -/
def State.countOutcome (o : Option OutcomeCode) (s : State) : State :=
  match o with
  | some .ok | some .sent => s.bump .exchOk
  | some .nodeBusy | some .nodeRefused | some .noResponse | some .badResponse | some .lineContention
  | some .lineFault => s.bump .exchFail
  | some .noRoute | some .accessDenied | some .nodeOffline | some .queueFull | some .tagInUse | some .payloadError
  | some .expired | some .cancelled | some .guarded | none => s

/-- An exchange completes (R49): its result is handed on, its node gets its verdict, it is counted, and its record is
discarded. -/
def State.complete (x : Exchange) (o : Option OutcomeCode) (data : List Byte) (s : State) : State :=
  (((s.handResult x o data).handVerdict x o).countOutcome o).setInflight none

/-! ### Attempts and steps (R45, R50) -/

/-- Some withdrawal condition holds (R50). -/
def State.withdrawn (s : State) (x : Exchange) : Bool :=
  x.record.cancelMark || s.dlc.haltReq || s.dlc.sessionLost

/-- The outcome of a withdrawn exchange (R50). -/
def Exchange.withdrawnOutcome (x : Exchange) : Option OutcomeCode :=
  if x.mainSent ≠ 0 then x.lastOutcome
  else if x.record.cancelMark then some .cancelled
  else if x.lastOutcome = some .ok then
    if x.record.isController then some .cancelled else none
  else x.lastOutcome

/-- Attempts the current step allows (R38, R83). -/
def Exchange.allowed (x : Exchange) : Nat :=
  match x.step with
  | .sync => 2
  | .main => x.record.retry + 1

/-- Attempts sent in the current step. -/
def Exchange.sentInStep (x : Exchange) : Nat :=
  match x.step with
  | .sync => x.syncSent
  | .main => x.mainSent

/-- After this outcome another attempt or step follows (R45). -/
def Exchange.follows (x : Exchange) (o : OutcomeCode) : Bool :=
  match o with
  | .ok => decide (x.step = .sync) && !x.record.isProbe
  | .noResponse | .badResponse | .lineContention => decide (x.sentInStep < x.allowed)
  | .nodeBusy | .nodeRefused | .lineFault | .sent | .noRoute | .accessDenied | .nodeOffline | .queueFull | .tagInUse
  | .payloadError | .expired | .cancelled | .guarded => false

/-- The exchange with an attempt's outcome recorded (R37). -/
def Exchange.noted (x : Exchange) (o : OutcomeCode) : Exchange :=
  { x with lastOutcome := some o, anyBad := x.anyBad || o == .noResponse || o == .badResponse }

/-- An attempt's outcome is recorded and the decision taken (R45, R50). -/
def State.recordAttempt (x : Exchange) (o : OutcomeCode) (data : List Byte) (s : State) : State :=
  let y := x.noted o
  if x.follows o then
    if s.withdrawn y then s.complete y y.withdrawnOutcome [] else s.setInflight (some y)
  else s.complete y (some o) data

/-- An attempt ends and GUARD of T_GUARD follows (R40, R42, R43). -/
def State.endAttempt (x : Exchange) (o : OutcomeCode) (data : List Byte) (s : State) : State :=
  (s.recordAttempt x o data).enterGuard s.dlc.cur.tGuard

/-! ### TRANSMIT (R39 to R41) -/

/-- The exchange whose request is being sent. While the DLC only finishes the character that a soft reset has cut (R57) there
is none, so a read-back of that character that differs or is missing counts, latches and halts nothing: the model's choice,
log entry 26. -/
def State.transmitting (s : State) : Option Exchange :=
  if s.dlc.state = .transmit ∧ s.dlc.stopping = false then s.dlc.inflight else none

/-- READ_BACK_COMPLETE (R39, R48). -/
def execReadBackComplete (s : State) : Host.Outcome State Fault Refusal :=
  live (fun s =>
    match s.transmitting with
    | none => s
    | some x =>
      let t := if x.step = .sync then s.bump .syncs else s
      if x.record.isBwrite then
        (t.setInflight (some { x with broadcastDone := true })).enterGuard s.dlc.cur.tBcast
      else { t with dlc := { t.dlc with state := .await, interval := t.dlc.cur.tResp } }) s

/-- The read-back of character `k` differs from the character sent, all 11 bits, or has a framing error (R39, R40). -/
def Exchange.mismatch (x : Exchange) (k : Nat) (rb : DropChar) : Bool :=
  match x.request[k]? with
  | some c => decide (rb ≠ c)
  | none => false

/-- LINE_CONTENTION (R40). A read-back that matches is no contention. -/
def execLineContention (k : Nat) (rb : DropChar) (s : State) : Host.Outcome State Fault Refusal :=
  live (fun s =>
    match s.transmitting with
    | none => s
    | some x =>
      if x.mismatch k rb then ((s.bump .contention).latch .dropContention).endAttempt x .lineContention [] else s) s

/-- LINE_FAULT (R41): the exchange ends whatever attempts remain, and the DLC enters HALTED. -/
def execLineFault (s : State) : Host.Outcome State Fault Refusal :=
  live (fun s =>
    match s.transmitting with
    | none => s
    | some x =>
      ((s.latch .dropLineDead).complete (x.noted .lineFault) (some .lineFault) []).enterHalted) s

/-! ### Received characters (R42, R43, R46) -/

/-- A stray character (R46). -/
def State.stray (s : State) : State := (s.bump .strayBytes).latch .strayTraffic

/-- The response is judged and its outcome recorded (R43, R44). -/
def State.endResponse (x : Exchange) (s : State) : State :=
  let j := judgeResponse x.step x.record x.toggle x.response
  s.endAttempt x j.1 j.2

/-- A character is received outside TRANSMIT; the state it arrives in decides (R42, R43, R46). In TRANSMIT every received
character is a read-back, which has commands of its own. -/
def State.receiveChar (c : DropChar) (s : State) : State :=
  match s.dlc.state with
  | .idle | .guard | .halted => s.stray
  | .transmit => s
  | .await =>
    if c.mark then
      match s.dlc.inflight with
      | none => s
      | some x =>
        { s with
          dlc := { s.dlc with
            state := .receive, interval := s.dlc.cur.tGap, inflight := some { x with response := [c] } } }
    else s.stray
  | .receive =>
    match s.dlc.inflight with
    | none => s
    | some x =>
      let y := { x with response := x.response ++ [c] }
      if 37 ≤ y.response.length then s.endResponse y else s.setInflight (some y)

/-- RESPONSE_START (R42): an address character, mark set. -/
def execResponseStart (data : Byte) (framing : Bool) (s : State) : Host.Outcome State Fault Refusal :=
  live (State.receiveChar { mark := true, data := data, framing := framing }) s

/-- RESPONSE_CHARACTER (R43). -/
def execResponseCharacter (c : DropChar) (s : State) : Host.Outcome State Fault Refusal :=
  live (State.receiveChar c) s

/-- STRAY_CHARACTER (R46). -/
def execStrayCharacter (c : DropChar) (s : State) : Host.Outcome State Fault Refusal :=
  live (State.receiveChar c) s

/-- NO_RESPONSE (R42): the turnaround window ends. -/
def execNoResponse (s : State) : Host.Outcome State Fault Refusal :=
  live (fun s =>
    match s.dlc.state, s.dlc.inflight with
    | .await, some x => s.endAttempt x .noResponse []
    | _, _ => s) s

/-- RESPONSE_END (R43): T_GAP of idle after the last character. -/
def execResponseEnd (s : State) : Host.Outcome State Fault Refusal :=
  live (fun s =>
    match s.dlc.state, s.dlc.inflight with
    | .receive, some x => s.endResponse x
    | _, _ => s) s

/-! ### GUARD (R47) -/

/-- The next attempt or step of an exchange still in flight (R45, R47). -/
def State.continueExchange (x : Exchange) (s : State) : State :=
  if x.step = .sync ∧ x.lastOutcome = some .ok then s.beginAttempt (s.mainStep x) else s.beginAttempt x

/-- GUARD ends (R47, R48, R50). -/
def State.endGuard (s : State) : State :=
  match s.dlc.inflight with
  | none => s.leaveGuard
  | some x =>
    if x.broadcastDone then (s.complete (x.noted .sent) (some .sent) []).leaveGuard
    else if s.withdrawn x then (s.complete x x.withdrawnOutcome []).leaveGuard
    else s.continueExchange x

/-- GUARD_END (R47). -/
def execGuardEnd (s : State) : Host.Outcome State Fault Refusal :=
  live (fun s => if s.dlc.state = .guard then s.endGuard else s) s

/-- RESET_CHARACTER_FINISHED (R57): the character being sent at a soft reset ends; DDE is deasserted and GUARD of T_GUARD
follows. -/
def execResetCharacterFinished (s : State) : Host.Outcome State Fault Refusal :=
  live (fun s =>
    if s.dlc.state = .transmit ∧ s.dlc.stopping = true then
      { s with dlc := { s.dlc with stopping := false } }.enterGuard s.dlc.cur.tGuard
    else s) s

end Sys2Proof.Machine
end

