-- ==== Sys2Proof/Machine/Links.lean ====
section
/-! DEFINITION. The chain ports: LINK_UP (R139), LINK_DOWN (R140, R155, R159), HOLD and GO (R148), frame arrivals
(R142 to R147, R151 to R154), ENUMERATE (R156, R157), CHAIN_END_ACK (R157), FRAME_START_IN_RECEPTION (R142). -/

namespace Sys2Proof.Machine

/-- A port of the bridge. -/
def State.port (s : State) : PortId → Port
  | .u => s.portU
  | .d => s.portD

/-- A port replaced. -/
def State.setPort (p : PortId) (q : Port) (s : State) : State :=
  match p with
  | .u => { s with portU := q }
  | .d => { s with portD := q }

/-- The port's link is UP. -/
def State.isUp (s : State) (p : PortId) : Bool := decide ((s.port p).link = .up)

/-- The acquisition count after some symbol times (R139): none when it reaches 1,024, the event at which the run ends. -/
def acquire : Nat → List SymbolTime → Option Nat
  | n, [] => some n
  | n, t :: rest =>
    if validTime t then if Config.acquisitionLimit ≤ n + 1 then none else acquire (n + 1) rest else acquire 0 rest

/-- The silence count after some symbol times (R140): none when it reaches 256, the event at which the run ends. -/
def silence : Nat → List SymbolTime → Option Nat
  | n, [] => some n
  | n, t :: rest =>
    if validTime t then silence 0 rest else if Config.silenceLimit ≤ n + 1 then none else silence (n + 1) rest

/-- Port `p` enters UP (R139, R141, R118). -/
def State.enterUp (p : PortId) (s : State) : State :=
  let t := (s.setPort p { s.port p with link := .up, acquisition := 0, silence := 0, held := false, holdSent := false })
    |>.noticeLink p .up
  match p with
  | .u => t.clearScanRecords.startScanTime.judgeU
  | .d => t.judgeD

/-- LINK_UP (R139): the symbol times a DOWN port sees, up to the one that brings the count to 1,024. -/
def execLinkUp (p : PortId) (times : List SymbolTime) (s : State) : Host.Outcome State Fault Refusal :=
  live (fun s =>
    if s.isUp p then s
    else
      match acquire (s.port p).acquisition times with
      | some n => s.setPort p { s.port p with acquisition := n }
      | none => s.enterUp p) s

/-- A port that enters DOWN (R140). -/
def Port.fall (q : Port) : Port :=
  { q with
    link := .down, acquisition := 0, silence := Config.silenceLimit, held := false, holdSent := false, rx := none,
    flowOut := none }

/-- The in-flight exchange at uplink loss: its record loses its reply slot and the session-lost flag is set (R32, R58). -/
def Dlc.loseSession (d : Dlc) : Dlc :=
  match d.inflight with
  | none => d
  | some x => { d with inflight := some { x with record := x.record.withSlot none }, sessionLost := true }

/-- Uplink loss (R32, R58, R104, R118, R137, R159). -/
def State.uplinkLoss (s : State) : State :=
  { s.clearQueuedFlags with
    htq := []
    inbox := []
    chainEnd := none
    uTx := none
    loq := Vector.replicate 64 .free
    streak := 0
    queue := {}
    commit := s.commit.map fun c => { c with slot := none }
    dlc := s.dlc.loseSession }

/-- One frame discarded from the OTQ as Port D enters DOWN (R155). -/
def State.discardOutward (s : State) (f : Frame) : State :=
  if (f.kind = .request ∨ f.kind = .control) ∧ f.position ≠ 63#6 then s.unreachableFrame f.position else s

/-- The OTQ is emptied as Port D enters DOWN (R155). Its frames are counted from head to tail, so the item ends with the
target of the last addressed one: the spec gives no order, the model's choice (log entry 27). -/
def State.discardOtq (s : State) : State :=
  s.otq.foldl State.discardOutward { s with otq := [], dTx := none }

/-- Port `p` enters DOWN (R140, R141). The dues of a scan step already taken fall before the loss (log entry 3). -/
def State.enterDown (p : PortId) (s : State) : State :=
  match p with
  | .u => ((s.settleDues.setPort .u s.portU.fall).uplinkLoss.noticeLink .u .down).judgeD
  | .d => ((s.setPort .d s.portD.fall).discardOtq.noticeLink .d .down).judgeU

/-- An invalid symbol inside a frame in reception (R143). -/
def Port.spoil (times : List SymbolTime) (q : Port) : Port :=
  { q with rx := q.rx.map fun r => { r with invalid := r.invalid || times.any invalidTime } }

/-- LINK_DOWN (R140): the symbol times an UP port sees, up to the one that brings the count to 256. -/
def execLinkDown (p : PortId) (times : List SymbolTime) (s : State) : Host.Outcome State Fault Refusal :=
  live (fun s =>
    if s.isUp p then
      match silence (s.port p).silence times with
      | some n => s.setPort p { (s.port p).spoil times with silence := n }
      | none => s.enterDown p
    else s) s

/-- HOLD (R148). A DOWN port takes no part in flow control (R140). -/
def execHold (p : PortId) (s : State) : Host.Outcome State Fault Refusal :=
  live (fun s => if s.isUp p then s.setPort p { s.port p with held := true, silence := 0 } else s) s

/-- GO (R148). -/
def execGo (p : PortId) (s : State) : Host.Outcome State Fault Refusal :=
  live (fun s => if s.isUp p then s.setPort p { s.port p with held := false, silence := 0 } else s) s

/-! ### Queues (R144 to R147) -/

/-- A frame copy discarded for a full queue (R147). -/
def State.overflow (s : State) : State := (s.bump .receiveOverflow).latch .receiveOverflow

/-- A frame is placed in the OTQ, or discarded when it is full (R144, R147). -/
def State.placeOtq (f : Frame) (s : State) : State :=
  if s.otq.length < Config.otqCapacity then { s with otq := s.otq ++ [f] } else s.overflow

/-- A frame is placed in the HTQ, or discarded when it is full (R145, R147). -/
def State.placeHtq (f : Frame) (s : State) : State :=
  if s.htq.length < Config.htqCapacity then { s with htq := s.htq ++ [f] } else s.overflow

/-- A frame is placed in the Local Inbox, or discarded when it is full (R146, R147). -/
def State.placeInbox (f : Frame) (s : State) : State :=
  if s.inbox.length < Config.inboxCapacity then { s with inbox := s.inbox ++ [f] } else s.overflow

/-- A check error on a port (R143). -/
def State.checkError (p : PortId) (s : State) : State :=
  match p with
  | .u => (s.bump .chainCheckU).latch .chainCheckU
  | .d => (s.bump .chainCheckD).latch .chainCheckD

/-! ### Enumeration (R156, R157) -/

/-- The count sent on (R156). -/
def countSentOn (c : Byte) : Byte := if c.toNat ≤ 61 then c + 1#8 else c

/-- Own position after an ENUMERATE of count `c` (R156). -/
def positionAfter (c : Byte) : Nat := if c.toNat ≤ 61 then c.toNat + 1 else 0

/-- A good ENUMERATE with count `c` arrives on Port U (R156, R157). -/
def State.enumerateAt (h : Header) (c : Byte) (s : State) : State :=
  let t := { s with position := positionAfter c }
  if t.isUp .d then t.placeOtq { h with kind := .enumerate, payload := [countSentOn c] }
  else { t with chainEnd := some { tag := h.tag, cls := h.cls, count := countSentOn c } }

/-! ### The Outward Switch (R151 to R154) -/

/-- This bridge is selected by a broadcast CONTROL (R152). -/
def State.selectedBy (s : State) (f : Frame) : Bool :=
  if f.mark then
    match f.payload with
    | first :: last :: _ => s.assigned && decide (first.toNat ≤ s.position) && decide (s.position ≤ last.toNat)
    | _ => false
  else true

/-- A broadcast CONTROL (R152). -/
def State.broadcastControl (f : Frame) (s : State) : State :=
  let t := if s.selectedBy f && broadcastable f.code then s.placeInbox f else s
  if s.isUp .d then t.placeOtq f else t

/-- An outward frame for a position beyond (R151, R154). -/
def State.forwardOutward (f : Frame) (s : State) : State :=
  if s.isUp .d then s.placeOtq f else s.unreachableFrame f.position

/-- A good frame on Port U is judged by its kind and its target (R151). -/
def State.outwardSwitch (f : Frame) (s : State) : State :=
  match f.kind with
  | .enumerate => s.enumerateAt f.toHeader (f.payload.headD 0#8)
  | .request =>
    if s.assigned && decide (f.position.toNat = s.position) then s.placeInbox f
    else if f.position = 63#6 then s.bump .misdirected
    else s.forwardOutward f
  | .control =>
    if s.assigned && decide (f.position.toNat = s.position) then s.placeInbox f
    else if f.position = 63#6 then s.broadcastControl f
    else s.forwardOutward f
  | .reply | .ack | .scanReport | .notice => s.bump .misdirected

/-- A good frame on Port D is judged by its kind alone (R153). -/
def State.homewardSwitch (f : Frame) (s : State) : State :=
  if f.kind.homeward then s.placeHtq f else s.bump .misdirected

/-- The bytes of a frame that ends: those in reception, then those of the event (log entry 8). -/
def Port.wholeFrame (q : Port) (bytes : List Byte) : List Byte :=
  match q.rx with
  | some r => r.bytes ++ bytes
  | none => bytes

/-- An invalid symbol fell inside the frame that ends. -/
def Port.spoiled (q : Port) (invalidSymbol : Bool) : Bool :=
  match q.rx with
  | some r => r.invalid || invalidSymbol
  | none => invalidSymbol

/-- The port after a frame-end symbol: no frame in reception, a valid symbol seen. -/
def Port.frameDone (q : Port) : Port := { q with rx := none, silence := 0 }

/-- U_FRAME_ARRIVAL (R142, R143, R151). A DOWN port receives no frame (R139). -/
def execUFrameArrival (bytes : List Byte) (invalidSymbol : Bool) (s : State) : Host.Outcome State Fault Refusal :=
  live (fun s =>
    if s.isUp .u then
      let t := s.setPort .u s.portU.frameDone
      (match checkFrame (s.portU.wholeFrame bytes) (s.portU.spoiled invalidSymbol) with
        | none => t.checkError .u
        | some f => t.outwardSwitch f).judgeU
    else s) s

/-- ENUMERATE (R156): a good ENUMERATE arrives on Port U. The command stands for the whole arrival, so a frame in reception
ends with it uncounted, whatever it holds and however it is marked: the model's choice (log entry 28). -/
def execEnumerate (h : Header) (count : Byte) (s : State) : Host.Outcome State Fault Refusal :=
  live (fun s =>
    if s.isUp .u then ((s.setPort .u s.portU.frameDone).enumerateAt h count).judgeU else s) s

/-- D_FRAME_ARRIVAL (R142, R143, R153). -/
def execDFrameArrival (bytes : List Byte) (invalidSymbol : Bool) (s : State) : Host.Outcome State Fault Refusal :=
  live (fun s =>
    if s.isUp .d then
      let t := s.setPort .d s.portD.frameDone
      (match checkFrame (s.portD.wholeFrame bytes) (s.portD.spoiled invalidSymbol) with
        | none => t.checkError .d
        | some f => t.homewardSwitch f).judgeD
    else s) s

/-- FRAME_START_IN_RECEPTION (R142, R143): a frame in reception ends as a check error and a new frame begins. -/
def execFrameStartInReception (p : PortId) (data : List Byte) (s : State) : Host.Outcome State Fault Refusal :=
  live (fun s =>
    if s.isUp p then
      let t := s.setPort p { s.port p with rx := some { bytes := data, invalid := false }, silence := 0 }
      if (s.port p).rx.isSome then t.checkError p else t
    else s) s

/-- CHAIN_END_ACK (R157, R123): the pending answer takes a FREE slot. -/
def execChainEndAck (s : State) : Host.Outcome State Fault Refusal :=
  live (fun s =>
    match s.chainEnd, s.lowestFree with
    | some a, some n =>
      { s.fillSlot n (ackFrame a.cls a.tag enumerateCode .chainEnd [a.count]) with chainEnd := none }
    | _, _ => s) s

end Sys2Proof.Machine
end

