-- ==== Sys2Proof/Machine/Homeward.lean ====
section
/-! DEFINITION. Sending: MERGE_GRANT (R126 to R129), U_TX_FRAME_END (R127, R130, R136), OTQ_SEND_START and OTQ_SEND_END
(R144), NOTICE_PLACE (R133, R134). -/

namespace Sys2Proof.Machine

/-! ### The next local frame (R126) -/

/-- The group of a local frame in R126's order: ACK and NOTICE, then REPLY by class, then SCAN_REPORT. -/
def Frame.rank (f : Frame) : Nat :=
  match f.kind with
  | .ack | .notice => 0
  | .reply => 1 + f.cls.toNat
  | .scanReport => 5
  | .request | .control | .enumerate => 6

/-- The key that orders local frames: group, then fill number (0 to 63). -/
def Frame.sendKey (f : Frame) (fill : Nat) : Nat := f.rank * 64 + fill

/-- The slot is the source of the frame being sent. -/
def State.sendingSlot (s : State) (n : Nat) : Bool :=
  match s.uTx with
  | some t => decide (t.source = .slot n)
  | none => false

/-- The first slot of least key among the FILLED slots of a list that starts at slot `n`, those being sent passed over. -/
def bestSlot (sending : Nat → Bool) : Nat → List Slot → Option (Nat × Frame × Nat)
  | _, [] => none
  | n, sl :: rest =>
    match sl with
    | .filled f k =>
      if sending n then bestSlot sending (n + 1) rest
      else
        match bestSlot sending (n + 1) rest with
        | none => some (n, f, k)
        | some (m, g, j) => if f.sendKey k ≤ g.sendKey j then some (n, f, k) else some (m, g, j)
    | .free | .reserved _ => bestSlot sending (n + 1) rest

/-- The frame the Local Output Queue offers, with its slot (R126). -/
def State.nextLocal (s : State) : Option (Nat × Frame) :=
  (bestSlot s.sendingSlot 0 s.loq.toList).map fun x => (x.1, x.2.1)

/-- The Port U part of a frame boundary: UP, not held, not sending (R128). -/
def State.uTxReady (s : State) : Bool :=
  decide (s.portU.link = .up) && !s.portU.held && s.uTx.isNone

/-- A local frame begins transmission: the position is written into it; the slot stays FILLED (R127). -/
def State.sendLocal (n : Nat) (f : Frame) (s : State) : State :=
  { s with uTx := some { source := .slot n, frame := { f with position := BitVec.ofNat 6 s.position } }, streak := 0 }

/-- The HTQ's head begins transmission unchanged (R130), leaving this streak count. -/
def State.sendThrough (f : Frame) (streak : Nat) (s : State) : State :=
  { s with uTx := some { source := .htq, frame := f }, streak := streak }

/-- The grant at a frame boundary (R128, R129); no grant while no side offers a frame. -/
def State.grant (s : State) : State :=
  match s.htq, s.nextLocal with
  | [], none => s
  | f :: _, none => s.sendThrough f 0
  | [], some (n, f) => s.sendLocal n f
  | g :: _, some (n, f) =>
    if s.streak < s.params.throughWeight then s.sendThrough g (s.streak + 1) else s.sendLocal n f

/-- MERGE_GRANT (R129). -/
def execMergeGrant (s : State) : Host.Outcome State Fault Refusal :=
  live (fun s => if s.uTxReady then s.grant else s) s

/-- Some side has a frame for Port U Tx (R128). -/
def State.offersFrame (s : State) : Bool := !s.htq.isEmpty || s.nextLocal.isSome

/-- A run of idle symbols begins on Port U Tx when no frame boundary is reached; the flow symbol is repeated (R148). -/
def State.idleU (s : State) : State :=
  if s.uTxReady && s.offersFrame then s else { s with portU := s.portU.repeatFlow }

/-- The last character of the frame on Port U Tx is sent (R127, R130, R136). -/
def State.endUTx (s : State) : State :=
  match s.uTx with
  | none => s
  | some t =>
    let u := { s with uTx := none }
    (match t.source with
      | .slot n => u.freeSlot n
      | .htq => { u with htq := u.htq.drop 1 }.judgeD
      | .detached => u).idleU

/-- U_TX_FRAME_END (R127, R130). -/
def execUTxFrameEnd (s : State) : Host.Outcome State Fault Refusal := live State.endUTx s

/-- Port D Tx may begin the OTQ's head (R144). -/
def State.dTxReady (s : State) : Bool :=
  decide (s.portD.link = .up) && !s.portD.held && s.dTx.isNone

/-- OTQ_SEND_START (R144). -/
def execOtqSendStart (s : State) : Host.Outcome State Fault Refusal :=
  live (fun s =>
    match s.otq with
    | [] => s
    | f :: _ => if s.dTxReady then { s with dTx := some f } else s) s

/-- A run of idle symbols begins on Port D Tx when the OTQ's head cannot follow; the flow symbol is repeated (R148). -/
def State.idleD (s : State) : State :=
  if s.dTxReady && !s.otq.isEmpty then s else { s with portD := s.portD.repeatFlow }

/-- OTQ_SEND_END (R144): the head leaves the OTQ. -/
def execOtqSendEnd (s : State) : Host.Outcome State Fault Refusal :=
  live (fun s =>
    match s.dTx with
    | none => s
    | some _ => ({ s with dTx := none, otq := s.otq.drop 1 }.judgeU).idleD) s

/-! ### NOTICE (R133, R134) -/

/-- A notice item (R131). -/
inductive NoticeItem where
  | fault (k : FaultKind)
  | link (p : PortId) (l : LinkState)
  | node (n : Nat) (st : NodeState)
  | unreachable (u : Unreachable)
  deriving DecidableEq, Repr

/-- The fault kinds in code order. -/
def FaultKind.all : List FaultKind :=
  [.chainCheckU, .chainCheckD, .receiveOverflow, .dropContention, .strayTraffic, .dropLineDead]

/-- The NODE items of a list of optional states that starts at node `n`. -/
def nodeItems : Nat → List (Option NodeState) → List NoticeItem
  | _, [] => []
  | n, some st :: rest => .node n st :: nodeItems (n + 1) rest
  | n, none :: rest => nodeItems (n + 1) rest

/-- The items of the set in R134's order: FAULT by kind, LINK U and D, NODE by number, UNREACHABLE. -/
def NoticeSet.items (t : NoticeSet) : List NoticeItem :=
  ((FaultKind.all.filter fun k => t.faults.getLsbD k.code).map .fault) ++
  (t.linkU.toList.map (.link .u)) ++ (t.linkD.toList.map (.link .d)) ++
  nodeItems 1 t.nodes.toList ++ (t.unreachable.toList.map .unreachable)

/-- The two bytes of an item (R186). -/
def NoticeItem.bytes : NoticeItem → List Byte
  | .fault k => [BitVec.ofNat 8 k.code, 0#8]
  | .link p l => [0x40#8 ||| (if p = .u then 0#8 else 1#8), if l = .up then 1#8 else 0#8]
  | .node n st => [0x80#8 ||| BitVec.ofNat 8 n, st.code]
  | .unreachable u => [0xC0#8 ||| u.position.setWidth 8, BitVec.ofNat 8 u.count]

/-- An item leaves the set (R134). -/
def NoticeSet.drop (t : NoticeSet) : NoticeItem → NoticeSet
  | .fault k => { t with faults := t.faults &&& ~~~k.bit }
  | .link .u _ => { t with linkU := none }
  | .link .d _ => { t with linkD := none }
  | .node n _ => { t with nodes := vset t.nodes (n - 1) none }
  | .unreachable _ => { t with unreachable := none }

/-- The conditions of a NOTICE (R133). -/
def State.noticeReady (s : State) : Bool :=
  !s.notice.items.isEmpty && decide (s.portU.link = .up) && decide (s.params.noticeHoldoff ≤ s.notice.holdoff) &&
    decide (2 ≤ s.freeCount)

/-- A NOTICE of up to 16 items is built into a new slot; its items leave the set (R134), the holdoff count is set to 0
(R132). -/
def State.placeNotice (s : State) : State :=
  let taken := s.notice.items.take Config.noticeItems
  let t := s.fillLowest (noticeFrame s.notice.sequence (taken.flatMap NoticeItem.bytes))
  { t with
    notice := { taken.foldl NoticeSet.drop t.notice with holdoff := 0, sequence := t.notice.sequence + 1#12 } }

/-- NOTICE_PLACE (R133). -/
def execNoticePlace (s : State) : Host.Outcome State Fault Refusal :=
  live (fun s => if s.noticeReady then s.placeNotice else s) s

end Sys2Proof.Machine
end

