-- ==== Sys2Proof/Machine/Dispatching.lean ====
section
/-! DEFINITION. Dispatch of the CONTROL at the Inbox head, shared by every command (R162 to R165). -/

namespace Sys2Proof.Machine

/-- What a command's own rule gives: the state after it, its result, and the ACK's payload. -/
structure CommandResult where
  state : State
  code : AckCode
  payload : List Byte

/-- A refusal: nothing changes. -/
def refuseCommand (s : State) (code : AckCode) (payload : List Byte) : CommandResult :=
  { state := s, code := code, payload := payload }

/-- The ACK of an addressed CONTROL is written into its slot; a broadcast's slot is released (R163, R165). -/
def finishControl (f : Frame) (n : Nat) (r : CommandResult) : State :=
  if broadcastFrame f then r.state.freeSlot n
  else r.state.fillSlot n (ackFrame f.cls f.tag f.code r.code r.payload)

/-- The frame is a CONTROL of this command. -/
def isCommand (c : Command) (f : Frame) : Bool :=
  decide (f.kind = .control) && decide (Command.ofCode f.code = some c)

/-- The command's own rule after the operand form is judged (R164). -/
def runCommand (c : Command) (run : List Byte → State → CommandResult) (f : Frame) (s : State) : CommandResult :=
  if (operandsOf f).length = c.operandBytes then run (operandsOf f) s else refuseCommand s .badParam []

/-- One CONTROL of command `c` at the Inbox head is dispatched, from its taking to its ACK (R162). -/
def dispatch (c : Command) (run : List Byte → State → CommandResult) (s : State) : State :=
  match s.takeHead (isCommand c) with
  | none => s
  | some (f, n, t) => finishControl f n (runCommand c run f t)

end Sys2Proof.Machine
end

