-- ==== Sys2Proof/Machine/Management.lean ====
section
/-! DEFINITION. The commands of the Management Unit, the Exchange Queue, the Node Table and the DLC: BAD_COMMAND (R162),
READ_STATUS (R166), GET_PARAM (R168), SET_PARAM (R169), CLEAR_FAULTS (R174), READ_COUNTERS (R177), CANCEL (R27), FLUSH (R29),
NODE_RESET (R68), NODE_READ (R70), LINE_HALT (R54), LINE_RUN (R55). -/

namespace Sys2Proof.Machine

/-- BAD_COMMAND (R162, R163): the command code names no command. -/
def execBadCommand (s : State) : Host.Outcome State Fault Refusal :=
  live (fun s =>
    match s.takeHead (fun f => decide (f.kind = .control) && decide (Command.ofCode f.code = none)) with
    | none => s
    | some (f, n, t) => finishControl f n (refuseCommand t .badCommand [])) s

/-! ### Status and parameters -/

/-- A number as one byte. -/
def byteOf (n : Nat) : Byte := BitVec.ofNat 8 n

/-- A number as two bytes, high byte first. -/
def twoBytes (n : Nat) : List Byte := [hiByte (BitVec.ofNat 16 n), loByte (BitVec.ofNat 16 n)]

/-- A flag at a bit of a byte. -/
def flagBit (b : Bool) (i : Nat) : Byte := (if b then 1#8 else 0#8) <<< i

/-- The status record, 19 bytes (R166, R189). -/
def State.statusRecord (s : State) : List Byte :=
  [flagBit s.assigned 7 ||| byteOf s.position,
   s.faults.setWidth 8,
   flagBit (decide (s.params.checkPolicy = 1)) 0 ||| flagBit s.guarded 1 ||| flagBit s.dlc.haltReq 2,
   s.dlc.state.code,
   byteOf s.queue.c0.length, byteOf s.queue.c1.length, byteOf s.queue.c2.length, byteOf s.queue.c3.length,
   byteOf s.freeCount,
   flagBit s.validating 0 ||| flagBit (decide (s.activeBank = .bank1)) 1 |||
     flagBit (decide (s.portU.link = .up)) 2 ||| flagBit (decide (s.portD.link = .up)) 3,
   hiByte s.epoch, loByte s.epoch,
   byteOf (s.countNodes .unknown), byteOf (s.countNodes .online), byteOf (s.countNodes .suspect),
   byteOf (s.countNodes .offline),
   hiByte Config.partId, loByte Config.partId,
   Config.revision]

/-- READ_STATUS's own rule (R166). -/
def runReadStatus (_ : List Byte) (s : State) : CommandResult :=
  { state := s, code := .done, payload := s.statusRecord }

/-- READ_STATUS (R166). -/
def execReadStatus (s : State) : Host.Outcome State Fault Refusal :=
  live (dispatch .readStatus runReadStatus) s

/-- Parameter ids are 1 to 14 (R167). -/
def isParam (id : Nat) : Bool := decide (1 ≤ id) && decide (id ≤ 14)

/-- The pending flag and the pending value, three bytes (R168). -/
def pendingBytes : Option Nat → List Byte
  | some v => 1#8 :: twoBytes v
  | none => [0#8, 0#8, 0#8]

/-- GET_PARAM's own rule (R168). -/
def runGetParam (ops : List Byte) (s : State) : CommandResult :=
  let id := (opByte ops 0).toNat
  if isParam id then
    { state := s, code := .done,
      payload := opByte ops 0 :: twoBytes (paramValue s.dlc.cur s.params id) ++ pendingBytes (paramPending s.dlc.pend id) }
  else refuseCommand s .badParam []

/-- GET_PARAM (R168). -/
def execGetParam (s : State) : Host.Outcome State Fault Refusal := live (dispatch .getParam runGetParam) s

/-- A line setting reaches the DLC: current at once in IDLE or HALTED, pending otherwise (R56). A write of the value that a
setting without a pending value already holds changes nothing (R169). -/
def State.writeLineSetting (id v : Nat) (s : State) : State :=
  if s.dlc.state = .idle ∨ s.dlc.state = .halted then { s with dlc := { s.dlc with cur := setCurrent id v s.dlc.cur } }
  else if paramPending s.dlc.pend id = none ∧ paramValue s.dlc.cur s.params id = v then s
  else { s with dlc := { s.dlc with pend := setPending id v s.dlc.pend } }

/-- A parameter 6 to 14 is written, with what a change of value is to other blocks: SCAN_ENABLE (R108) and REVIVE_INTERVAL
(R65). -/
def State.writeOwnParam (id v : Nat) (s : State) : State :=
  let u := { s with params := setOwnParam id v s.params }
  if id = 9 ∧ s.params.scanEnable = 0 ∧ v = 1 then u.startScanTime
  else if id = 7 ∧ s.params.reviveInterval = 0 ∧ v ≠ 0 then { u with scan := { u.scan with reviveCount := 0 } }
  else u

/-- SET_PARAM's own rule (R169). -/
def runSetParam (ops : List Byte) (s : State) : CommandResult :=
  let id := (opByte ops 0).toNat
  let v := (opWord ops 1).toNat
  if !isParam id then refuseCommand s .badParam []
  else if !paramInRange id v then refuseCommand s .badValue [opByte ops 0]
  else
    { state := if id ≤ 5 then s.writeLineSetting id v else s.writeOwnParam id v, code := .done, payload := ops }

/-- The frame is a SET_PARAM that changes SCAN_ENABLE (R169). -/
def State.changesScanEnable (s : State) (f : Frame) : Bool :=
  let v := (opWord (operandsOf f) 1).toNat
  isCommand .setParam f && decide ((operandsOf f).length = Command.setParam.operandBytes) &&
    decide ((opByte (operandsOf f) 0).toNat = 9) && paramInRange 9 v && decide (v ≠ s.params.scanEnable)

/-- SET_PARAM (R169). The dues of a scan step already taken fall before a change of SCAN_ENABLE (log entry 3). -/
def execSetParam (s : State) : Host.Outcome State Fault Refusal :=
  live (fun s => dispatch .setParam runSetParam (s.settleBefore s.changesScanEnable)) s

/-! ### Faults and counters -/

/-- CLEAR_FAULTS's own rule (R174). -/
def runClearFaults (ops : List Byte) (s : State) : CommandResult :=
  let mask := opByte ops 0
  if mask.getLsbD 6 || mask.getLsbD 7 then refuseCommand s .badValue []
  else
    let left := s.faults &&& ~~~(mask.setWidth 6)
    { state := { s with faults := left }, code := .done, payload := [left.setWidth 8] }

/-- CLEAR_FAULTS (R174). -/
def execClearFaults (s : State) : Host.Outcome State Fault Refusal := live (dispatch .clearFaults runClearFaults) s

/-- READ_COUNTERS's own rule (R177). -/
def runReadCounters (_ : List Byte) (s : State) : CommandResult :=
  { state := if s.params.counterMode = 1 then { s with counters := Vector.replicate 14 0#16 } else s
    code := .done
    payload := s.counters.toList.flatMap fun c => [hiByte c, loByte c] }

/-- READ_COUNTERS (R177). -/
def execReadCounters (s : State) : Host.Outcome State Fault Refusal :=
  live (dispatch .readCounters runReadCounters) s

/-! ### Exchange Queue: CANCEL and FLUSH -/

/-- The record with its cancel mark set (R27). -/
def ExRecord.mark : ExRecord → ExRecord
  | .controller r => .controller { r with cancelMark := true }
  | .scan r => .scan r
  | .probe n => .probe n

/-- A cancelled record is answered (R27). -/
def State.cancelOne (s : State) : ExRecord → State
  | .controller r => s.answer r.slot (r.reply .cancelled 0 [])
  | .scan _ | .probe _ => s

/-- CANCEL's own rule (R27): the target tag is in bits 11 to 0 of the operands. -/
def runCancel (ops : List Byte) (s : State) : CommandResult :=
  let tag : Tag := (opWord ops 0).setWidth 12
  let pay := [hiByte (tag.setWidth 16), loByte (tag.setWidth 16)]
  match s.queue.takeFirst (ExRecord.hasTag tag) with
  | some (r, q) => { state := { s with queue := q }.cancelOne r, code := .done, payload := pay }
  | none =>
    match s.dlc.inflight with
    | some x =>
      if x.record.hasTag tag then
        { state := s.setInflight (some { x with record := x.record.mark }), code := .inFlight, payload := pay }
      else refuseCommand s .notFound pay
    | none => refuseCommand s .notFound pay

/-- CANCEL (R27). -/
def execCancel (s : State) : Host.Outcome State Fault Refusal := live (dispatch .cancel runCancel) s

/-- A record FLUSH removes: a CONTROLLER record of a masked class (R29). -/
def ExRecord.flushed (mask : Byte) : ExRecord → Bool
  | .controller r => mask.getLsbD r.cls.toNat
  | .scan _ | .probe _ => false

/-- FLUSH's own rule (R29). -/
def runFlush (ops : List Byte) (s : State) : CommandResult :=
  let gone := s.queue.all.filter (ExRecord.flushed (opByte ops 0))
  { state := gone.foldl (fun t r => t.releaseReply r.slot)
      { s with queue := s.queue.remove (ExRecord.flushed (opByte ops 0)) }
    code := .done
    payload := [byteOf gone.length] }

/-- FLUSH (R29). -/
def execFlush (s : State) : Host.Outcome State Fault Refusal := live (dispatch .flush runFlush) s

/-! ### Node Table: NODE_RESET and NODE_READ -/

/-- NODE_RESET's own rule (R68). -/
def runNodeReset (ops : List Byte) (s : State) : CommandResult :=
  let n := (opByte ops 0).toNat
  if !isNode n then refuseCommand s .badIndex [opByte ops 0]
  else if s.nodeInFlight n then refuseCommand s .nodeBusy [opByte ops 0]
  else { state := s.setNode n {}, code := .done, payload := [opByte ops 0] }

/-- NODE_RESET (R68). -/
def execNodeReset (s : State) : Host.Outcome State Fault Refusal := live (dispatch .nodeReset runNodeReset) s

/-- The node record of NODE_READ, 3 bytes (R70, R189). -/
def State.nodeBytes (s : State) (n : Nat) : List Byte :=
  let r := s.node n
  [byteOf n,
   (r.state.code <<< 6) ||| flagBit (decide (r.sync = .needsSync)) 5 ||| flagBit r.nextToggle 4 |||
     flagBit (s.nodeInFlight n) 3 ||| byteOf r.failures,
   outcomeByte r.lastOutcome]

/-- NODE_READ's own rule (R70). -/
def runNodeRead (ops : List Byte) (s : State) : CommandResult :=
  let n := (opByte ops 0).toNat
  if !isNode n then refuseCommand s .badIndex [] else { state := s, code := .done, payload := s.nodeBytes n }

/-- NODE_READ (R70). -/
def execNodeRead (s : State) : Host.Outcome State Fault Refusal := live (dispatch .nodeRead runNodeRead) s

/-! ### DLC: LINE_HALT and LINE_RUN -/

/-- LINE_HALT's effect by the DLC's state (R54). -/
def State.haltLine (s : State) : State :=
  match s.dlc.state with
  | .idle => s.enterHalted
  | .transmit | .await | .receive | .guard => { s with dlc := { s.dlc with haltReq := true } }
  | .halted => s

/-- LINE_HALT's own rule (R53, R54). -/
def runLineHalt (_ : List Byte) (s : State) : CommandResult := { state := s.haltLine, code := .done, payload := [] }

/-- LINE_HALT (R54). -/
def execLineHalt (s : State) : Host.Outcome State Fault Refusal := live (dispatch .lineHalt runLineHalt) s

/-- LINE_RUN's effect (R55). -/
def State.runLine (s : State) : State :=
  match s.dlc.state with
  | .halted => s.enterIdle
  | .idle | .transmit | .await | .receive | .guard => { s with dlc := { s.dlc with haltReq := false } }

/-- LINE_RUN's own rule (R53, R55). -/
def runLineRun (_ : List Byte) (s : State) : CommandResult := { state := s.runLine, code := .done, payload := [] }

/-- LINE_RUN (R55). -/
def execLineRun (s : State) : Host.Outcome State Fault Refusal := live (dispatch .lineRun runLineRun) s

end Sys2Proof.Machine
end

