-- ==== Sys2Proof/Machine/Resets.lean ====
section
/-! DEFINITION. HARD_RESET (R191, R161) and RESET_N_RISE (R161). -/

namespace Sys2Proof.Machine

/-- The part in its hard reset: every block at its hard-reset values, RESET_N low (R161). The command queue is not the
part's. -/
def State.hardReset (s : State) : State := { State.reset with inReset := true, pending := s.pending }

/-- A low level on RESET_N is a hard reset when it lasts 1 µs or longer; a shorter one is ignored (R191). -/
def isHardReset : ResetCause → Bool
  | .powerOn => true
  | .resetN lowNs => decide (1000 ≤ lowNs)

/-- HARD_RESET (R191, R161). -/
def execHardReset (cause : ResetCause) (s : State) : Host.Outcome State Fault Refusal :=
  .next (if isHardReset cause then s.hardReset else s)

/-- RESET_N_RISE (R161): the hard-reset values stand. A rise that ends no hard reset changes nothing (R191). -/
def execResetNRise (s : State) : Host.Outcome State Fault Refusal :=
  .next (if s.inReset then { State.reset with pending := s.pending } else s)

end Sys2Proof.Machine
end

