-- ==== Sys2Proof/Machine/SoftReset.lean ====
section
/-! DEFINITION. SOFT_RESET (R178 to R181) with its effect on each block at each level (R31, R57, R71, R102, R103, R119, R135,
R136, R160, R179, R180). -/

namespace Sys2Proof.Machine

/-- The two levels. -/
inductive ResetLevel where
  | queues
  | full
  deriving DecidableEq, Repr

/-- The level a code names. -/
def ResetLevel.ofCode (b : Byte) : Option ResetLevel :=
  if b = 1#8 then some .queues else if b = 2#8 then some .full else none

/-- At level QUEUES the node of a discarded addressed exchange becomes NEEDS_SYNC (R71). No NODE item is placed. -/
def State.distrustNode (s : State) : State :=
  match s.inflightRecord with
  | none => s
  | some r =>
    if isNode r.node then
      { s with nodes := vset s.nodes (r.node - 1) { s.node r.node with sync := .needsSync } }
    else s

/-- The DLC's state change at a soft reset of either level (R57). -/
def State.resetDlc (s : State) : State :=
  let t := { s with dlc := { s.dlc with inflight := none, haltReq := false } }
  match s.dlc.state with
  | .transmit => { t with dlc := { t.dlc with stopping := true } }
  | .await | .receive => t.enterGuard t.dlc.cur.tGuard
  | .guard | .idle => t
  | .halted => t.enterIdle

/-- At level FULL the line settings return to their defaults: current at once in IDLE, pending otherwise (R57, R180). -/
def State.resetLineSettings (s : State) : State :=
  if s.dlc.state = .idle then { s with dlc := { s.dlc with cur := {}, pend := {} } }
  else { s with dlc := { s.dlc with pend := pendingDefaults } }

/-- A frame being sent from a slot is held apart from the queue (R136). -/
def UTx.detach (t : UTx) : UTx :=
  match t.source with
  | .slot _ => { t with source := .detached }
  | .htq | .detached => t

/-- The effects that both levels share: Exchange Queue, DLC, LOQ and merge, Inbox, chain-end answer, sweep, outstanding
flags, retired scan (R31, R57, R102, R103, R119, R136, R160). -/
def State.resetQueues (s : State) : State :=
  { s.resetDlc with
    queue := {}
    loq := Vector.replicate 64 .free
    uTx := s.uTx.map UTx.detach
    streak := 0
    inbox := []
    chainEnd := none
    commit := none
    scan := { s.scan with
      records := vmap (fun r => { r with outstanding := false }) s.scan.records, retired := none } }

/-- The effects of level FULL beyond those (R71, R102, R119, R135, R180). -/
def State.resetFull (s : State) : State :=
  { s.resetLineSettings with
    nodes := Vector.replicate 31 {}
    bank0 := {}
    bank1 := {}
    activeBank := .bank0
    epoch := 0#16
    scan := {}
    notice := {}
    params := {}
    faults := 0#6
    counters := Vector.replicate 14 0#16 }

/-- A soft reset as one event; Port U's receive side judges its flow control after it (R160, R178). -/
def State.softReset (level : ResetLevel) (s : State) : State :=
  match level with
  | .queues => s.distrustNode.resetQueues.judgeU
  | .full => s.resetQueues.resetFull.judgeU

/-- SOFT_RESET at the Inbox head, taken: the ACK of an addressed one goes into the emptied queue (R136, R178). -/
def State.takeSoftReset (s : State) : State :=
  match s.takeHead (isCommand .softReset) with
  | none => s
  | some (f, n, t) =>
    if (operandsOf f).length ≠ Command.softReset.operandBytes then finishControl f n (refuseCommand t .badParam [])
    else
      match ResetLevel.ofCode (opByte (operandsOf f) 0) with
      | none => finishControl f n (refuseCommand t .badValue [])
      | some level =>
        let u := t.softReset level
        if broadcastFrame f then u
        else u.fillLowest (ackFrame f.cls f.tag f.code .done [opByte (operandsOf f) 0])

/-- The frame is a SOFT_RESET that names a level (R178). -/
def namesLevel (f : Frame) : Bool :=
  isCommand .softReset f && decide ((operandsOf f).length = Command.softReset.operandBytes) &&
    (ResetLevel.ofCode (opByte (operandsOf f) 0)).isSome

/-- SOFT_RESET (R178). The dues of a scan step already taken fall before it (R181, log entry 3). -/
def execSoftReset (s : State) : Host.Outcome State Fault Refusal :=
  live (fun s => (s.settleBefore namesLevel).takeSoftReset) s

end Sys2Proof.Machine
end

