-- ==== Sys2Proof/Machine/Tables.lean ====
section
/-! DEFINITION. The Bank Controller: TABLE_WRITE (R91), TABLE_READ (R92), SHADOW_LOAD (R93), COMMIT (R94), COMMIT_REJECT
(R96), SWAP (R97, R98, R117), and the sweep's progress while the block idles (R95). -/

namespace Sys2Proof.Machine

/-- Entry indices of a table are below this (R91). -/
def TableId.size : TableId → Nat
  | .route => 128
  | .scan => 32

/-- The image of an entry. -/
def Bank.image (b : Bank) (t : TableId) (i : Nat) : Image :=
  match t with
  | .route => vget b.routes i Image.zero
  | .scan => vget b.scans i Image.zero

/-- An entry's image replaced. -/
def Bank.setImage (b : Bank) (t : TableId) (i : Nat) (img : Image) : Bank :=
  match t with
  | .route => { b with routes := vset b.routes i img }
  | .scan => { b with scans := vset b.scans i img }

/-- Ten operand bytes from byte `i` on, as an image. -/
def imageOf (ops : List Byte) (i : Nat) : Image :=
  ⟨#[opByte ops i, opByte ops (i + 1), opByte ops (i + 2), opByte ops (i + 3), opByte ops (i + 4), opByte ops (i + 5),
     opByte ops (i + 6), opByte ops (i + 7), opByte ops (i + 8), opByte ops (i + 9)], rfl⟩

/-- TABLE_WRITE's own rule (R91). -/
def runTableWrite (ops : List Byte) (s : State) : CommandResult :=
  match TableId.ofCode (opByte ops 0) with
  | none => refuseCommand s .badParam []
  | some t =>
    let i := (opByte ops 1).toNat
    if t.size ≤ i then refuseCommand s .badIndex []
    else if s.validating then refuseCommand s .commitBusy []
    else
      { state := s.setBank s.activeBank.other (s.shadow.setImage t i (imageOf ops 2)), code := .done,
        payload := [opByte ops 0, opByte ops 1] }

/-- TABLE_WRITE (R91). -/
def execTableWrite (s : State) : Host.Outcome State Fault Refusal := live (dispatch .tableWrite runTableWrite) s

/-- The bank a selector names when the command is taken (R92). -/
def State.selectedBank (s : State) (sel : Byte) : Option BankId :=
  if sel = 0#8 then some s.activeBank else if sel = 1#8 then some s.activeBank.other else none

/-- TABLE_READ's own rule (R92). -/
def runTableRead (ops : List Byte) (s : State) : CommandResult :=
  match TableId.ofCode (opByte ops 0), s.selectedBank (opByte ops 1) with
  | some t, some b =>
    let i := (opByte ops 2).toNat
    if t.size ≤ i then refuseCommand s .badIndex []
    else
      { state := s, code := .done,
        payload := [opByte ops 0, opByte ops 1, b.code, opByte ops 2] ++ ((s.bank b).image t i).toList }
  | _, _ => refuseCommand s .badParam []

/-- TABLE_READ (R92). -/
def execTableRead (s : State) : Host.Outcome State Fault Refusal := live (dispatch .tableRead runTableRead) s

/-- SHADOW_LOAD's own rule (R93). -/
def runShadowLoad (_ : List Byte) (s : State) : CommandResult :=
  if s.validating then refuseCommand s .commitBusy []
  else { state := s.setBank s.activeBank.other s.active, code := .done, payload := [] }

/-- SHADOW_LOAD (R93). -/
def execShadowLoad (s : State) : Host.Outcome State Fault Refusal := live (dispatch .shadowLoad runShadowLoad) s

/-- A COMMIT taken in IDLE starts the sweep: an addressed one keeps its slot RESERVED, a broadcast one holds none (R94). -/
def State.startCommit (f : Frame) (n : Nat) (s : State) : State :=
  let c : PendingCommit :=
    { tag := f.tag, cls := f.cls, addressed := !broadcastFrame f, slot := if broadcastFrame f then none else some n,
      cursor := { table := .route, index := 0 } }
  let t := if broadcastFrame f then s.freeSlot n else s.reserveSlot n .commit
  { t with commit := some c }

/-- COMMIT at the Inbox head, taken (R94, R164). -/
def State.takeCommit (s : State) : State :=
  match s.takeHead (isCommand .commit) with
  | none => s
  | some (f, n, t) =>
    if (operandsOf f).length ≠ Command.commit.operandBytes then finishControl f n (refuseCommand t .badParam [])
    else if t.validating then finishControl f n (refuseCommand t .commitBusy [])
    else t.startCommit f n

/-- COMMIT (R94). -/
def execCommit (s : State) : Host.Outcome State Fault Refusal := live State.takeCommit s

/-- The ACK of a pending commit, written into its slot when it holds one (R96, R97, R104). -/
def State.ackCommit (c : PendingCommit) (code : AckCode) (payload : List Byte) (s : State) : State :=
  s.answer c.slot (ackFrame c.cls c.tag Command.commit.code code payload)

/-- The commit is rejected at a failing entry (R96). -/
def State.rejectCommit (c : PendingCommit) (t : TableId) (i : Nat) (r : Reason) (s : State) : State :=
  { s with commit := none }.ackCommit c .commitRejected [t.code, BitVec.ofNat 8 i, r.code]

/-- COMMIT_REJECT (R96): the sweep meets a failing entry. -/
def execCommitReject (s : State) : Host.Outcome State Fault Refusal :=
  live (fun s =>
    match s.commit with
    | none => s
    | some c =>
      match sweepFrom s.shadow c.cursor with
      | none => s
      | some (t, i, r) => s.rejectCommit c t i r) s

/-- The epoch after a swap: from 65,535 it becomes 1 (R97). -/
def nextEpoch (e : Word16) : Word16 := if e = 0xFFFF#16 then 1#16 else e + 1#16

/-- The retired scan made at a swap, when a SCAN record of the epoch before it is in flight (R117). -/
def State.retireScan (s : State) : Option Retired :=
  match s.inflightRecord with
  | some (.scan r) =>
    if r.epoch = s.epoch then
      some { scanIndex := r.scanIndex, sequence := (s.scanRecord r.scanIndex).sequence,
             missed := (s.scanRecord r.scanIndex).missed }
    else s.scan.retired
  | some (.controller _) | some (.probe _) | none => s.scan.retired

/-- The banks, the epoch and the scan side at the swap (R97, R98, R117). -/
def State.swapBanks (s : State) : State :=
  { s with
    activeBank := s.activeBank.other
    epoch := nextEpoch s.epoch
    commit := none
    queue := s.queue.remove ExRecord.isScan
    scan := { s.scan with
      records := Vector.replicate 32 {}, time := 0#32, startPending := true, retired := s.retireScan } }

/-- The swap as one event, with the ACK of an addressed COMMIT whose slot is still held (R97). -/
def State.takeSwap (c : PendingCommit) (s : State) : State :=
  let t := s.swapBanks
  t.ackCommit c .done [hiByte t.epoch, loByte t.epoch, t.activeBank.code]

/-- SWAP (R97): scan entry 31 has passed. The dues of a scan step already taken fall before the swap (log entry 3). -/
def execSwap (s : State) : Host.Outcome State Fault Refusal :=
  live (fun s =>
    match s.commit with
    | none => s
    | some c =>
      match sweepFrom s.shadow c.cursor with
      | some _ => s
      | none => s.settleDues.takeSwap c) s

/-- While no command waits, the sweep moves its cursor past one entry that passes (R95, log entry 4). -/
def State.idleStep (s : State) : State :=
  match s.commit with
  | none => s
  | some c => { s with commit := some { c with cursor := sweepAdvance s.shadow c.cursor } }

end Sys2Proof.Machine
end

