-- ==== Sys2Proof/Machine/Ticks.lean ====
section
/-! DEFINITION. TICK (R171) with its revival count (R65), holdoff count (R132) and scan step (R107), and the events a tick
makes due: EXPIRY (R25), REVIVAL_POINT (R66), SCAN_DUE (R110). -/

namespace Sys2Proof.Machine

/-- The device tick count rises and the next period takes TICK_PERIOD (R171). -/
def State.countTick (s : State) : State :=
  { s with timer := { count := s.timer.count + 1#32, period := s.params.tickPeriod } }

/-- The revival count of a tick (R65); it marks a revival point as owed. -/
def State.revivalTick (s : State) : State :=
  if s.params.reviveInterval = 0 then { s with scan := { s.scan with reviveCount := 0 } }
  else if s.params.reviveInterval ≤ s.scan.reviveCount + 1 then
    { s with scan := { s.scan with reviveCount := 0, revivalOwed := true } }
  else { s with scan := { s.scan with reviveCount := s.scan.reviveCount + 1 } }

/-- The holdoff count of a tick (R132). -/
def State.holdoffTick (s : State) : State :=
  { s with notice := { s.notice with holdoff := if s.notice.holdoff < 255 then s.notice.holdoff + 1 else 255 } }

/-- One scan step while scanning runs (R107): the scan time of the step, and the dues it owes (R109). -/
def State.scanStep (s : State) : State :=
  if s.scanning then
    let time := if s.scan.startPending then s.scan.time else s.scan.time + 1#32
    { s with
      scan := { s.scan with time := time, startPending := false, duesOwed := duesAt s.active time.toNat } }
  else s

/-- TICK (R171). -/
def execTick (s : State) : Host.Outcome State Fault Refusal :=
  live (fun s => s.settleTick.countTick.revivalTick.holdoffTick.scanStep) s

/-- EXPIRY (R25). -/
def execExpiry (s : State) : Host.Outcome State Fault Refusal := live State.takeExpired s

/-- REVIVAL_POINT (R66): taken when the last tick was one. -/
def execRevivalPoint (s : State) : Host.Outcome State Fault Refusal := live State.settleRevival s

/-- The next due of the last scan step is judged (R109, R110). -/
def State.nextDue (s : State) : State :=
  match s.scan.duesOwed with
  | [] => s
  | i :: rest => { s with scan := { s.scan with duesOwed := rest } }.judgeDue i

/-- SCAN_DUE (R110). -/
def execScanDue (s : State) : Host.Outcome State Fault Refusal := live State.nextDue s

end Sys2Proof.Machine
end

