-- ==== Sys2Proof/Machine/Dispatch.lean ====
section
/-! DEFINITION. One arm for each command: its meaning. -/

namespace Sys2Proof.Machine

def exec (i : Instr) (s : State) : Host.Outcome State Fault Refusal :=
  match i with
  | .hardReset cause => Sys2Proof.Machine.execHardReset cause s
  | .resetNRise => Sys2Proof.Machine.execResetNRise s
  | .tick => Sys2Proof.Machine.execTick s
  | .expiry => Sys2Proof.Machine.execExpiry s
  | .revivalPoint => Sys2Proof.Machine.execRevivalPoint s
  | .scanDue => Sys2Proof.Machine.execScanDue s
  | .linkUp p times => Sys2Proof.Machine.execLinkUp p times s
  | .linkDown p times => Sys2Proof.Machine.execLinkDown p times s
  | .hold p => Sys2Proof.Machine.execHold p s
  | .go p => Sys2Proof.Machine.execGo p s
  | .uFrameArrival bytes invalidSymbol => Sys2Proof.Machine.execUFrameArrival bytes invalidSymbol s
  | .enumerate header count => Sys2Proof.Machine.execEnumerate header count s
  | .dFrameArrival bytes invalidSymbol => Sys2Proof.Machine.execDFrameArrival bytes invalidSymbol s
  | .chainEndAck => Sys2Proof.Machine.execChainEndAck s
  | .mergeGrant => Sys2Proof.Machine.execMergeGrant s
  | .uTxFrameEnd => Sys2Proof.Machine.execUTxFrameEnd s
  | .otqSendStart => Sys2Proof.Machine.execOtqSendStart s
  | .otqSendEnd => Sys2Proof.Machine.execOtqSendEnd s
  | .noticePlace => Sys2Proof.Machine.execNoticePlace s
  | .requestAdmission => Sys2Proof.Machine.execRequestAdmission s
  | .badCommand => Sys2Proof.Machine.execBadCommand s
  | .readStatus => Sys2Proof.Machine.execReadStatus s
  | .getParam => Sys2Proof.Machine.execGetParam s
  | .setParam => Sys2Proof.Machine.execSetParam s
  | .clearFaults => Sys2Proof.Machine.execClearFaults s
  | .readCounters => Sys2Proof.Machine.execReadCounters s
  | .tableWrite => Sys2Proof.Machine.execTableWrite s
  | .tableRead => Sys2Proof.Machine.execTableRead s
  | .shadowLoad => Sys2Proof.Machine.execShadowLoad s
  | .commit => Sys2Proof.Machine.execCommit s
  | .commitReject => Sys2Proof.Machine.execCommitReject s
  | .swap => Sys2Proof.Machine.execSwap s
  | .cancel => Sys2Proof.Machine.execCancel s
  | .flush => Sys2Proof.Machine.execFlush s
  | .nodeReset => Sys2Proof.Machine.execNodeReset s
  | .nodeRead => Sys2Proof.Machine.execNodeRead s
  | .lineHalt => Sys2Proof.Machine.execLineHalt s
  | .lineRun => Sys2Proof.Machine.execLineRun s
  | .softReset => Sys2Proof.Machine.execSoftReset s
  | .selection => Sys2Proof.Machine.execSelection s
  | .readBackComplete => Sys2Proof.Machine.execReadBackComplete s
  | .lineContention k readBack => Sys2Proof.Machine.execLineContention k readBack s
  | .lineFault => Sys2Proof.Machine.execLineFault s
  | .responseStart data framing => Sys2Proof.Machine.execResponseStart data framing s
  | .noResponse => Sys2Proof.Machine.execNoResponse s
  | .responseCharacter c => Sys2Proof.Machine.execResponseCharacter c s
  | .responseEnd => Sys2Proof.Machine.execResponseEnd s
  | .guardEnd => Sys2Proof.Machine.execGuardEnd s
  | .strayCharacter c => Sys2Proof.Machine.execStrayCharacter c s
  | .frameStartInReception p data => Sys2Proof.Machine.execFrameStartInReception p data s
  | .resetCharacterFinished => Sys2Proof.Machine.execResetCharacterFinished s

end Sys2Proof.Machine
end

