-- ==== Sys2Proof/Machine/Step.lean ====
section
/-! DEFINITION. One step of the block: the command at the front of the queue, or the sweep's own progress. -/

namespace Sys2Proof.Machine

/-- One step. The command at the front of the queue is taken and carried out on the state with the queue's rest. On an
empty queue the block idles, but for the sweep's cursor (R95, log entry 4). -/
def step (s : State) : Host.Outcome State Fault Refusal :=
  match s.pending with
  | [] => .next s.idleStep
  | c :: rest => exec c { s with pending := rest }

/-- The state with the command that a word spells put at the front of the queue. No word spells one (log entry 19). -/
def State.withFetchWord (s : State) (nbits w : Nat) : State :=
  match decodeTableWord nbits w with
  | none => s
  | some c => { s with pending := c :: s.pending }

end Sys2Proof.Machine
end

