-- ==== Sys2Proof/Safety.lean ====
section
/-! DEFINITION. What is always true of the bridge: the laws that the manual states of its state at every moment. Each is a
plain statement about one state; that every step keeps it is stated apart. -/

namespace Sys2Proof.Machine

/-- The queued records and the one in flight (R2). -/
def State.records (s : State) : List ExRecord := s.queue.all ++ s.inflightRecord.toList

/-- No queue holds more than its capacity (R4, R144, R145, R146). -/
def State.CapacityLaw (s : State) : Prop :=
  s.queue.size ≤ 48 ∧ s.otq.length ≤ 4 ∧ s.htq.length ≤ 8 ∧ s.inbox.length ≤ 4

/-- Each queue holds frames of its own kinds only: the LOQ those that the bridge writes, the HTQ homeward frames, the OTQ
outward frames, the Inbox REQUESTs and CONTROLs (R125, R144, R145, R146). -/
def State.KindLaw (s : State) : Prop :=
  (∀ f k, Slot.filled f k ∈ s.loq.toList → f.kind.homeward = true) ∧ (∀ f ∈ s.htq, f.kind.homeward = true) ∧
  (∀ f ∈ s.otq, f.kind.homeward = false) ∧ (∀ f ∈ s.inbox, f.kind = .request ∨ f.kind = .control)

/-- Every class list holds records of its own class only (R3). -/
def State.ClassLaw (s : State) : Prop :=
  (∀ r ∈ s.queue.c0, r.cls = 0#2) ∧ (∀ r ∈ s.queue.c1, r.cls = 1#2) ∧
  (∀ r ∈ s.queue.c2, r.cls = 2#2) ∧ (∀ r ∈ s.queue.c3, r.cls = 3#2)

/-- Every parameter lies within its range, and so does every pending line setting (R161, R167). -/
def State.ParamLaw (s : State) : Prop :=
  (∀ id ∈ List.range' 1 14, paramInRange id (paramValue s.dlc.cur s.params id) = true) ∧
  (∀ id ∈ List.range' 1 14, ∀ v ∈ paramPending s.dlc.pend id, paramInRange id v = true)

/-- The fixed pattern of a node record (R59). -/
def NodeRecord.Lawful (r : NodeRecord) : Prop :=
  (r.state = .unknown ∨ r.state = .online → r.failures = 0) ∧
  (r.state = .suspect → 1 ≤ r.failures ∧ r.failures ≤ 6) ∧
  (r.state = .offline → 1 ≤ r.failures ∧ r.failures ≤ 7) ∧
  (r.state ≠ .online → r.sync = .needsSync)

/-- Every node record has the pattern of R59; OFFLINE_THRESHOLD is in its range (R61). -/
def State.NodeLaw (s : State) : Prop :=
  (∀ r ∈ s.nodes.toList, r.Lawful) ∧ 1 ≤ s.params.offlineThreshold ∧ s.params.offlineThreshold ≤ 7

/-- The entries of a bank that a sweep has passed when its cursor stands at `c` all pass validation (R95). -/
def Bank.PassedBefore (b : Bank) (c : Cursor) : Prop :=
  match c.table with
  | .route => ∀ img ∈ b.routes.toList.take c.index, routeFails img = none
  | .scan =>
    (∀ img ∈ b.routes.toList, routeFails img = none) ∧ (∀ img ∈ b.scans.toList.take c.index, scanFails img = none)

/-- Every valid entry of the ACTIVE bank satisfies the validation conditions (R90); and a sweep under way has passed every
shadow entry before its cursor. -/
def State.BankLaw (s : State) : Prop :=
  (∀ img ∈ s.active.routes.toList, routeFails img = none) ∧
  (∀ img ∈ s.active.scans.toList, scanFails img = none) ∧
  (∀ c ∈ s.commit, s.shadow.PassedBefore c.cursor)

/-- The tag of a CONTROLLER record. -/
def ExRecord.tag? : ExRecord → Option Tag
  | .controller r => some r.tag
  | .scan _ | .probe _ => none

/-- No two CONTROLLER exchanges carry the same tag, counting the queued records and the one in flight (R6). -/
def State.TagLaw (s : State) : Prop := (s.records.filterMap ExRecord.tag?).Nodup

/-- At most one PROBE record is queued or in flight (R7). -/
def State.ProbeLaw (s : State) : Prop := s.records.countP ExRecord.isProbe ≤ 1

/-- The DLC's state, its in-flight record and its flags agree (R37, R38, R54, R57): none in flight, no halt asked and no
setting pending in IDLE and HALTED; one in flight in AWAIT, in RECEIVE and in TRANSMIT, but for the TRANSMIT that only
finishes a character after a soft reset. -/
def Dlc.Lawful (d : Dlc) : Prop :=
  match d.state with
  | .idle | .halted => d.inflight = none ∧ d.haltReq = false ∧ d.pend = {} ∧ d.stopping = false
  | .transmit => d.inflight.isSome = !d.stopping
  | .await | .receive => d.inflight.isSome = true ∧ d.stopping = false
  | .guard => d.stopping = false

/-- The DLC agrees with itself. -/
def State.DlcLaw (s : State) : Prop := s.dlc.Lawful

/-- The flags of a port that is DOWN are clear and it has no frame in reception (R138, R140). -/
def Port.DownLawful (p : Port) : Prop :=
  p.link = .down → p.held = false ∧ p.holdSent = false ∧ p.rx = none

/-- Flow control follows the queues (R148 to R150): an UP port has sent HOLD once its queues reach the upper limit and has
not once they are at or below the lower one; and a DOWN port holds nothing. -/
def State.FlowLaw (s : State) : Prop :=
  s.portU.DownLawful ∧ s.portD.DownLawful ∧
  (s.portU.link = .up →
    (3 ≤ s.otq.length ∨ 3 ≤ s.inbox.length → s.portU.holdSent = true) ∧
    (s.otq.length ≤ 1 ∧ s.inbox.length ≤ 1 → s.portU.holdSent = false)) ∧
  (s.portD.link = .up →
    (7 ≤ s.htq.length → s.portD.holdSent = true) ∧ (s.htq.length ≤ 5 → s.portD.holdSent = false))

/-- What a DOWN link leaves (R137, R144, R155, R159): nothing is being sent on it; without the uplink the Inbox, the LOQ
and the chain-end answer are empty, only PROBEs are queued, and neither the record in flight nor the pending commit holds a
slot; without the downlink the OTQ is empty. -/
def State.DownLaw (s : State) : Prop :=
  (s.portU.link = .down →
    s.uTx = none ∧ s.inbox = [] ∧ s.chainEnd = none ∧ s.scan.duesOwed = [] ∧ (∀ x ∈ s.loq.toList, x = .free) ∧
    (∀ r ∈ s.queue.all, r.isProbe = true) ∧ (∀ r ∈ s.inflightRecord, r.slot = none) ∧ (∀ c ∈ s.commit, c.slot = none)) ∧
  (s.portD.link = .down → s.dTx = none ∧ s.otq = [])

/-- The positions are 0 to 62 (R151) and the streak count 0 to 8 (R128). -/
def State.RangeLaw (s : State) : Prop :=
  s.position ≤ 62 ∧ s.streak ≤ 8 ∧ s.notice.holdoff ≤ 255 ∧ s.scan.reviveCursor ≤ 31 ∧ s.scan.reviveCount ≤ 65535

/-- The fill number of a FILLED slot. -/
def Slot.fill? : Slot → Option Nat
  | .filled _ k => some k
  | .free | .reserved _ => none

/-- The slots that an exchange record holds RESERVED. -/
def State.exchangeSlots (s : State) : List Nat := s.records.filterMap ExRecord.slot

/-- The slot law (R18, R94, R122, R124): the RESERVED slots are held, each by one holder, by the queued CONTROLLER records,
the record in flight and the pending commit; the fill numbers in use run from 0 without a gap. -/
def State.SlotLaw (s : State) : Prop :=
  s.exchangeSlots.Nodup ∧
  (∀ n ∈ List.range 64, s.slot n = .reserved .exchange ↔ n ∈ s.exchangeSlots) ∧
  (∀ n ∈ s.exchangeSlots, n < 64) ∧
  (∀ n ∈ List.range 64, s.slot n = .reserved .commit ↔ s.commit.bind PendingCommit.slot = some n) ∧
  (∀ c ∈ s.commit, ∀ n ∈ c.slot, n < 64) ∧
  (∀ n ∈ List.range 64, s.slot n ≠ .reserved .dispatch) ∧
  (∀ r ∈ s.queue.all, r.slot.isSome = r.isController) ∧
  (∀ r ∈ s.inflightRecord, r.slot.isSome = (!r.isProbe && !s.dlc.sessionLost)) ∧
  (s.loq.toList.filterMap Slot.fill?).Nodup ∧ (∀ k ∈ s.loq.toList.filterMap Slot.fill?, k < s.filledCount)

/-- A frame being sent from the Local Output Queue stands in its FILLED slot (R127); one sent from the HTQ is its head
(R130); one sent on Port D is the OTQ's head (R144). -/
def State.SendingLaw (s : State) : Prop :=
  (match s.uTx with
    | none => True
    | some t => match t.source with
      | .slot n => (s.slot n).isFilled = true
      | .htq => s.htq.head? = some t.frame
      | .detached => True) ∧
  (∀ f ∈ s.dTx, s.otq.head? = some f)

/-! ### What the statements speak of -/

/-- The command that carries out a CONTROL's command code. -/
def Command.instr : Command → Instr
  | .readStatus => .readStatus
  | .getParam => .getParam
  | .setParam => .setParam
  | .clearFaults => .clearFaults
  | .readCounters => .readCounters
  | .tableWrite => .tableWrite
  | .tableRead => .tableRead
  | .shadowLoad => .shadowLoad
  | .commit => .commit
  | .cancel => .cancel
  | .flush => .flush
  | .nodeReset => .nodeReset
  | .nodeRead => .nodeRead
  | .lineHalt => .lineHalt
  | .lineRun => .lineRun
  | .softReset => .softReset

/-- The conditions under which the Inbox head is taken (R8): the bridge is not held in a hard reset, `f` is at the head
with `rest` behind it, and `n` is the lowest-numbered FREE slot. -/
structure State.Head (s : State) (f : Frame) (rest : List Frame) (n : Nat) : Prop where
  live : s.inReset = false
  inbox : s.inbox = f :: rest
  slot : s.lowestFree = some n

/-- The Inbox head is a CONTROL of command `c` whose operand bytes are `ops` (R162 to R164). -/
structure State.HeadCommand (s : State) (c : Command) (ops : List Byte) (f : Frame) (rest : List Frame) (n : Nat) : Prop
    extends s.Head f rest n where
  kind : f.kind = .control
  code : f.code = c.code
  operands : operandsOf f = ops

/-- The head has left the Inbox and its slot is RESERVED; Port U's receive side has judged its flow control (R8, R149). -/
def State.took (rest : List Frame) (n : Nat) (s : State) : State :=
  (State.reserveSlot n .dispatch { s with inbox := rest }).judgeU

/-- An addressed CONTROL is answered in its slot; a broadcast one's slot is released (R163, R165). -/
def State.answered (f : Frame) (n : Nat) (code : AckCode) (payload : List Byte) (s : State) : State :=
  if f.position = 63#6 then s.freeSlot n else s.fillSlot n (ackFrame f.cls f.tag f.code code payload)

/-- A bit of a byte by its weight: the weight when the condition holds, 0 otherwise. -/
def bitIf (p : Prop) [Decidable p] (weight : Nat) : Nat := if p then weight else 0

/-- The REPLY of a refused REQUEST in its slot, and the refusal counted (R9). -/
def State.refusedWith (f : Frame) (n : Nat) (o : OutcomeCode) (cls : Cls) (s : State) : State :=
  { s with
    loq := vset s.loq n (.filled {
      kind := .reply, cls := cls, position := 0#6, tag := f.tag, logical := f.logical, code := o.code
      aux := s.epoch.setWidth 8, payload := [] } s.filledCount)
    counters := vset s.counters 10 (saturate (s.counter .refused)) }

/-- The entry that routes `a` and the width `w` from it: the lowest-numbered entry of the ACTIVE Route Table that covers
`a`, when it covers the whole width too (R75, R76). -/
def State.RouteFor (s : State) (a w : Nat) (img : Image) : Prop :=
  ∃ i, i < 128 ∧ vget s.active.routes i Image.zero = img ∧ img.covers a = true ∧ img.covers (a + w - 1) = true ∧
    ∀ j, j < i → (vget s.active.routes j Image.zero).covers a = false

/-- An item's subject by its place in the order of a NOTICE (R134). -/
def NoticeItem.place : NoticeItem → Nat
  | .fault k => k.code
  | .link .u _ => 6
  | .link .d _ => 7
  | .node n _ => 7 + n
  | .unreachable _ => 39

/-- An entry of a bank by its place in the sweep's order: route entries 0 to 127, then scan entries as 128 to 159 (R95). -/
def Bank.entryFails (b : Bank) (k : Nat) : Option Reason :=
  if k < 128 then routeFails (vget b.routes k Image.zero) else scanFails (vget b.scans (k - 128) Image.zero)

/-- The sweep cursor's place in the sweep's order. -/
def Cursor.place (c : Cursor) : Nat :=
  match c.table with
  | .route => min c.index 128
  | .scan => 128 + c.index

/-- A class list replaced. -/
def ExchangeQueue.setList (q : ExchangeQueue) (c : Cls) (l : List ExRecord) : ExchangeQueue :=
  if c = 0#2 then { q with c0 := l } else if c = 1#2 then { q with c1 := l }
  else if c = 2#2 then { q with c2 := l } else { q with c3 := l }

end Sys2Proof.Machine
end

