-- ==== Sys2Proof/Certificates/Slice0/Obligations.lean ====
section
/-! DEFINITION. The statements for the provers. -/

open Sys2Proof Sys2Proof.Machine

/-! ### The queue of commands and the resets -/

/-- A step takes the command at the front of the queue and carries it out on the state with the queue's rest (the queue's
form: log entries 1 and 2). -/
def Obligations.StepRunsTheFrontCommand : Prop :=
  ∀ (c : Instr) (rest : List Instr) (s : State),
    s.pending = c :: rest → step s = exec c { s with pending := rest }

/-- On an empty queue nothing changes but a sweep's cursor (the model's choice, log entry 4). -/
def Obligations.EmptyQueueMovesOnlyTheSweepCursor : Prop :=
  ∀ s : State, s.pending = [] →
    (s.commit = none → step s = .next s) ∧
    (∀ c, s.commit = some c → step s = .next { s with commit := some { c with cursor := sweepAdvance s.shadow c.cursor } })

/-- HARD_RESET and RESET_N_RISE (R161, R191): a hard reset sets every block to its hard-reset values and silences the pins
until the rise; no other event acts meanwhile; a low level shorter than 1 µs, and a rise that ends no reset, do nothing.
That the registers stand at their values from the command on is log entry 13. -/
def Obligations.HardResetHoldsUntilTheRise : Prop :=
  (∀ (cause : ResetCause) (s : State), (∀ ns, cause = .resetN ns → 1000 ≤ ns) →
    ∃ t, exec (.hardReset cause) s = .next t ∧ t = { State.reset with inReset := true, pending := s.pending } ∧
      t.ddeAsserted = false ∧ t.dtx = .mark ∧ t.alertAsserted = false ∧ t.chainSends = false) ∧
  (∀ (ns : Nat) (s : State), ns < 1000 → exec (.hardReset (.resetN ns)) s = .next s) ∧
  (∀ s : State, s.inReset = true → exec .resetNRise s = .next { State.reset with pending := s.pending }) ∧
  (∀ s : State, s.inReset = false → exec .resetNRise s = .next s) ∧
  (∀ (c : Instr) (s : State), s.inReset = true → (∀ cause, c ≠ .hardReset cause) → c ≠ .resetNRise →
    exec c s = .next s)

/-- R30: what a hard reset leaves of the Exchange Queue and the queues beside it. -/
def Obligations.HardResetEmptiesTheExchangeQueue : Prop :=
  ∀ (cause : ResetCause) (s : State), (∀ ns, cause = .resetN ns → 1000 ≤ ns) →
    ∃ t u, exec (.hardReset cause) s = .next t ∧ exec .resetNRise t = .next u ∧
      u.queue.c0 = [] ∧ u.queue.c1 = [] ∧ u.queue.c2 = [] ∧ u.queue.c3 = [] ∧ u.inflightRecord = none ∧
      (∀ tag, u.tagInUse tag = false) ∧ (∀ i, i < 32 → (u.scanRecord i).outstanding = false) ∧
      u.probeOutstanding = false ∧ u.inbox = [] ∧ (∀ n, n < 64 → u.slot n = .free) ∧ u.freeCount = 64 ∧
      u.params.classReserve = 4 ∧ u.params.checkPolicy = 0

/-- The reset values of the other blocks (R37, R59, R65, R66, R87, R89, R106, R128, R132, R134, R138, R151, R161). That
flowOut is absent is the model's choice (log entry 15). -/
def Obligations.ResetValuesOfEveryBlock : Prop :=
  (∀ p, State.reset.port p = {
    link := .down, acquisition := 0, silence := 0, held := false, holdSent := false, rx := none, flowOut := none }) ∧
  State.reset.position = 0 ∧ State.reset.chainEnd = none ∧ State.reset.otq = [] ∧ State.reset.htq = [] ∧
  State.reset.streak = 0 ∧ State.reset.notice.items = [] ∧ State.reset.notice.holdoff = 255 ∧
  State.reset.notice.sequence = 0#12 ∧ State.reset.dlc.state = .idle ∧ State.reset.dlc.haltReq = false ∧
  State.reset.dlc.sessionLost = false ∧
  State.reset.dlc.cur = { dropRate := 1, tResp := 20, tGap := 3, tGuard := 2, tBcast := 10 } ∧
  State.reset.dlc.pend = { dropRate := none, tResp := none, tGap := none, tGuard := none, tBcast := none } ∧
  (∀ n, State.reset.node n = {
    state := .unknown, sync := .needsSync, nextToggle := false, failures := 0, lastOutcome := none }) ∧
  (∀ b t i k, ((State.reset.bank b).image t i).byte k = 0) ∧ State.reset.activeBank = .bank0 ∧
  State.reset.epoch = 0#16 ∧ State.reset.commit = none ∧
  (∀ i, State.reset.scanRecord i = {
    outstanding := false, lastOutcome := none, lastData := none, sequence := 0#8, missed := 0 }) ∧
  State.reset.scan.time = 0#32 ∧ State.reset.scan.startPending = true ∧ State.reset.scan.retired = none ∧
  State.reset.scan.reviveCount = 0 ∧ State.reset.scan.reviveCursor = 0 ∧
  State.reset.params = {
    offlineThreshold := 3, reviveInterval := 1000, tickPeriod := 10, scanEnable := 0, classReserve := 4,
    throughWeight := 2, noticeHoldoff := 5, checkPolicy := 0, counterMode := 0 } ∧
  State.reset.faults = 0#6 ∧ (∀ c, State.reset.counter c = 0#16) ∧ State.reset.timer = { count := 0#32, period := 10 }

/-! ### Ticks -/

/-- TICK (R171, R65, R132, R107, R109). What the tick before still owes is settled first (log entry 3); a state that is
owed nothing settles nothing. -/
def Obligations.TickCountsAndTakesOneScanStep : Prop :=
  ∀ s : State, s.inReset = false →
    ∃ t, exec .tick s = .next t ∧
      t = { s.settleTick with timer := t.timer, notice := t.notice, scan := t.scan } ∧
      t.timer = { count := s.timer.count + 1#32, period := s.params.tickPeriod } ∧
      t.notice = { s.notice with holdoff := min (s.notice.holdoff + 1) 255 } ∧
      t.scan.records = s.settleTick.scan.records ∧ t.scan.reviveCursor = s.settleTick.scan.reviveCursor ∧
      t.scan.retired = s.scan.retired ∧
      (s.scan.revivalOwed = false → s.scan.duesOwed = [] →
        (∀ c, .controller c ∈ s.queue.all → c.ageLimit = 0#8 ∨ (s.timer.count - c.arrival).toNat < c.ageLimit.toNat) →
        s.settleTick = s) ∧
      (s.params.reviveInterval = 0 → t.scan.reviveCount = 0 ∧ t.scan.revivalOwed = false) ∧
      (s.params.reviveInterval ≠ 0 →
        (s.params.reviveInterval ≤ s.scan.reviveCount + 1 → t.scan.reviveCount = 0 ∧ t.scan.revivalOwed = true) ∧
        (s.scan.reviveCount + 1 < s.params.reviveInterval →
          t.scan.reviveCount = s.scan.reviveCount + 1 ∧ t.scan.revivalOwed = false)) ∧
      (¬(s.params.scanEnable = 1 ∧ s.portU.link = .up) →
        t.scan.time = s.scan.time ∧ t.scan.startPending = s.scan.startPending ∧ t.scan.duesOwed = []) ∧
      (s.params.scanEnable = 1 ∧ s.portU.link = .up →
        t.scan.time = (if s.scan.startPending then s.scan.time else s.scan.time + 1#32) ∧ t.scan.startPending = false ∧
        t.scan.duesOwed.Pairwise (· < ·) ∧
        ∀ i, i ∈ t.scan.duesOwed ↔
          i < 32 ∧ ∃ img : Image, img = vget s.active.scans i Image.zero ∧ img.valid = true ∧
            img.scanPhase ≤ t.scan.time.toNat ∧ img.scanInterval ∣ t.scan.time.toNat - img.scanPhase)

/-- EXPIRY (R25): every queued CONTROLLER record whose age has reached its age limit leaves and is answered EXPIRED, in
class order and then list order; nothing else leaves and no other slot changes. That one event takes all of them is log
entry 14. -/
def Obligations.ExpiryAnswersEveryExpiredRecord : Prop :=
  ∀ (s : State) (expired : ExRecord → Bool) (gone : List ExRecord), s.inReset = false → s.SlotLaw →
    (∀ r, expired r = true ↔ ∃ c, r = .controller c ∧ 0 < c.ageLimit.toNat ∧
      c.ageLimit.toNat ≤ (s.timer.count - c.arrival).toNat) →
    gone = s.queue.all.filter expired →
    ∃ t, exec .expiry s = .next t ∧ t = { s with queue := t.queue, loq := t.loq, counters := t.counters } ∧
      (∀ c, t.queue.list c = (s.queue.list c).filter fun r => !expired r) ∧
      (∀ k c n, gone[k]? = some (.controller c) → c.slot = some n →
        t.slot n = .filled (replyFrame c.tag c.logical c.cls .expired 0 c.epoch []) (s.filledCount + k)) ∧
      (∀ n, (∀ r ∈ gone, r.slot ≠ some n) → t.slot n = s.slot n) ∧
      (t.counter .expired).toNat = min 65535 ((s.counter .expired).toNat + gone.length) ∧
      (∀ c, c ≠ .expired → t.counter c = s.counter c)

/-- REVIVAL_POINT (R66). A node's turn is counted from the cursor on, with wrap-around. That a tick leaves the revival
point owed until the event is log entry 3. -/
def Obligations.RevivalPointProbesTheNextOfflineNode : Prop :=
  ∀ (s : State) (u : State), s.inReset = false → u = { s with scan := { s.scan with revivalOwed := false } } →
    (s.scan.revivalOwed = false → exec .revivalPoint s = .next s) ∧
    (s.scan.revivalOwed = true →
      ((s.probeOutstanding = true ∨ ∀ m, 1 ≤ m → m ≤ 31 → (s.node m).state ≠ .offline) →
        exec .revivalPoint s = .next u) ∧
      (∀ n, s.probeOutstanding = false → 1 ≤ n → n ≤ 31 → (s.node n).state = .offline →
        (∀ m, 1 ≤ m → m ≤ 31 → (s.node m).state = .offline →
          (if s.scan.reviveCursor < n then n else n + 31) ≤ (if s.scan.reviveCursor < m then m else m + 31)) →
        (s.params.classReserve < 48 - s.queue.size →
          exec .revivalPoint s = .next { u with
            queue := { s.queue with c3 := s.queue.c3 ++ [.probe n] }
            scan := { u.scan with reviveCursor := n } }) ∧
        (48 - s.queue.size ≤ s.params.classReserve → exec .revivalPoint s = .next u)))

/-- SCAN_DUE of an entry whose node is not OFFLINE (R110, R111, R112). That it takes the front of the dues that the scan
step left owed is log entry 3. -/
def Obligations.ScanDueIsMissedOrInserted : Prop :=
  ∀ (s u : State) (i : Nat) (rest : List Nat) (img : Image), s.inReset = false →
    u = { s with scan := { s.scan with duesOwed := rest } } →
    img = vget s.active.scans i Image.zero →
    (s.scan.duesOwed = [] → exec .scanDue s = .next s) ∧
    (s.scan.duesOwed = i :: rest →
      let room := if img.scanClass % 4 = 0 then 1 ≤ 48 - s.queue.size else s.params.classReserve < 48 - s.queue.size
      ((s.scanRecord i).outstanding = true ∨ s.nodeOffline img.scanNode = false ∧ ¬room →
        exec .scanDue s = .next { u with
          scan := { u.scan with
            records := vset s.scan.records i { s.scanRecord i with missed := min ((s.scanRecord i).missed + 1) 255 } }
          counters := vset s.counters 12 (saturate (s.counter .scanOverruns)) }) ∧
      ((s.scanRecord i).outstanding = false → s.nodeOffline img.scanNode = false → room →
        exec .scanDue s = .next { u with
          scan := { u.scan with records := vset s.scan.records i { s.scanRecord i with outstanding := true } }
          queue := s.queue.setList (BitVec.ofNat 2 img.scanClass) (s.queue.list (BitVec.ofNat 2 img.scanClass) ++
            [.scan {
              scanIndex := i, epoch := s.epoch, cls := BitVec.ofNat 2 img.scanClass, node := img.scanNode,
              index := img.scanFirst, count := img.scanLength, retry := img.scanRetry, slot := none }]) }))

/-- SCAN_DUE of an entry whose node is OFFLINE (R113, R115, R116): a report at once, in a slot of its own, when the report
mode asks for one and at least 4 slots are FREE. That it takes the front of the dues that the scan step left owed, and
drops it there, is log entry 3. -/
def Obligations.OfflineDueIsReportedOrMissed : Prop :=
  ∀ (s u : State) (i : Nat) (rest : List Nat) (img : Image) (last judged : ScanState) (report : Prop),
    s.inReset = false → s.scan.duesOwed = i :: rest → u = { s with scan := { s.scan with duesOwed := rest } } →
    img = vget s.active.scans i Image.zero → s.nodeOffline img.scanNode = true →
    last = s.scanRecord i → last.outstanding = false →
    judged = { last with lastOutcome := some .nodeOffline, lastData := none } →
    (report ↔ img.scanMode ≠ 1 ∨ last.lastOutcome ≠ some .nodeOffline) →
    (¬report → exec .scanDue s =
      .next { u with scan := { u.scan with records := vset s.scan.records i judged } }) ∧
    (∀ n, report → 4 ≤ s.freeCount → s.lowestFree = some n → exec .scanDue s =
      .next { u with
        loq := vset s.loq n (.filled {
          kind := .scanReport, cls := BitVec.ofNat 2 img.scanClass, position := 0#6, tag := BitVec.ofNat 12 i
          logical := s.epoch, code := 0x0B#8, aux := last.sequence
          payload := [BitVec.ofNat 8 last.missed, s.scan.time.extractLsb' 8 8, s.scan.time.extractLsb' 0 8] }
          s.filledCount)
        scan := { u.scan with
          records := vset s.scan.records i { judged with sequence := last.sequence + 1#8, missed := 0 } } }) ∧
    (report → s.freeCount < 4 → exec .scanDue s =
      .next { u with
        scan := { u.scan with records := vset s.scan.records i { last with missed := min (last.missed + 1) 255 } }
        counters := vset s.counters 12 (saturate (s.counter .scanOverruns)) })

/-! ### Links -/

/-- The counts of LINK_UP and LINK_DOWN short of their limits (R139, R140). A LINK_UP of an UP port and a LINK_DOWN of a
DOWN port are log entry 7. -/
def Obligations.LinksCountSymbolTimes : Prop :=
  ∀ (s : State) (p : PortId) (first : List SymbolTime) (turn : SymbolTime) (run : List SymbolTime), s.inReset = false →
    ((s.port p).link = .up → exec (.linkUp p run) s = .next s) ∧
    ((s.port p).link = .down → exec (.linkDown p run) s = .next s) ∧
    ((s.port p).link = .down → (∀ x ∈ run, validTime x = true) →
      ((s.port p).acquisition + run.length < 1024 →
        exec (.linkUp p run) s =
          .next (s.setPort p { s.port p with acquisition := (s.port p).acquisition + run.length })) ∧
      ((s.port p).acquisition + first.length < 1024 → validTime turn = false → run.length < 1024 →
        exec (.linkUp p (first ++ turn :: run)) s = .next (s.setPort p { s.port p with acquisition := run.length }))) ∧
    ((s.port p).link = .up → (∀ x ∈ run, validTime x = false) →
      ((s.port p).silence + run.length < 256 →
        exec (.linkDown p run) s =
          .next (s.setPort p {
            s.port p with
            silence := (s.port p).silence + run.length
            rx := (s.port p).rx.map fun r => { r with invalid := r.invalid || run.any invalidTime } })) ∧
      ((s.port p).silence + first.length < 256 → validTime turn = true → run.length < 256 →
        exec (.linkDown p (first ++ turn :: run)) s =
          .next (s.setPort p {
            s.port p with
            silence := run.length
            rx := (s.port p).rx.map fun r =>
              { r with invalid := r.invalid || (first ++ turn :: run).any invalidTime } })))

/-- LINK_UP at the 1,024th valid symbol (R139, R141, R108, R118, R149, R150). The latch flowOut is log entry 15. -/
def Obligations.LinkEntersUpAtTheLimit : Prop :=
  ∀ (s : State) (run rest : List SymbolTime), s.inReset = false → (∀ x ∈ run, validTime x = true) →
    (s.portU.link = .down → s.portU.acquisition + run.length = 1024 → run ≠ [] →
      ∃ t, exec (.linkUp .u (run ++ rest)) s = .next t ∧
        t = { s with
          portU := t.portU
          notice := { s.notice with linkU := some .up }
          scan := { s.scan with records := t.scan.records, time := 0#32, startPending := true } } ∧
        (∀ i, t.scanRecord i = {}) ∧
        t.portU = {
          s.portU with
          link := .up, acquisition := 0, silence := 0, held := false
          holdSent := decide (3 ≤ s.otq.length ∨ 3 ≤ s.inbox.length)
          flowOut := if 3 ≤ s.otq.length ∨ 3 ≤ s.inbox.length then some .hold else s.portU.flowOut }) ∧
    (s.portD.link = .down → s.portD.acquisition + run.length = 1024 → run ≠ [] →
      ∃ t, exec (.linkUp .d (run ++ rest)) s = .next t ∧
        t = { s with portD := t.portD, notice := { s.notice with linkD := some .up } } ∧
        t.portD = {
          s.portD with
          link := .up, acquisition := 0, silence := 0, held := false
          holdSent := decide (7 ≤ s.htq.length)
          flowOut := if 7 ≤ s.htq.length then some .hold else s.portD.flowOut })

/-- LINK_DOWN of Port U: the uplink loss (R140, R159, R32, R58, R104, R118, R137). The dues that the last scan step still
owes are judged first (log entry 3). That the silence count stands at 256 while the link is DOWN is log entry 18, the latch
flowOut log entry 15. -/
def Obligations.UplinkLossReachesEveryBlock : Prop :=
  ∀ (s u : State) (run rest : List SymbolTime), s.inReset = false → s.portU.link = .up →
    (∀ x ∈ run, validTime x = false) → s.portU.silence + run.length = 256 → run ≠ [] → u = s.settleDues →
    ∃ t, exec (.linkDown .u (run ++ rest)) s = .next t ∧
      t = { u with
        portU := t.portU, portD := t.portD, htq := [], inbox := [], chainEnd := none, uTx := none, loq := t.loq
        streak := 0, queue := t.queue, commit := t.commit, dlc := t.dlc
        scan := { u.scan with records := t.scan.records }
        notice := { u.notice with linkU := some .down } } ∧
      t.portU = {
        s.portU with
        link := .down, acquisition := 0, silence := 256, held := false, holdSent := false, rx := none
        flowOut := none } ∧
      t.portD = (if s.portD.link = .up ∧ s.portD.holdSent = true then
        { s.portD with holdSent := false, flowOut := some .go } else s.portD) ∧
      t.queue.all = [] ∧ (∀ n, t.slot n = .free) ∧
      (u.commit = none → t.commit = none) ∧ (∀ c, u.commit = some c → t.commit = some { c with slot := none }) ∧
      (u.dlc.inflight = none → t.dlc = u.dlc) ∧
      (∀ x, u.dlc.inflight = some x →
        t.dlc = { u.dlc with inflight := some { x with record := x.record.withSlot none }, sessionLost := true }) ∧
      (∀ i, i < 32 →
        ((∃ c, .scan c ∈ u.queue.all ∧ c.scanIndex = i) → t.scanRecord i = { u.scanRecord i with outstanding := false }) ∧
        (¬(∃ c, .scan c ∈ u.queue.all ∧ c.scanIndex = i) → t.scanRecord i = u.scanRecord i))

/-- LINK_DOWN of Port D (R140, R155): the OTQ is discarded, its addressed frames counted unreachable. The order in which
they are counted is log entry 27, that the silence count stands at 256 while the link is DOWN log entry 18, the latch flowOut
log entry 15. -/
def Obligations.DownlinkLossDiscardsTheOtq : Prop :=
  ∀ (s : State) (run rest : List SymbolTime) (lost : List Frame), s.inReset = false → s.portD.link = .up →
    (∀ x ∈ run, validTime x = false) → s.portD.silence + run.length = 256 → run ≠ [] →
    lost = s.otq.filter (fun f => (f.kind = .request ∨ f.kind = .control) ∧ f.position ≠ 63#6) →
    ∃ t : State, exec (.linkDown .d (run ++ rest)) s = .next t.judgeU ∧
      t = { s with
        portD := t.portD, otq := [], dTx := none, counters := t.counters
        notice := { s.notice with linkD := some .down, unreachable := t.notice.unreachable } } ∧
      t.portD = {
        s.portD with
        link := .down, acquisition := 0, silence := 256, held := false, holdSent := false, rx := none
        flowOut := none } ∧
      (t.counter .unreachable).toNat = min 65535 ((s.counter .unreachable).toNat + lost.length) ∧
      (∀ c, c ≠ .unreachable → t.counter c = s.counter c) ∧
      (lost = [] → t.notice.unreachable = s.notice.unreachable) ∧
      (∀ f, lost.getLast? = some f → t.notice.unreachable = some {
        position := f.position
        count := min 255 (((s.notice.unreachable.map Unreachable.count).getD 0) + lost.length) })

/-- HOLD and GO received (R148), and what a port's receive side sends when it judges its queues (R148 to R150). The latch
flowOut is log entry 15. -/
def Obligations.HoldAndGoFollowFlowControl : Prop :=
  (∀ (s : State) (p : PortId), s.inReset = false →
    ((s.port p).link = .up →
      exec (.hold p) s = .next (s.setPort p { s.port p with held := true, silence := 0 }) ∧
      exec (.go p) s = .next (s.setPort p { s.port p with held := false, silence := 0 })) ∧
    ((s.port p).link = .down → exec (.hold p) s = .next s ∧ exec (.go p) s = .next s)) ∧
  (∀ (s : State) (full low : Prop), (full ↔ 3 ≤ s.otq.length ∨ 3 ≤ s.inbox.length) →
    (low ↔ s.otq.length ≤ 1 ∧ s.inbox.length ≤ 1) →
    (s.portU.link = .up → full → s.portU.holdSent = false →
      s.judgeU = { s with portU := { s.portU with holdSent := true, flowOut := some .hold } }) ∧
    (s.portU.link = .up → low → s.portU.holdSent = true →
      s.judgeU = { s with portU := { s.portU with holdSent := false, flowOut := some .go } }) ∧
    (s.portU.link = .down ∨ ¬full ∧ s.portU.holdSent = false ∨ ¬low ∧ s.portU.holdSent = true → s.judgeU = s)) ∧
  (∀ s : State,
    (s.portD.link = .up → 7 ≤ s.htq.length → s.portD.holdSent = false →
      s.judgeD = { s with portD := { s.portD with holdSent := true, flowOut := some .hold } }) ∧
    (s.portD.link = .up → s.htq.length ≤ 5 → s.portD.holdSent = true →
      s.judgeD = { s with portD := { s.portD with holdSent := false, flowOut := some .go } }) ∧
    (s.portD.link = .down ∨ s.htq.length < 7 ∧ s.portD.holdSent = false ∨ 5 < s.htq.length ∧ s.portD.holdSent = true →
      s.judgeD = s))

/-! ### Frames -/

/-- The check of a frame at its arrival (R143, R185, R186, R190), and its CRC-16, one byte at a time. -/
def Obligations.FrameCheckAcceptsExactlyTheGoodFrames : Prop :=
  (∀ (bytes : List Byte) (invalidSymbol : Bool),
    (checkFrame bytes invalidSymbol).isSome = true ↔
      invalidSymbol = false ∧ 10 ≤ bytes.length ∧ bytes.length ≤ 42 ∧
      (bytes.getD 3 0#8).toNat % 64 + 10 = bytes.length ∧
      (bytes.getD 0 0#8).toNat / 16 ∈ [1, 2, 3, 9, 10, 11, 12] ∧
      ((bytes.getD 0 0#8).toNat / 16 = 3 → bytes.length = 11) ∧
      bytes.drop (bytes.length - 2) = crc16Bytes (bytes.take (bytes.length - 2))) ∧
  (∀ bytes, crc16Bytes bytes = [(crc16 bytes).extractLsb' 8 8, (crc16 bytes).extractLsb' 0 8]) ∧
  crc16 [] = 0xFFFF#16 ∧
  (∀ (bit : BitVec 16 → BitVec 16), (∀ w, bit w = if w.getLsbD 15 then (w <<< 1) ^^^ 0x1021#16 else w <<< 1) →
    ∀ bytes b, crc16 (bytes ++ [b]) = Nat.repeat bit 8 (crc16 bytes ^^^ (b.setWidth 16 <<< 8)))

/-- A check error on either port (R143, R142, R172): counted, latched, and nothing else. The bytes a frame start carries are
log entry 8, a frame on a DOWN port log entry 7. -/
def Obligations.CheckErrorsAreCountedAndLatched : Prop :=
  ∀ (s : State) (bytes : List Byte) (invalidSymbol : Bool), s.inReset = false →
    (s.portU.link = .up → checkFrame (s.portU.wholeFrame bytes) (s.portU.spoiled invalidSymbol) = none →
      exec (.uFrameArrival bytes invalidSymbol) s =
        .next (({ s with portU := { s.portU with rx := none, silence := 0 } }.bump .chainCheckU).latch .chainCheckU).judgeU) ∧
    (s.portD.link = .up → checkFrame (s.portD.wholeFrame bytes) (s.portD.spoiled invalidSymbol) = none →
      exec (.dFrameArrival bytes invalidSymbol) s =
        .next (({ s with portD := { s.portD with rx := none, silence := 0 } }.bump .chainCheckD).latch .chainCheckD).judgeD) ∧
    (∀ r, s.portU.link = .up → s.portU.rx = some r →
      exec (.frameStartInReception .u bytes) s =
        .next (({ s with portU := { s.portU with rx := some { bytes := bytes, invalid := false }, silence := 0 } }.bump
          .chainCheckU).latch .chainCheckU)) ∧
    (∀ r, s.portD.link = .up → s.portD.rx = some r →
      exec (.frameStartInReception .d bytes) s =
        .next (({ s with portD := { s.portD with rx := some { bytes := bytes, invalid := false }, silence := 0 } }.bump
          .chainCheckD).latch .chainCheckD)) ∧
    (∀ p, (s.port p).link = .up → (s.port p).rx = none →
      exec (.frameStartInReception p bytes) s =
        .next (s.setPort p { s.port p with rx := some { bytes := bytes, invalid := false }, silence := 0 })) ∧
    (s.portU.link = .down → exec (.uFrameArrival bytes invalidSymbol) s = .next s) ∧
    (s.portD.link = .down → exec (.dFrameArrival bytes invalidSymbol) s = .next s) ∧
    (∀ p, (s.port p).link = .down → exec (.frameStartInReception p bytes) s = .next s)

/-- A good REQUEST, addressed CONTROL or homeward frame on Port U is judged by its kind and target (R151, R144, R146, R147,
R154). -/
def Obligations.OutwardSwitchJudgesByKindAndTarget : Prop :=
  ∀ (s t : State) (bytes : List Byte) (invalidSymbol : Bool) (f : Frame), s.inReset = false → s.portU.link = .up →
    s.position ≤ 62 → checkFrame (s.portU.wholeFrame bytes) (s.portU.spoiled invalidSymbol) = some f →
    t = { s with portU := { s.portU with rx := none, silence := 0 } } →
    ((f.kind = .request ∨ f.kind = .control) → 1 ≤ s.position → f.position.toNat = s.position →
      (s.inbox.length < 4 → exec (.uFrameArrival bytes invalidSymbol) s = .next { t with inbox := s.inbox ++ [f] }.judgeU) ∧
      (4 ≤ s.inbox.length →
        exec (.uFrameArrival bytes invalidSymbol) s = .next ((t.bump .receiveOverflow).latch .receiveOverflow).judgeU)) ∧
    ((f.kind = .request ∨ f.kind = .control) → (s.position = 0 ∨ f.position.toNat ≠ s.position) → f.position ≠ 63#6 →
      (s.portD.link = .up → s.otq.length < 4 →
        exec (.uFrameArrival bytes invalidSymbol) s = .next { t with otq := s.otq ++ [f] }.judgeU) ∧
      (s.portD.link = .up → 4 ≤ s.otq.length →
        exec (.uFrameArrival bytes invalidSymbol) s = .next ((t.bump .receiveOverflow).latch .receiveOverflow).judgeU) ∧
      (s.portD.link = .down →
        exec (.uFrameArrival bytes invalidSymbol) s = .next { t.bump .unreachable with
          notice := { s.notice with
            unreachable := some {
              position := f.position
              count := min 255 ((s.notice.unreachable.map Unreachable.count).getD 0 + 1) } } }.judgeU)) ∧
    (f.kind = .request → f.position = 63#6 →
      exec (.uFrameArrival bytes invalidSymbol) s = .next (t.bump .misdirected).judgeU) ∧
    (f.kind.homeward = true → exec (.uFrameArrival bytes invalidSymbol) s = .next (t.bump .misdirected).judgeU)

/-- A broadcast CONTROL (R152, R147): one copy for a selected bridge's Inbox when its code is broadcastable, one for the
OTQ while Port D is UP, each discarded alone when its queue is full. An overflow places its FAULT item when the fault was
clear (R172). -/
def Obligations.BroadcastControlIsCopiedInwardAndOutward : Prop :=
  ∀ (s : State) (bytes : List Byte) (invalidSymbol : Bool) (f : Frame) (inward outward : Prop) [Decidable inward]
    [Decidable outward], s.inReset = false → s.portU.link = .up → s.position ≤ 62 →
    checkFrame (s.portU.wholeFrame bytes) (s.portU.spoiled invalidSymbol) = some f →
    f.kind = .control → f.position = 63#6 →
    (inward ↔ (f.mark = false ∨ ∃ first last ops, f.payload = first :: last :: ops ∧ 1 ≤ s.position ∧
        first.toNat ≤ s.position ∧ s.position ≤ last.toNat) ∧
      f.code ∉ [0x01#8, 0x02#8, 0x05#8, 0x07#8, 0x0D#8, 0x0A#8]) →
    (outward ↔ s.portD.link = .up) →
    ∃ t : State, exec (.uFrameArrival bytes invalidSymbol) s = .next t.judgeU ∧
      t = { s with
        portU := { s.portU with rx := none, silence := 0 }, inbox := t.inbox, otq := t.otq, counters := t.counters
        faults := t.faults, notice := t.notice } ∧
      t.inbox = (if inward ∧ s.inbox.length < 4 then s.inbox ++ [f] else s.inbox) ∧
      t.otq = (if outward ∧ s.otq.length < 4 then s.otq ++ [f] else s.otq) ∧
      (t.counter .receiveOverflow).toNat = min 65535 ((s.counter .receiveOverflow).toNat +
        ((if inward ∧ 4 ≤ s.inbox.length then 1 else 0) + (if outward ∧ 4 ≤ s.otq.length then 1 else 0))) ∧
      (∀ c, c ≠ .receiveOverflow → t.counter c = s.counter c) ∧
      (t.latched .receiveOverflow =
        (s.latched .receiveOverflow || decide ((inward ∧ 4 ≤ s.inbox.length) ∨ (outward ∧ 4 ≤ s.otq.length)))) ∧
      (∀ k, k ≠ .receiveOverflow → t.latched k = s.latched k) ∧
      t.notice = { s.notice with
        faults := if ((inward ∧ 4 ≤ s.inbox.length) ∨ (outward ∧ 4 ≤ s.otq.length)) ∧ s.latched .receiveOverflow = false
          then s.notice.faults ||| 4#6 else s.notice.faults }

/-- ENUMERATE (R156, R157): the position, and the frame sent on or the pending chain-end answer. The arrival of a good
ENUMERATE frame is the ENUMERATE command (log entry 21), and a frame in reception at the command ends uncounted, whatever it
held (log entry 28). -/
def Obligations.EnumerateRenumbersAndPassesTheCountOn : Prop :=
  ∀ (s t : State) (h : Header) (c c' : Byte) (g : Frame), s.inReset = false → s.portU.link = .up →
    c' = (if c.toNat ≤ 61 then c + 1#8 else c) →
    g = { h with kind := .enumerate, payload := [c'] } →
    t = { s with
      portU := { s.portU with rx := none, silence := 0 }
      position := if c.toNat ≤ 61 then c.toNat + 1 else 0 } →
    (s.portD.link = .up → s.otq.length < 4 → exec (.enumerate h c) s = .next { t with otq := s.otq ++ [g] }.judgeU) ∧
    (s.portD.link = .up → 4 ≤ s.otq.length →
      exec (.enumerate h c) s = .next ((t.bump .receiveOverflow).latch .receiveOverflow).judgeU) ∧
    (s.portD.link = .down →
      exec (.enumerate h c) s = .next { t with chainEnd := some { tag := h.tag, cls := h.cls, count := c' } }.judgeU) ∧
    (∀ (bytes : List Byte) (invalidSymbol : Bool) (f : Frame),
      checkFrame (s.portU.wholeFrame bytes) (s.portU.spoiled invalidSymbol) = some f → f.kind = .enumerate →
      exec (.uFrameArrival bytes invalidSymbol) s = exec (.enumerate f.toHeader (f.payload.headD 0#8)) s)

/-- R153 with R145 and R147: a good frame on Port D is judged by its kind alone. -/
def Obligations.HomewardFramesEnterTheHtq : Prop :=
  ∀ (s t : State) (bytes : List Byte) (invalidSymbol : Bool) (f : Frame), s.inReset = false → s.portD.link = .up →
    checkFrame (s.portD.wholeFrame bytes) (s.portD.spoiled invalidSymbol) = some f →
    t = { s with portD := { s.portD with rx := none, silence := 0 } } →
    ((f.kind = .reply ∨ f.kind = .ack ∨ f.kind = .scanReport ∨ f.kind = .notice) →
      (s.htq.length < 8 → exec (.dFrameArrival bytes invalidSymbol) s = .next { t with htq := s.htq ++ [f] }.judgeD) ∧
      (8 ≤ s.htq.length →
        exec (.dFrameArrival bytes invalidSymbol) s = .next ((t.bump .receiveOverflow).latch .receiveOverflow).judgeD)) ∧
    ((f.kind = .request ∨ f.kind = .control ∨ f.kind = .enumerate) →
      exec (.dFrameArrival bytes invalidSymbol) s = .next (t.bump .misdirected).judgeD)

/-- CHAIN_END_ACK (R157, R123): the pending answer takes the lowest FREE slot, FILLED with its ACK; it waits while none is
FREE. -/
def Obligations.ChainEndAnswerTakesAFreeSlot : Prop :=
  ∀ s : State, s.inReset = false →
    (s.chainEnd = none ∨ s.lowestFree = none → exec .chainEndAck s = .next s) ∧
    (∀ a n, s.chainEnd = some a → s.lowestFree = some n →
      exec .chainEndAck s = .next { s with
        chainEnd := none
        loq := vset s.loq n (.filled {
          kind := .ack, cls := a.cls, position := 0#6, tag := a.tag, logical := 0#16, code := 0x20#8, aux := 0x0A#8,
          payload := [a.count] } s.filledCount) })

/-! ### Sending -/

/-- R129: a grant, and the streak count after it. No grant is made but at a frame boundary (R128). A change of
THROUGH_WEIGHT grants nothing and leaves the streak count. -/
def Obligations.MergeGrantFollowsTheStreakTable : Prop :=
  (∀ (s : State) (f : Frame) (rest : List Frame) (n : Nat) (hi lo : Byte),
    s.HeadCommand .setParam [11#8, hi, lo] f rest n →
    ∃ t, exec .setParam s = .next t ∧ t.streak = s.streak ∧ t.uTx = s.uTx) ∧
  ∀ s : State, s.inReset = false →
    (¬(s.portU.link = .up ∧ s.portU.held = false ∧ s.uTx = none) → exec .mergeGrant s = .next s) ∧
    (s.portU.link = .up → s.portU.held = false → s.uTx = none →
      (s.htq = [] → s.nextLocal = none → exec .mergeGrant s = .next s) ∧
      (∀ g rest, s.htq = g :: rest →
        (s.nextLocal = none ∨ s.streak < s.params.throughWeight → exec .mergeGrant s = .next { s with
          uTx := some { source := .htq, frame := g }
          streak := if s.nextLocal = none then 0 else s.streak + 1 })) ∧
      (∀ n f, s.nextLocal = some (n, f) → s.htq = [] ∨ s.params.throughWeight ≤ s.streak →
        exec .mergeGrant s = .next { s with
          uTx := some { source := .slot n, frame := { f with position := BitVec.ofNat 6 s.position } }
          streak := 0 }))

/-- The local frame that is next (R126): ACKs and NOTICEs before REPLYs, REPLYs by class before SCAN_REPORTs, and in each
group the lowest fill number; slots whose transmission has begun are passed over. -/
def Obligations.LocalFramesLeaveByGroupAndFillNumber : Prop :=
  ∀ (s : State) (offered : Nat → Frame → Nat → Prop) (urgent : Frame → Prop), s.SlotLaw → s.KindLaw →
    (∀ n f k, offered n f k ↔ n < 64 ∧ s.slot n = .filled f k ∧ ∀ t, s.uTx = some t → t.source ≠ .slot n) →
    (∀ f, urgent f ↔ f.kind = .ack ∨ f.kind = .notice) →
    (s.nextLocal = none ↔ ∀ n f k, ¬offered n f k) ∧
    (∀ n f, s.nextLocal = some (n, f) ↔ ∃ k, offered n f k ∧ ∀ m g j, offered m g j →
      (urgent f → urgent g → k ≤ j) ∧
      (f.kind = .reply → ¬urgent g ∧ (g.kind = .reply → f.cls < g.cls ∨ f.cls = g.cls ∧ k ≤ j)) ∧
      (f.kind = .scanReport → g.kind = .scanReport ∧ k ≤ j))

/-- U_TX_FRAME_END (R127, R130, R136, R122): the slot becomes FREE, or the head leaves the HTQ, or nothing changes for a
frame held apart since a soft reset. OTQ_SEND_START and OTQ_SEND_END (R144, R149). When no frame follows at once, the flow
symbol is repeated (R148, the latch flowOut: log entry 15). That a command whose condition does not hold changes nothing is
log entry 1. -/
def Obligations.SentFramesLeaveTheirQueues : Prop :=
  (∀ s : State, s.inReset = false →
    (s.uTx = none → exec .uTxFrameEnd s = .next s) ∧
    (∀ x, s.uTx = some x → ∃ u v : State, exec .uTxFrameEnd s = .next v ∧
      v = { u with portU := v.portU } ∧
      v.portU = (if s.portU.link = .down ∨ s.portU.held = false ∧ (u.htq ≠ [] ∨ u.nextLocal ≠ none) then u.portU
        else { u.portU with flowOut := some (if s.portU.holdSent then .hold else .go) }) ∧
      (x.source = .htq → u = { s with uTx := none, htq := s.htq.drop 1 }.judgeD) ∧
      (x.source = .detached → u = { s with uTx := none }) ∧
      (∀ n f k, x.source = .slot n → s.slot n = .filled f k →
        u = { s with uTx := none, loq := u.loq } ∧ u.slot n = .free ∧
        (∀ m g j, m ≠ n → s.slot m = .filled g j → u.slot m = .filled g (if k < j then j - 1 else j)) ∧
        (∀ m, m ≠ n → (∀ g j, s.slot m ≠ .filled g j) → u.slot m = s.slot m)))) ∧
  (∀ s : State, s.inReset = false →
    (∀ f rest, s.otq = f :: rest → s.portD.link = .up → s.portD.held = false → s.dTx = none →
      exec .otqSendStart s = .next { s with dTx := some f }) ∧
    (s.otq = [] ∨ s.portD.link = .down ∨ s.portD.held = true ∨ s.dTx ≠ none → exec .otqSendStart s = .next s) ∧
    (s.dTx = none → exec .otqSendEnd s = .next s) ∧
    (∀ f, s.dTx = some f → ∃ u v : State, exec .otqSendEnd s = .next v ∧
      u = { s with dTx := none, otq := s.otq.drop 1 }.judgeU ∧ v = { u with portD := v.portD } ∧
      v.portD = (if s.portD.link = .down ∨ s.portD.held = false ∧ u.otq ≠ [] then s.portD
        else { s.portD with flowOut := some (if s.portD.holdSent then .hold else .go) })))

/-- NOTICE_PLACE (R133, R134, R132), the items of the Notice Set in the order in which they are taken (R134), and the two
bytes of each (R186). -/
def Obligations.NoticeCarriesTheFirstSixteenItems : Prop :=
  (∀ s : State, s.inReset = false →
    (s.notice.items = [] ∨ s.portU.link = .down ∨ s.notice.holdoff < s.params.noticeHoldoff ∨ s.freeCount < 2 →
      exec .noticePlace s = .next s) ∧
    (∀ n, s.notice.items ≠ [] → s.portU.link = .up → s.params.noticeHoldoff ≤ s.notice.holdoff → 2 ≤ s.freeCount →
      s.lowestFree = some n →
      ∃ t, exec .noticePlace s = .next t ∧ t = { s with loq := t.loq, notice := t.notice } ∧
        t.loq = vset s.loq n (.filled {
          kind := .notice, cls := 0#2, position := 0#6, tag := s.notice.sequence, logical := 0#16, code := 0#8
          aux := 0#8, payload := (s.notice.items.take 16).flatMap NoticeItem.bytes } s.filledCount) ∧
        t.notice.items = s.notice.items.drop 16 ∧ t.notice.holdoff = 0 ∧
        t.notice.sequence = s.notice.sequence + 1#12)) ∧
  (∀ t : NoticeSet, t.items.Pairwise (fun a b => a.place < b.place) ∧
    (∀ k, .fault k ∈ t.items ↔ t.faults.getLsbD k.code = true) ∧
    (∀ l, .link .u l ∈ t.items ↔ t.linkU = some l) ∧ (∀ l, .link .d l ∈ t.items ↔ t.linkD = some l) ∧
    (∀ n st, .node n st ∈ t.items ↔ 1 ≤ n ∧ n ≤ 31 ∧ vget t.nodes (n - 1) none = some st) ∧
    (∀ u, .unreachable u ∈ t.items ↔ t.unreachable = some u)) ∧
  (∀ k, (NoticeItem.fault k).bytes = [BitVec.ofNat 8 k.code, 0x00#8]) ∧
  [FaultKind.chainCheckU, .chainCheckD, .receiveOverflow, .dropContention, .strayTraffic, .dropLineDead].map
    FaultKind.code = [0, 1, 2, 3, 4, 5] ∧
  (NoticeItem.link .u .down).bytes = [0x40#8, 0x00#8] ∧ (NoticeItem.link .u .up).bytes = [0x40#8, 0x01#8] ∧
  (NoticeItem.link .d .down).bytes = [0x41#8, 0x00#8] ∧ (NoticeItem.link .d .up).bytes = [0x41#8, 0x01#8] ∧
  (∀ n st, 1 ≤ n → n ≤ 31 → (NoticeItem.node n st).bytes = [BitVec.ofNat 8 (0x80 + n), st.code]) ∧
  [NodeState.unknown, .online, .suspect, .offline].map NodeState.code = [0x00#8, 0x01#8, 0x02#8, 0x03#8] ∧
  (∀ u, (NoticeItem.unreachable u).bytes = [BitVec.ofNat 8 (0xC0 + u.position.toNat), BitVec.ofNat 8 u.count])

/-! ### Admission -/

/-- REQUEST_ADMISSION (R9 to R18): the first check that fails refuses the REQUEST; one that passes all seven becomes a
CONTROLLER record at the tail of its class list. -/
def Obligations.AdmissionTakesTheSevenChecksInOrder : Prop :=
  ∀ (s t : State) (f : Frame) (rest : List Frame) (n fn count width : Nat) (cls : Image → Cls)
    (guarded formed tagFree : Prop) (permitted offline room : Image → Prop),
    s.Head f rest n → f.kind = .request → t = s.took rest n →
    fn = f.code.toNat / 64 → count = f.code.toNat % 64 → width = (if fn = 1 then count else f.payload.length) →
    (∀ img, cls img = if img.byte 8 ≤ 3 then BitVec.ofNat 2 (img.byte 8) else f.cls) →
    (guarded ↔ s.params.checkPolicy = 0 ∧ s.latched .chainCheckU = true) →
    (formed ↔ fn = 1 ∧ 1 ≤ count ∧ count ≤ 32 ∧ f.payload = [] ∨
      fn = 2 ∧ 1 ≤ f.payload.length ∧ f.payload.length ≤ 32) →
    (tagFree ↔ ∀ c, .controller c ∈ s.records → c.tag ≠ f.tag) →
    (∀ img, permitted img ↔ if img.byte 1 = 0 then fn = 2 else
      img.byte 7 = 1 ∧ fn = 1 ∨ img.byte 7 = 2 ∧ fn = 2 ∨ img.byte 7 = 3) →
    (∀ img, offline img ↔ 1 ≤ img.byte 1 ∧ img.byte 1 ≤ 31 ∧ (s.node (img.byte 1)).state = .offline) →
    (∀ img, room img ↔ if cls img = 0#2 then 1 ≤ 48 - s.queue.size else s.params.classReserve < 48 - s.queue.size) →
    (guarded → exec .requestAdmission s = .next (t.refusedWith f n .guarded f.cls)) ∧
    (¬guarded → ¬formed → exec .requestAdmission s = .next (t.refusedWith f n .payloadError f.cls)) ∧
    (¬guarded → formed → ¬tagFree → exec .requestAdmission s = .next (t.refusedWith f n .tagInUse f.cls)) ∧
    (¬guarded → formed → tagFree → (∀ img, ¬s.RouteFor f.logical.toNat width img) →
      exec .requestAdmission s = .next (t.refusedWith f n .noRoute f.cls)) ∧
    (∀ img, ¬guarded → formed → tagFree → s.RouteFor f.logical.toNat width img →
      (¬permitted img → exec .requestAdmission s = .next (t.refusedWith f n .accessDenied (cls img))) ∧
      (permitted img → offline img → exec .requestAdmission s = .next (t.refusedWith f n .nodeOffline (cls img))) ∧
      (permitted img → ¬offline img → ¬room img →
        exec .requestAdmission s = .next (t.refusedWith f n .queueFull (cls img))) ∧
      (permitted img → ¬offline img → room img →
        exec .requestAdmission s = .next { t with
          loq := vset t.loq n (.reserved .exchange)
          queue := s.queue.setList (cls img) (s.queue.list (cls img) ++ [.controller {
            tag := f.tag, epoch := s.epoch, cls := cls img, node := img.byte 1
            fn := if fn = 1 then .read count else if img.byte 1 = 0 then .bwrite f.payload else .write f.payload
            index := img.byte 6 + (f.logical.toNat - img.routeBase), logical := f.logical, retry := img.byte 9
            ageLimit := f.aux, arrival := s.timer.count, slot := some n, cancelMark := false }]) }))

/-! ### Dispatch of CONTROLs -/

/-- The Inbox head waits while no slot is FREE (R8), and only the command that the head carries takes it (R162). -/
def Obligations.InboxHeadIsTakenByItsOwnCommand : Prop :=
  ∀ s : State, s.inReset = false →
    (s.lowestFree = none ∨ s.inbox = [] →
      exec .requestAdmission s = .next s ∧ exec .badCommand s = .next s ∧ ∀ c : Command, exec c.instr s = .next s) ∧
    (∀ f rest, s.inbox = f :: rest →
      (f.kind ≠ .request → exec .requestAdmission s = .next s) ∧
      (f.kind ≠ .control ∨ (∃ c : Command, f.code = c.code) → exec .badCommand s = .next s) ∧
      (∀ c : Command, f.kind ≠ .control ∨ f.code ≠ c.code → exec c.instr s = .next s))

/-- A command code that names no command, and operands of the wrong length (R162, R163, R164): answered when addressed,
without effect when broadcast. The ACK of every CONTROL and its result codes (R163, R165). -/
def Obligations.MalformedCommandsChangeNothing : Prop :=
  (∀ (s t : State) (f : Frame) (rest : List Frame) (n : Nat), s.Head f rest n → t = s.took rest n → f.kind = .control →
    (∀ c : Command, f.code ≠ c.code) → exec .badCommand s = .next (t.answered f n .badCommand [])) ∧
  (∀ (s t : State) (f : Frame) (rest : List Frame) (n : Nat) (c : Command) (ops : List Byte),
    s.HeadCommand c ops f rest n → t = s.took rest n →
    ops.length ≠ [0, 1, 3, 1, 0, 12, 3, 0, 0, 2, 1, 1, 1, 0, 0, 1].getD (c.code.toNat - 1) 0 →
    exec c.instr s = .next (t.answered f n .badParam [])) ∧
  (∀ (s : State) (f : Frame) (n : Nat) (code : AckCode) (payload : List Byte),
    (f.position = 63#6 → s.answered f n code payload = s.freeSlot n) ∧
    (f.position ≠ 63#6 → s.answered f n code payload = { s with
      loq := vset s.loq n (.filled {
        kind := .ack, cls := f.cls, position := 0#6, tag := f.tag, logical := 0#16, code := f.code, aux := code.code
        payload := payload } s.filledCount) })) ∧
  [AckCode.done, .badCommand, .badParam, .badValue, .badIndex, .commitBusy, .commitRejected, .notFound, .inFlight,
    .nodeBusy, .chainEnd].map AckCode.code =
    [0x00#8, 0x01#8, 0x02#8, 0x03#8, 0x04#8, 0x05#8, 0x06#8, 0x07#8, 0x08#8, 0x09#8, 0x0A#8]

/-- READ_STATUS (R166): the 19 bytes of the status record, and nothing changed. The FREE count is taken while the
READ_STATUS holds its own slot. The codes of the DLC states are chapter 11's. -/
def Obligations.ReadStatusReportsTheBridge : Prop :=
  ∀ (s t : State) (f : Frame) (rest : List Frame) (n : Nat),
    s.HeadCommand .readStatus [] f rest n → t = s.took rest n → s.position ≤ 62 →
    t.freeCount + 1 = s.freeCount ∧
    [DlcState.idle, .transmit, .await, .receive, .guard, .halted].map DlcState.code =
      [0x00#8, 0x01#8, 0x02#8, 0x03#8, 0x04#8, 0x05#8] ∧
    exec .readStatus s = .next (t.answered f n .done [
      BitVec.ofNat 8 (bitIf (1 ≤ s.position) 128 + s.position),
      s.faults.setWidth 8,
      BitVec.ofNat 8 (bitIf (s.params.checkPolicy = 1) 1 +
        bitIf (s.params.checkPolicy = 0 ∧ s.latched .chainCheckU = true) 2 + bitIf (s.dlc.haltReq = true) 4),
      s.dlc.state.code,
      BitVec.ofNat 8 s.queue.c0.length, BitVec.ofNat 8 s.queue.c1.length, BitVec.ofNat 8 s.queue.c2.length,
      BitVec.ofNat 8 s.queue.c3.length,
      BitVec.ofNat 8 t.freeCount,
      BitVec.ofNat 8 (bitIf (s.commit ≠ none) 1 + bitIf (s.activeBank = .bank1) 2 + bitIf (s.portU.link = .up) 4 +
        bitIf (s.portD.link = .up) 8),
      s.epoch.extractLsb' 8 8, s.epoch.extractLsb' 0 8,
      BitVec.ofNat 8 (s.nodes.toList.countP fun r => decide (r.state = .unknown)),
      BitVec.ofNat 8 (s.nodes.toList.countP fun r => decide (r.state = .online)),
      BitVec.ofNat 8 (s.nodes.toList.countP fun r => decide (r.state = .suspect)),
      BitVec.ofNat 8 (s.nodes.toList.countP fun r => decide (r.state = .offline)),
      0x0C#8, 0x5A#8, 1#8])

/-- GET_PARAM (R168). -/
def Obligations.GetParamReturnsCurrentAndPendingValue : Prop :=
  ∀ (s t : State) (f : Frame) (rest : List Frame) (n : Nat) (i : Byte) (id : Nat) (cur : List Nat)
    (pend : List (Option Nat)), s.HeadCommand .getParam [i] f rest n → t = s.took rest n → id = i.toNat →
    cur = [s.dlc.cur.dropRate, s.dlc.cur.tResp, s.dlc.cur.tGap, s.dlc.cur.tGuard, s.dlc.cur.tBcast,
      s.params.offlineThreshold, s.params.reviveInterval, s.params.tickPeriod, s.params.scanEnable,
      s.params.classReserve, s.params.throughWeight, s.params.noticeHoldoff, s.params.checkPolicy,
      s.params.counterMode] →
    pend = [s.dlc.pend.dropRate, s.dlc.pend.tResp, s.dlc.pend.tGap, s.dlc.pend.tGuard, s.dlc.pend.tBcast] →
    (id = 0 ∨ 14 < id → exec .getParam s = .next (t.answered f n .badParam [])) ∧
    (∀ v, 1 ≤ id → cur[id - 1]? = some v →
      (∀ w, pend[id - 1]? = some (some w) →
        exec .getParam s = .next (t.answered f n .done (i :: twoBytes v ++ 1#8 :: twoBytes w))) ∧
      ((∀ w, pend[id - 1]? ≠ some (some w)) →
        exec .getParam s = .next (t.answered f n .done (i :: twoBytes v ++ [0#8, 0#8, 0#8]))))

/-- SET_PARAM (R167, R169, R56, R65, R108). A write of the value that a line setting without a pending value already holds
changes nothing. The dues that the last scan step still owes are judged before a change of SCAN_ENABLE claims its slot (log
entry 3). -/
def Obligations.SetParamWritesOneParameter : Prop :=
  ∀ (s t : State) (f : Frame) (rest : List Frame) (n id v : Nat) (i hi lo : Byte) (inRange : Prop),
    s.HeadCommand .setParam [i, hi, lo] f rest n → t = s.took rest n → id = i.toNat → v = hi.toNat * 256 + lo.toNat →
    (inRange ↔ ∃ r, [(0, 4), (2, 255), (2, 15), (1, 63), (1, 255), (1, 7), (0, 65535), (1, 255), (0, 1), (0, 16), (1, 8),
      (0, 255), (0, 1), (0, 1)][id - 1]? = some r ∧ r.1 ≤ v ∧ v ≤ r.2) →
    (id = 0 ∨ 14 < id → exec .setParam s = .next (t.answered f n .badParam [])) ∧
    (1 ≤ id → id ≤ 14 → ¬inRange → exec .setParam s = .next (t.answered f n .badValue [i])) ∧
    (1 ≤ id → id ≤ 5 → inRange → ∃ u : State, exec .setParam s = .next (u.answered f n .done [i, hi, lo]) ∧
      (s.dlc.state = .idle ∨ s.dlc.state = .halted →
        u = { t with dlc := { t.dlc with cur := u.dlc.cur } } ∧
        ∀ j, paramValue u.dlc.cur u.params j = if j = id then v else paramValue s.dlc.cur s.params j) ∧
      (s.dlc.state ≠ .idle → s.dlc.state ≠ .halted →
        u = { t with dlc := { t.dlc with pend := u.dlc.pend } } ∧
        (paramPending s.dlc.pend id = none → paramValue s.dlc.cur s.params id = v → u = t) ∧
        (paramPending s.dlc.pend id ≠ none ∨ paramValue s.dlc.cur s.params id ≠ v →
          ∀ j, paramPending u.dlc.pend j = if j = id then some v else paramPending s.dlc.pend j))) ∧
    (6 ≤ id → id ≤ 14 → inRange → ∃ (m : Nat) (u x : State),
      x = (if id = 9 ∧ v ≠ s.params.scanEnable then s.settleDues else s) ∧ x.lowestFree = some m ∧
      exec .setParam s = .next (u.answered f m .done [i, hi, lo]) ∧
      u = { x.took rest m with params := u.params, scan := u.scan } ∧
      (∀ j, paramValue u.dlc.cur u.params j = if j = id then v else paramValue s.dlc.cur s.params j) ∧
      (id = 9 → s.params.scanEnable = 0 → v = 1 → u.scan = { x.scan with time := 0#32, startPending := true }) ∧
      (id = 7 → s.params.reviveInterval = 0 → v ≠ 0 → u.scan = { x.scan with reviveCount := 0 }) ∧
      (¬(id = 9 ∧ s.params.scanEnable = 0 ∧ v = 1) → ¬(id = 7 ∧ s.params.reviveInterval = 0 ∧ v ≠ 0) →
        u.scan = x.scan))

/-- CLEAR_FAULTS (R174, R173) and READ_COUNTERS (R176, R177). -/
def Obligations.FaultsAreClearedAndCountersRead : Prop :=
  (∀ (s t : State) (f : Frame) (rest : List Frame) (n : Nat) (mask : Byte),
    s.HeadCommand .clearFaults [mask] f rest n → t = s.took rest n →
    (64 ≤ mask.toNat → exec .clearFaults s = .next (t.answered f n .badValue [])) ∧
    (mask.toNat < 64 → ∃ u : State, exec .clearFaults s = .next (u.answered f n .done [u.faults.setWidth 8]) ∧
      u = { t with faults := u.faults } ∧
      ∀ k, u.latched k = (s.latched k && !mask.getLsbD k.code))) ∧
  (∀ (s t : State) (f : Frame) (rest : List Frame) (n : Nat) (bytes : List Byte),
    s.HeadCommand .readCounters [] f rest n → t = s.took rest n →
    bytes = [s.counter .chainCheckU, s.counter .chainCheckD, s.counter .receiveOverflow, s.counter .misdirected,
      s.counter .unreachable, s.counter .exchOk, s.counter .exchFail, s.counter .retries, s.counter .contention,
      s.counter .strayBytes, s.counter .refused, s.counter .expired, s.counter .scanOverruns,
      s.counter .syncs].flatMap (fun w => [w.extractLsb' 8 8, w.extractLsb' 0 8]) →
    (s.params.counterMode ≠ 1 → exec .readCounters s = .next (t.answered f n .done bytes)) ∧
    (s.params.counterMode = 1 → ∃ u : State, exec .readCounters s = .next (u.answered f n .done bytes) ∧
      u = { t with counters := u.counters } ∧ ∀ c, u.counter c = 0#16))

/-! ### Banks -/

/-- TABLE_WRITE, TABLE_READ and SHADOW_LOAD (R91, R92, R93). -/
def Obligations.TablesAreWrittenReadAndCopied : Prop :=
  (∀ (s t : State) (f : Frame) (rest : List Frame) (n : Nat) (table index : Byte) (bytes : List Byte),
    s.HeadCommand .tableWrite (table :: index :: bytes) f rest n → t = s.took rest n → bytes.length = 10 →
    (table ≠ 1#8 → table ≠ 2#8 → exec .tableWrite s = .next (t.answered f n .badParam [])) ∧
    (table = 1#8 ∧ 128 ≤ index.toNat ∨ table = 2#8 ∧ 32 ≤ index.toNat →
      exec .tableWrite s = .next (t.answered f n .badIndex [])) ∧
    (table = 1#8 ∧ index.toNat < 128 ∨ table = 2#8 ∧ index.toNat < 32 →
      (s.commit ≠ none → exec .tableWrite s = .next (t.answered f n .commitBusy [])) ∧
      (s.commit = none → ∃ u : State, exec .tableWrite s = .next (u.answered f n .done [table, index]) ∧
        u = { t with bank0 := u.bank0, bank1 := u.bank1 } ∧ u.active = s.active ∧
        ∀ tb i, (u.shadow.image tb i).toList =
          if tb.code = table ∧ i = index.toNat then bytes else (s.shadow.image tb i).toList))) ∧
  (∀ (s t : State) (f : Frame) (rest : List Frame) (n : Nat) (table sel index : Byte),
    s.HeadCommand .tableRead [table, sel, index] f rest n → t = s.took rest n →
    (table ≠ 1#8 ∧ table ≠ 2#8 ∨ sel ≠ 0#8 ∧ sel ≠ 1#8 → exec .tableRead s = .next (t.answered f n .badParam [])) ∧
    (∀ (tb : TableId) (b : Bank) (id : BankId), tb.code = table →
      (sel = 0#8 ∧ b = s.active ∧ id = s.activeBank ∨ sel = 1#8 ∧ b = s.shadow ∧ id ≠ s.activeBank) →
      (tb.size ≤ index.toNat → exec .tableRead s = .next (t.answered f n .badIndex [])) ∧
      (index.toNat < tb.size → exec .tableRead s = .next (t.answered f n .done
        (table :: sel :: (if id = .bank0 then 0#8 else 1#8) :: index :: (b.image tb index.toNat).toList))))) ∧
  (∀ (s t : State) (f : Frame) (rest : List Frame) (n : Nat), s.HeadCommand .shadowLoad [] f rest n → t = s.took rest n →
    (s.commit ≠ none → exec .shadowLoad s = .next (t.answered f n .commitBusy [])) ∧
    (s.commit = none → exec .shadowLoad s =
      .next (State.answered f n .done [] { t with bank0 := s.active, bank1 := s.active })))

/-- COMMIT (R94): in IDLE it starts the sweep, an addressed one with its slot RESERVED and no ACK yet, a broadcast one with
no slot; while VALIDATING it is answered COMMIT_BUSY. COMMIT_REJECT (R95, R96): the commit ends at the first failing entry
from the cursor on, with its table, index and reason in the ACK of a COMMIT that still holds its slot. -/
def Obligations.CommitStartsASweepThatRejectsTheFirstFailure : Prop :=
  (∀ (s t : State) (f : Frame) (rest : List Frame) (n : Nat), s.HeadCommand .commit [] f rest n → t = s.took rest n →
    (s.commit ≠ none → exec .commit s = .next (t.answered f n .commitBusy [])) ∧
    (s.commit = none → f.position ≠ 63#6 → exec .commit s = .next { t with
      loq := vset t.loq n (.reserved .commit)
      commit := some {
        tag := f.tag, cls := f.cls, addressed := true, slot := some n, cursor := { table := .route, index := 0 } } }) ∧
    (s.commit = none → f.position = 63#6 → exec .commit s = .next { t with
      loq := s.loq
      commit := some {
        tag := f.tag, cls := f.cls, addressed := false, slot := none, cursor := { table := .route, index := 0 } } })) ∧
  (∀ s : State, s.inReset = false →
    (s.commit = none → exec .commitReject s = .next s) ∧
    (∀ c, s.commit = some c → (∀ k, c.cursor.place ≤ k → k < 160 → s.shadow.entryFails k = none) →
      exec .commitReject s = .next s) ∧
    (∀ c k r, s.commit = some c → c.cursor.place ≤ k → k < 160 → s.shadow.entryFails k = some r →
      (∀ j, c.cursor.place ≤ j → j < k → s.shadow.entryFails j = none) →
      (c.slot = none → exec .commitReject s = .next { s with commit := none }) ∧
      (∀ n, c.slot = some n → exec .commitReject s = .next { s with
        commit := none
        loq := vset s.loq n (.filled {
          kind := .ack, cls := c.cls, position := 0#6, tag := c.tag, logical := 0#16, code := 0x09#8, aux := 0x06#8
          payload := [if k < 128 then 1#8 else 2#8, BitVec.ofNat 8 (if k < 128 then k else k - 128), r.code] }
          s.filledCount) })))

/-- SWAP (R97, R98, R117): the swap once every entry from the cursor on has passed. The dues that the last scan step still
owes are judged first (log entry 3). That a retired scan is the mark of an old epoch is log entry 11. -/
def Obligations.SwapExchangesTheBanks : Prop :=
  ∀ s v : State, s.inReset = false → v = s.settleDues →
    (s.commit = none → exec .swap s = .next s) ∧
    (∀ c, s.commit = some c → (∃ k, c.cursor.place ≤ k ∧ k < 160 ∧ s.shadow.entryFails k ≠ none) →
      exec .swap s = .next s) ∧
    (∀ c, s.commit = some c → (∀ k, c.cursor.place ≤ k → k < 160 → s.shadow.entryFails k = none) →
      ∃ t, exec .swap s = .next t ∧
        t = { v with
          activeBank := t.activeBank, epoch := t.epoch, commit := none, queue := t.queue, loq := t.loq
          scan := {
            v.scan with records := t.scan.records, time := 0#32, startPending := true, retired := t.scan.retired } } ∧
        t.activeBank ≠ s.activeBank ∧ t.active = s.shadow ∧ t.shadow = s.active ∧
        t.epoch = (if s.epoch = 65535#16 then 1#16 else s.epoch + 1#16) ∧
        (∀ cls, t.queue.list cls = (v.queue.list cls).filter fun r => !r.isScan) ∧
        (∀ i, t.scanRecord i = {}) ∧
        (c.slot = none → t.loq = v.loq) ∧
        (∀ n, c.slot = some n → t.loq = vset v.loq n (.filled {
          kind := .ack, cls := c.cls, position := 0#6, tag := c.tag, logical := 0#16, code := 0x09#8, aux := 0x00#8
          payload := [t.epoch.extractLsb' 8 8, t.epoch.extractLsb' 0 8, if s.activeBank = .bank0 then 1#8 else 0#8] }
          v.filledCount)) ∧
        (∀ r, s.inflightRecord = some (.scan r) → r.epoch = s.epoch → t.scan.retired = some {
          scanIndex := r.scanIndex, sequence := (v.scanRecord r.scanIndex).sequence
          missed := (v.scanRecord r.scanIndex).missed }) ∧
        ((∀ r, s.inflightRecord = some (.scan r) → r.epoch ≠ s.epoch) → t.scan.retired = s.scan.retired))

/-! ### The other CONTROLs -/

/-- CANCEL (R27): a queued record is answered CANCELLED, an in-flight one is marked, another tag is not found. That the
REPLY takes its fill number before the ACK is log entry 25. -/
def Obligations.CancelFindsTheRecordOfItsTag : Prop :=
  ∀ (s t : State) (f : Frame) (rest : List Frame) (n : Nat) (hi lo : Byte) (tag : Tag) (pay : List Byte),
    s.HeadCommand .cancel [hi, lo] f rest n → t = s.took rest n → s.TagLaw →
    tag.toNat = hi.toNat % 16 * 256 + lo.toNat → pay = [BitVec.ofNat 8 (hi.toNat % 16), lo] →
    (∀ cls before after c m, s.queue.list cls = before ++ .controller c :: after → c.tag = tag → c.slot = some m →
      exec .cancel s = .next (State.answered f n .done pay { t with
        queue := s.queue.setList cls (before ++ after)
        loq := vset t.loq m (.filled (replyFrame tag c.logical c.cls .cancelled 0 c.epoch []) s.filledCount) })) ∧
    (∀ x c, s.dlc.inflight = some x → x.record = .controller c → c.tag = tag →
      exec .cancel s = .next (State.answered f n .inFlight pay { t with
        dlc := { s.dlc with inflight := some { x with record := .controller { c with cancelMark := true } } } })) ∧
    ((∀ c, .controller c ∈ s.records → c.tag ≠ tag) → exec .cancel s = .next (t.answered f n .notFound pay))

/-- FLUSH (R29): every queued CONTROLLER record of a masked class leaves without an answer and its slot becomes FREE. -/
def Obligations.FlushReleasesTheMaskedClasses : Prop :=
  ∀ (s t : State) (f : Frame) (rest : List Frame) (n : Nat) (mask : Byte) (flushed : ExRecord → Bool)
    (gone : List ExRecord), s.HeadCommand .flush [mask] f rest n → t = s.took rest n → s.SlotLaw →
    (∀ r, flushed r = true ↔ ∃ c, r = .controller c ∧ mask.getLsbD c.cls.toNat = true) →
    gone = s.queue.all.filter flushed →
    ∃ u : State, exec .flush s = .next (u.answered f n .done [BitVec.ofNat 8 gone.length]) ∧
      u = { t with queue := u.queue, loq := u.loq } ∧
      (∀ cls, u.queue.list cls = (s.queue.list cls).filter fun r => !flushed r) ∧
      (∀ k, (∃ r ∈ gone, r.slot = some k) → u.slot k = .free) ∧
      (∀ k, (∀ r ∈ gone, r.slot ≠ some k) → u.slot k = t.slot k)

/-- NODE_RESET and NODE_READ (R68, R70, R64, R189); an absent last outcome is sent as 00h. -/
def Obligations.NodeRecordsAreResetAndRead : Prop :=
  ∀ (s t : State) (f : Frame) (rest : List Frame) (n m : Nat) (i : Byte) (busy : Prop) [Decidable busy], m = i.toNat →
    t = s.took rest n → (busy ↔ ∃ r, s.inflightRecord = some r ∧ r.node = m) →
    outcomeByte none = 0x00#8 ∧ (∀ o, outcomeByte (some o) = o.code) ∧
    (s.HeadCommand .nodeReset [i] f rest n →
      (m = 0 ∨ 31 < m → exec .nodeReset s = .next (t.answered f n .badIndex [i])) ∧
      (1 ≤ m → m ≤ 31 → busy → exec .nodeReset s = .next (t.answered f n .nodeBusy [i])) ∧
      (1 ≤ m → m ≤ 31 → ¬busy → exec .nodeReset s = .next (State.answered f n .done [i] { t with
        nodes := vset s.nodes (m - 1) {
          state := .unknown, sync := .needsSync, nextToggle := false, failures := 0, lastOutcome := none }
        notice := { s.notice with
          nodes := if (s.node m).state = .unknown then s.notice.nodes
            else vset s.notice.nodes (m - 1) (some .unknown) } }))) ∧
    (s.HeadCommand .nodeRead [i] f rest n →
      (m = 0 ∨ 31 < m → exec .nodeRead s = .next (t.answered f n .badIndex [])) ∧
      (1 ≤ m → m ≤ 31 → (s.node m).failures ≤ 7 → exec .nodeRead s = .next (t.answered f n .done [
        i,
        BitVec.ofNat 8 ((s.node m).state.code.toNat * 64 + bitIf ((s.node m).sync = .needsSync) 32 +
          bitIf ((s.node m).nextToggle = true) 16 + bitIf busy 8 + (s.node m).failures),
        outcomeByte (s.node m).lastOutcome])))

/-- LINE_HALT and LINE_RUN by the DLC's state (R53, R54, R55, R56). A LINE_HALT in a TRANSMIT that a soft reset has cut is
log entry 12, the interval field log entry 5. -/
def Obligations.LineHaltAndRunActByTheState : Prop :=
  ∀ (s t : State) (f : Frame) (rest : List Frame) (n : Nat) (cur : LineSettings), t = s.took rest n →
    cur = {
      dropRate := s.dlc.pend.dropRate.getD s.dlc.cur.dropRate, tResp := s.dlc.pend.tResp.getD s.dlc.cur.tResp
      tGap := s.dlc.pend.tGap.getD s.dlc.cur.tGap, tGuard := s.dlc.pend.tGuard.getD s.dlc.cur.tGuard
      tBcast := s.dlc.pend.tBcast.getD s.dlc.cur.tBcast } →
    (s.HeadCommand .lineHalt [] f rest n →
      (s.dlc.state = .idle → exec .lineHalt s = .next (State.answered f n .done [] { t with
        dlc := { s.dlc with state := .halted, interval := 0, cur := cur, pend := {}, haltReq := false } })) ∧
      (s.dlc.state ∈ [.transmit, .await, .receive, .guard] → exec .lineHalt s =
        .next (State.answered f n .done [] { t with dlc := { s.dlc with haltReq := true } })) ∧
      (s.dlc.state = .halted → exec .lineHalt s = .next (t.answered f n .done []))) ∧
    (s.HeadCommand .lineRun [] f rest n →
      (s.dlc.state = .halted → exec .lineRun s = .next (State.answered f n .done [] { t with
        dlc := { s.dlc with state := .idle, interval := 0, cur := cur, pend := {} } })) ∧
      (s.dlc.state ≠ .halted → exec .lineRun s =
        .next (State.answered f n .done [] { t with dlc := { s.dlc with haltReq := false } })))

/-- SOFT_RESET (R178, R31, R57, R71, R102, R103, R119, R135, R136, R160, R179, R180): both levels, and a level code that
names neither. The dues that the last scan step still owes are judged before the command claims its slot (log entry 3). That
the session-lost flag stays is log entry 22, the interval field log entry 5. -/
def Obligations.SoftResetReachesEveryBlock : Prop :=
  ∀ (s t v u w x : State) (f : Frame) (rest : List Frame) (n : Nat) (level : Byte) (dlc : Dlc),
    s.HeadCommand .softReset [level] f rest n → t = s.took rest n → v = s.settleDues.took rest n →
    (s.dlc.state = .idle → dlc = { s.dlc with inflight := none, haltReq := false }) →
    (s.dlc.state = .transmit → dlc = { s.dlc with inflight := none, haltReq := false, stopping := true }) →
    (s.dlc.state = .await ∨ s.dlc.state = .receive → dlc = {
      s.dlc with inflight := none, haltReq := false, state := .guard, interval := s.dlc.cur.tGuard }) →
    (s.dlc.state = .guard → dlc = { s.dlc with inflight := none, haltReq := false }) →
    (s.dlc.state = .halted → dlc = {
      s.dlc with
      inflight := none, haltReq := false, state := .idle, interval := 0, cur := applyPending s.dlc.cur s.dlc.pend
      pend := {} }) →
    u = { v with
      queue := {}, loq := Vector.replicate 64 .free, streak := 0, inbox := [], chainEnd := none, commit := none
      uTx := s.uTx.map fun y => { y with source := if y.source = .htq then .htq else .detached }
      dlc := dlc, nodes := u.nodes, scan := { v.scan with records := u.scan.records, retired := none } } →
    (∀ i, i < 32 → u.scanRecord i = { v.scanRecord i with outstanding := false }) →
    ((∀ r, s.inflightRecord = some r → ¬(1 ≤ r.node ∧ r.node ≤ 31)) → u.nodes = s.nodes) →
    (∀ r, s.inflightRecord = some r → 1 ≤ r.node → r.node ≤ 31 →
      u.nodes = vset s.nodes (r.node - 1) { s.node r.node with sync := .needsSync }) →
    w = { u with
      dlc := if dlc.state = .idle then { dlc with cur := State.reset.dlc.cur, pend := {} } else { dlc with pend := {
        dropRate := some 1, tResp := some 20, tGap := some 3, tGuard := some 2, tBcast := some 10 } }
      nodes := State.reset.nodes, bank0 := State.reset.bank0, bank1 := State.reset.bank1, activeBank := .bank0
      epoch := 0#16, scan := State.reset.scan, notice := State.reset.notice, params := State.reset.params
      faults := 0#6, counters := State.reset.counters } →
    x = (if level = 1#8 then u.judgeU else w.judgeU) →
    (level ≠ 1#8 → level ≠ 2#8 → exec .softReset s = .next (t.answered f n .badValue [])) ∧
    (level = 1#8 ∨ level = 2#8 →
      (f.position ≠ 63#6 → exec .softReset s = .next { x with
        loq := vset x.loq 0 (.filled {
          kind := .ack, cls := f.cls, position := 0#6, tag := f.tag, logical := 0#16, code := 0x10#8, aux := 0x00#8
          payload := [level] } 0) }) ∧
      (f.position = 63#6 → exec .softReset s = .next x))

/-! ### Drop exchanges -/

/-- SELECTION of a record that starts (R20, R21, R22, R34, R38): the oldest startable record of the first class that has
one leaves the queue, a SCAN takes the lowest FREE slot, and the DLC sends the first attempt of the first step on DTX. The
characters of every drop request (R34, R187) and the 11 bits of each (R33; which level is which: log entry 29). The interval
field is log entry 5. -/
def Obligations.SelectionStartsTheOldestStartable : Prop :=
  (∀ (s u : State) (c : Cls) (before after : List ExRecord) (r r' : ExRecord) (startable : ExRecord → Prop) (sync : Bool)
    (request : List DropChar), s.inReset = false → s.dlc.state = .idle →
    (∀ y, startable y ↔ (y.isScan = true → 4 ≤ s.freeCount)) →
    s.queue.list c = before ++ r :: after → startable r → (∀ y ∈ before, ¬startable y) →
    (∀ d : Cls, d < c → ∀ y ∈ s.queue.list d, ¬startable y) →
    (r.isProbe = false → 1 ≤ r.node → r.node ≤ 31 → (s.node r.node).state ≠ .offline) →
    (r.isScan = false → r' = r ∧ u = { s with queue := s.queue.setList c (before ++ after) }) →
    (∀ n, r.isScan = true → s.lowestFree = some n → r' = r.withSlot (some n) ∧ u = { s with
      queue := s.queue.setList c (before ++ after), loq := vset s.loq n (.reserved .exchange) }) →
    (sync = true ↔ r.isProbe = true ∨ 1 ≤ r.node ∧ r.node ≤ 31 ∧ (s.node r.node).sync = .needsSync) →
    request = (if sync then requestChars r.node .sync false 0 0 []
      else mainRequest r (if r.node = 0 then false else (s.node r.node).nextToggle)) →
    ∃ t, exec .selection s = .next t ∧ t.dtx = .sends (request.flatMap DropChar.bits) ∧ t = { u with dlc := {
      s.dlc with
      state := .transmit, interval := 1, sessionLost := false
      inflight := some {
        record := r', hasSync := sync, step := if sync then .sync else .main, syncSent := if sync then 1 else 0
        mainSent := if sync then 0 else 1, lastOutcome := none, anyBad := false
        toggle := if sync = true ∨ r.node = 0 then false else (s.node r.node).nextToggle
        request := request, response := [], broadcastDone := false } } }) ∧
  (∀ chars : List Byte → List DropChar,
    (∀ address rest, chars (address :: rest) = { mark := true, data := address, framing := false } ::
      (rest ++ [crc8 (address :: rest)]).map fun d => { mark := false, data := d, framing := false }) →
    (∀ n, n ≤ 31 → requestChars n .sync false 0 0 [] = chars [BitVec.ofNat 8 n, 0x30#8, 0#8, 0#8]) ∧
    (∀ (k : CtlRecord) (toggle : Bool), k.node ≤ 31 →
      (∀ n, k.fn = .read n → mainRequest (.controller k) toggle =
        chars [BitVec.ofNat 8 k.node, BitVec.ofNat 8 (0x10 + toggle.toNat), BitVec.ofNat 8 k.index, BitVec.ofNat 8 n]) ∧
      (∀ d, k.fn = .write d → mainRequest (.controller k) toggle =
        chars ([BitVec.ofNat 8 k.node, BitVec.ofNat 8 (0x20 + toggle.toNat), BitVec.ofNat 8 k.index,
          BitVec.ofNat 8 d.length] ++ d)) ∧
      (∀ d, k.fn = .bwrite d → mainRequest (.controller k) toggle =
        chars ([0x00#8, 0x40#8, BitVec.ofNat 8 k.index, BitVec.ofNat 8 d.length] ++ d))) ∧
    (∀ (k : ScanRecord) (toggle : Bool), k.node ≤ 31 → mainRequest (.scan k) toggle =
      chars [BitVec.ofNat 8 k.node, BitVec.ofNat 8 (0x10 + toggle.toNat), BitVec.ofNat 8 k.index,
        BitVec.ofNat 8 k.count])) ∧
  crc8 [] = 0x00#8 ∧
  (∀ bit : Byte → Byte, (∀ w, bit w = if w.getLsbD 7 then (w <<< 1) ^^^ 0x07#8 else w <<< 1) →
    ∀ bytes b, crc8 (bytes ++ [b]) = Nat.repeat bit 8 (crc8 bytes ^^^ b)) ∧
  (∀ c : DropChar, DropChar.bits c = [false, c.data.getLsbD 0, c.data.getLsbD 1, c.data.getLsbD 2, c.data.getLsbD 3,
    c.data.getLsbD 4, c.data.getLsbD 5, c.data.getLsbD 6, c.data.getLsbD 7, c.mark, !c.framing])

/-- SELECTION when nothing starts (R20, R21, R23, R115, R116): outside IDLE or with nothing startable nothing happens; a
record whose node is OFFLINE completes at once. -/
def Obligations.SelectionAnswersForOfflineNodes : Prop :=
  ∀ (s : State) (startable : ExRecord → Prop), s.inReset = false →
    (∀ y, startable y ↔ (y.isScan = true → 4 ≤ s.freeCount)) →
    (s.dlc.state ≠ .idle ∨ (∀ y ∈ s.queue.all, ¬startable y) → exec .selection s = .next s) ∧
    (∀ (c : Cls) (before after : List ExRecord) (r : ExRecord) (q : ExchangeQueue), s.dlc.state = .idle →
      s.queue.list c = before ++ r :: after → startable r → (∀ y ∈ before, ¬startable y) →
      (∀ d : Cls, d < c → ∀ y ∈ s.queue.list d, ¬startable y) → s.nodeOffline r.node = true →
      q = s.queue.setList c (before ++ after) →
      (∀ k n, r = .controller k → k.slot = some n → exec .selection s = .next { s with
        queue := q
        loq := vset s.loq n (.filled (replyFrame k.tag k.logical k.cls .nodeOffline 0 k.epoch []) s.filledCount)
        counters := vset s.counters 10 (saturate (s.counter .refused)) }) ∧
      (∀ k n last report, r = .scan k → s.lowestFree = some n → last = s.scanRecord k.scanIndex →
        (report ↔ s.scanMode k.scanIndex ≠ 1 ∨ last.lastOutcome ≠ some .nodeOffline) →
        (¬report → exec .selection s = .next { s with
          queue := q
          scan := { s.scan with records := vset s.scan.records k.scanIndex {
            last with outstanding := false, lastOutcome := some .nodeOffline, lastData := none } } }) ∧
        (report → exec .selection s = .next { s with
          queue := q
          loq := vset s.loq n (.filled {
            kind := .scanReport, cls := k.cls, position := 0#6, tag := BitVec.ofNat 12 k.scanIndex, logical := k.epoch
            code := 0x0B#8, aux := last.sequence
            payload := [BitVec.ofNat 8 last.missed, s.scan.time.extractLsb' 8 8, s.scan.time.extractLsb' 0 8] }
            s.filledCount)
          scan := { s.scan with records := vset s.scan.records k.scanIndex {
            outstanding := false, lastOutcome := some .nodeOffline, lastData := none
            sequence := last.sequence + 1#8, missed := 0 } } })))

/-- READ_BACK_COMPLETE (R39, R48): SYNCS counts a SYNC; an addressed attempt awaits its response for T_RESP, a BWRITE takes
the broadcast idle of T_BCAST. LINE_CONTENTION and LINE_FAULT (R39, R40, R41). That none of the three acts on the character
finished after a soft reset is log entry 26, the interval field log entry 5. -/
def Obligations.ReadBackDecidesTheAttempt : Prop :=
  (∀ (s t : State), s.inReset = false →
    (s.dlc.state ≠ .transmit ∨ s.dlc.stopping = true ∨ s.dlc.inflight = none → exec .readBackComplete s = .next s) ∧
    (∀ x, s.dlc.state = .transmit → s.dlc.stopping = false → s.dlc.inflight = some x →
      t = { s with counters := if x.step = .sync then vset s.counters 13 (saturate (s.counter .syncs)) else s.counters } →
      (x.record.isBwrite = false → exec .readBackComplete s =
        .next { t with dlc := { s.dlc with state := .await, interval := s.dlc.cur.tResp } }) ∧
      (x.record.isBwrite = true → exec .readBackComplete s =
        .next { t with dlc := {
          s.dlc with
          state := .guard, interval := s.dlc.cur.tBcast, inflight := some { x with broadcastDone := true } } }))) ∧
  (∀ (s u : State) (k : Nat) (rb : DropChar), s.inReset = false →
    (s.dlc.state ≠ .transmit ∨ s.dlc.stopping = true ∨ s.dlc.inflight = none →
      exec (.lineContention k rb) s = .next s ∧ exec .lineFault s = .next s) ∧
    (∀ x, s.dlc.state = .transmit → s.dlc.stopping = false → s.dlc.inflight = some x →
      (x.request[k]? = none ∨ x.request[k]? = some rb → exec (.lineContention k rb) s = .next s) ∧
      (∀ sent, x.request[k]? = some sent → sent ≠ rb → exec (.lineContention k rb) s =
        .next (((s.bump .contention).latch .dropContention).endAttempt x .lineContention [])) ∧
      (u = (s.latch .dropLineDead).complete { x with lastOutcome := some .lineFault } (some .lineFault) [] →
        exec .lineFault s = .next { u with dlc := {
          u.dlc with
          state := .halted, interval := 0, haltReq := false, cur := applyPending s.dlc.cur s.dlc.pend, pend := {} } })))

/-- The characters of a response (R42, R43), and the ends of the window and of the response (R42, R43). A received character
is handled by the state it arrives in, whichever command brings it (log entry 6). The interval field is log entry 5. -/
def Obligations.ResponsesAreCollectedToTheirEnd : Prop :=
  ∀ (s : State) (x : Exchange), s.inReset = false → s.dlc.inflight = some x →
    (∀ (e : Instr) (c : DropChar),
      e = .responseCharacter c ∨ e = .strayCharacter c ∨ c.mark = true ∧ e = .responseStart c.data c.framing →
      (s.dlc.state = .transmit → exec e s = .next s) ∧
      (s.dlc.state = .await → c.mark = true → exec e s = .next { s with dlc := {
        s.dlc with state := .receive, interval := s.dlc.cur.tGap, inflight := some { x with response := [c] } } }) ∧
      (s.dlc.state = .receive → x.response.length < 36 → exec e s = .next { s with dlc := {
        s.dlc with inflight := some { x with response := x.response ++ [c] } } }) ∧
      (s.dlc.state = .receive → 36 ≤ x.response.length →
        exec e s = .next (s.endAttempt { x with response := x.response ++ [c] } .badResponse []))) ∧
    (s.dlc.state = .await → exec .noResponse s = .next (s.endAttempt x .noResponse [])) ∧
    (s.dlc.state ≠ .await → exec .noResponse s = .next s) ∧
    (∀ o data, s.dlc.state = .receive → judgeResponse x.step x.record x.toggle x.response = (o, data) →
      exec .responseEnd s = .next (s.endAttempt x o data)) ∧
    (s.dlc.state ≠ .receive → exec .responseEnd s = .next s)

/-- A stray character (R46) is discarded, counted and latched, and nothing else changes. That a character is judged by the
state it arrives in, whichever command brings it, is log entry 6. -/
def Obligations.StrayCharactersAreCountedAndLatched : Prop :=
  ∀ (s : State) (e : Instr) (c : DropChar), s.inReset = false →
    e = .responseCharacter c ∨ e = .strayCharacter c ∨ c.mark = true ∧ e = .responseStart c.data c.framing →
    (s.dlc.state = .idle ∨ s.dlc.state = .guard ∨ s.dlc.state = .halted ∨ s.dlc.state = .await ∧ c.mark = false) →
    ∃ t, exec e s = .next t ∧ t = { s with counters := t.counters, faults := t.faults, notice := t.notice } ∧
      (t.counter .strayBytes).toNat = min 65535 ((s.counter .strayBytes).toNat + 1) ∧
      (∀ k, k ≠ .strayBytes → t.counter k = s.counter k) ∧
      (∀ k, t.latched k = (s.latched k || decide (k = .strayTraffic))) ∧
      (s.latched .strayTraffic = true → t.notice = s.notice) ∧
      (s.latched .strayTraffic = false → t.notice = { s.notice with faults := s.notice.faults ||| 16#6 })

/-- The judgement of a response (R35, R44): OK, NODE_BUSY or NODE_REFUSED when every check holds, BAD_RESPONSE otherwise;
the data of a READ answered OK are kept. That the mark bits of later characters are not judged is log entry 16. -/
def Obligations.ResponsesAreJudgedByEveryCheck : Prop :=
  ∀ (step : Step) (r : ExRecord) (toggle : Bool) (resp : List DropChar) (good : Prop) (byte : Nat → Nat)
    (form : Nat → Nat → Nat → Prop),
    (∀ i, byte i = ((resp.map DropChar.data).getD i 0#8).toNat) →
    (good ↔ 4 ≤ resp.length ∧ resp.length ≤ 36 ∧ (resp.head?.map DropChar.mark) = some true ∧
      128 ≤ byte 0 ∧ byte 0 % 32 = r.node ∧ (∀ c ∈ resp, c.framing = false) ∧ byte 1 % 2 = toggle.toNat ∧
      (resp.map DropChar.data).getLast? = some (crc8 (resp.map DropChar.data).dropLast)) →
    (∀ status count length, form status count length ↔
      good ∧ byte 1 / 16 = status ∧ byte 2 = count ∧ resp.length = length) →
    (∀ n, step = .main → r.readCount = some n →
      ((judgeResponse step r toggle resp).1 = .ok ↔ form 1 n (n + 4)) ∧
      (form 1 n (n + 4) → (judgeResponse step r toggle resp).2 = ((resp.drop 3).take n).map DropChar.data)) ∧
    (∀ c d, step = .main → r = .controller c → c.fn = .write d ∨ c.fn = .bwrite d →
      ((judgeResponse step r toggle resp).1 = .ok ↔ form 1 d.length 4) ∧ (judgeResponse step r toggle resp).2 = []) ∧
    (step = .sync ∨ r.isProbe = true →
      ((judgeResponse step r toggle resp).1 = .ok ↔ form 1 0 4) ∧ (judgeResponse step r toggle resp).2 = []) ∧
    ((judgeResponse step r toggle resp).1 = .nodeBusy ↔ form 2 0 4) ∧
    ((judgeResponse step r toggle resp).1 = .nodeRefused ↔ form 3 0 4) ∧
    (judgeResponse step r toggle resp).1 ∈ [.ok, .nodeBusy, .nodeRefused, .badResponse]

/-- The decision when an attempt's outcome is recorded (R45, R50), and the GUARD that follows (R40, R42, R43, R47). The
interval field is log entry 5. -/
def Obligations.AttemptsAreRetriedOrWithdrawn : Prop :=
  ∀ (s : State) (x y : Exchange) (o : OutcomeCode) (data : List Byte) (follows withdrawn : Prop),
    y = { x with lastOutcome := some o, anyBad := x.anyBad || decide (o = .noResponse ∨ o = .badResponse) } →
    (follows ↔ o = .ok ∧ x.step = .sync ∧ x.record.isProbe = false ∨
      (o = .noResponse ∨ o = .badResponse ∨ o = .lineContention) ∧
        (x.step = .sync ∧ x.syncSent < 2 ∨ x.step = .main ∧ x.mainSent < x.record.retry + 1)) →
    (withdrawn ↔ x.record.cancelMark = true ∨ s.dlc.haltReq = true ∨ s.dlc.sessionLost = true) →
    ∃ u : State, s.endAttempt x o data =
        { u with dlc := { u.dlc with state := .guard, interval := s.dlc.cur.tGuard } } ∧
      (¬follows → u = s.complete y (some o) data) ∧
      (follows → ¬withdrawn → u = { s with dlc := { s.dlc with inflight := some y } }) ∧
      (follows → withdrawn → 1 ≤ x.mainSent → u = s.complete y (some o) []) ∧
      (follows → withdrawn → x.mainSent = 0 → x.record.cancelMark = true → u = s.complete y (some .cancelled) []) ∧
      (follows → withdrawn → x.mainSent = 0 → x.record.cancelMark = false → o ≠ .ok → u = s.complete y (some o) []) ∧
      (follows → withdrawn → x.mainSent = 0 → x.record.cancelMark = false → o = .ok →
        u = s.complete y (if x.record.isController then some .cancelled else none) [])

/-- GUARD_END and RESET_CHARACTER_FINISHED (R34, R39, R47, R48, R50, R56, R57, R62). That the MAIN step after a SYNC sends
toggle 0 before the node record holds it is log entry 10, the interval field log entry 5. -/
def Obligations.GuardEndsInTheNextAttemptOrAtRest : Prop :=
  ∀ (s : State) (atRest : State → State), s.inReset = false →
    (∀ u : State, atRest u = { u with dlc := {
      u.dlc with
      state := if u.dlc.haltReq then .halted else .idle, interval := 0, haltReq := false
      cur := applyPending u.dlc.cur u.dlc.pend, pend := {} } }) →
    (s.dlc.state ≠ .guard → exec .guardEnd s = .next s) ∧
    (s.dlc.state = .guard → s.dlc.inflight = none → exec .guardEnd s = .next (atRest s)) ∧
    (∀ (x : Exchange) (withdrawn : Prop), s.dlc.state = .guard → s.dlc.inflight = some x →
      (withdrawn ↔ x.record.cancelMark = true ∨ s.dlc.haltReq = true ∨ s.dlc.sessionLost = true) →
      (x.broadcastDone = true → exec .guardEnd s =
        .next (atRest (s.complete { x with lastOutcome := some .sent } (some .sent) []))) ∧
      (x.broadcastDone = false → withdrawn → exec .guardEnd s =
        .next (atRest (s.complete x (if 1 ≤ x.mainSent then x.lastOutcome
          else if x.record.cancelMark then some .cancelled
          else if x.lastOutcome ≠ some .ok then x.lastOutcome
          else if x.record.isController then some .cancelled else none) []))) ∧
      (x.broadcastDone = false → ¬withdrawn → x.step = .sync → x.lastOutcome = some .ok → exec .guardEnd s =
        .next { s with
          counters := if x.mainSent = 0 then s.counters else vset s.counters 7 (saturate (s.counter .retries))
          dlc := { s.dlc with state := .transmit, interval := 1, inflight := some {
            x with
            step := .main, mainSent := x.mainSent + 1, anyBad := false, response := []
            toggle := if x.record.node = 0 ∨ x.hasSync = true then false else (s.node x.record.node).nextToggle
            request := mainRequest x.record
              (if x.record.node = 0 ∨ x.hasSync = true then false else (s.node x.record.node).nextToggle) } } }) ∧
      (x.broadcastDone = false → ¬withdrawn → ¬(x.step = .sync ∧ x.lastOutcome = some .ok) →
        1 ≤ (if x.step = .sync then x.syncSent else x.mainSent) → exec .guardEnd s =
        .next { s with
          counters := vset s.counters 7 (saturate (s.counter .retries))
          dlc := { s.dlc with state := .transmit, interval := 1, inflight := some {
            x with
            syncSent := if x.step = .sync then x.syncSent + 1 else x.syncSent
            mainSent := if x.step = .sync then x.mainSent else x.mainSent + 1, response := [] } } })) ∧
    (s.dlc.state = .transmit → s.dlc.stopping = true → exec .resetCharacterFinished s = .next { s with dlc := {
      s.dlc with state := .guard, interval := s.dlc.cur.tGuard, stopping := false } }) ∧
    (s.dlc.state ≠ .transmit ∨ s.dlc.stopping = false → exec .resetCharacterFinished s = .next s)

/-- The completion of an exchange (R49, R51, R52, R63, R64, R114 to R118): its result goes by its origin, its node gets the
verdict, it is counted, and its record is discarded. The code, aux and payload of the REPLY and the SCAN_REPORT (R19, R116).
That a retired scan is the mark of an old epoch is log entry 11. -/
def Obligations.CompletionHandsTheResultOn : Prop :=
  (∀ (tag : Tag) (logical epoch : Word16) (cls : Cls) (o : OutcomeCode) (used : Nat) (data : List Byte), used ≤ 7 →
    replyFrame tag logical cls o used epoch data = {
      kind := .reply, cls := cls, position := 0#6, tag := tag, logical := logical
      code := BitVec.ofNat 8 (used * 32 + o.code.toNat), aux := epoch.extractLsb' 0 8, payload := data }) ∧
  (∀ (cls : Cls) (i missed : Nat) (epoch : Word16) (o : OutcomeCode) (sequence : Byte) (time : Word32) (data : List Byte),
    scanReportFrame cls i epoch o sequence missed time data = {
      kind := .scanReport, cls := cls, position := 0#6, tag := BitVec.ofNat 12 i, logical := epoch, code := o.code
      aux := sequence
      payload := [BitVec.ofNat 8 missed, time.extractLsb' 8 8, time.extractLsb' 0 8] ++ if o = .ok then data else [] }) ∧
  [OutcomeCode.ok, .nodeBusy, .nodeRefused, .noResponse, .badResponse, .lineContention, .lineFault, .sent, .noRoute,
    .accessDenied, .nodeOffline, .queueFull, .tagInUse, .payloadError, .expired, .cancelled, .guarded].map
    OutcomeCode.code = (List.range' 1 17).map (BitVec.ofNat 8) ∧
  ∀ (s t : State) (x : Exchange) (o : Option OutcomeCode) (data : List Byte) (used : Nat), t = s.complete x o data →
    used = x.syncSent + x.mainSent →
    t = { s with
      loq := t.loq, scan := t.scan, nodes := t.nodes, notice := { s.notice with nodes := t.notice.nodes }
      counters := t.counters, dlc := { s.dlc with inflight := none } } ∧
    (o = some .ok ∨ o = some .sent → t.counters = vset s.counters 5 (saturate (s.counter .exchOk))) ∧
    (o ∈ [some .nodeBusy, some .nodeRefused, some .noResponse, some .badResponse, some .lineContention,
      some .lineFault] → t.counters = vset s.counters 6 (saturate (s.counter .exchFail))) ∧
    (o = none ∨ o = some .cancelled → t.counters = s.counters) ∧
    (∀ n r, n = x.record.node → 1 ≤ n → n ≤ 31 →
      r = { (s.node n).apply s.params.offlineThreshold (x.hasSync && decide (x.step = .main)) x.verdict with
        lastOutcome := if o = none then x.lastOutcome else o } →
      t.nodes = vset s.nodes (n - 1) r ∧
      t.notice.nodes = (if (s.node n).state = r.state then s.notice.nodes
        else vset s.notice.nodes (n - 1) (some r.state))) ∧
    (x.record.node = 0 → t.nodes = s.nodes ∧ t.notice.nodes = s.notice.nodes) ∧
    (x.record.isProbe = true → t.loq = s.loq ∧ t.scan = s.scan) ∧
    (∀ k, x.record = .controller k → t.scan = s.scan ∧
      (s.dlc.sessionLost = true → t.loq = s.loq) ∧
      (∀ n p, s.dlc.sessionLost = false → k.slot = some n → o = some p →
        t.loq = vset s.loq n (.filled (replyFrame k.tag k.logical k.cls p used k.epoch data) s.filledCount))) ∧
    (∀ k, x.record = .scan k →
      (s.dlc.sessionLost = true → t.loq = s.loq ∧ t.scan = { s.scan with retired := none }) ∧
      (∀ n last, s.dlc.sessionLost = false → k.slot = some n → s.slot n = .reserved .exchange →
        last = s.scanRecord k.scanIndex →
        (∀ e, s.scan.retired = some e → t.scan = { s.scan with retired := none } ∧
          (o = none → t.loq = vset s.loq n .free) ∧
          (∀ p, o = some p → t.loq = vset s.loq n (.filled
            (scanReportFrame k.cls e.scanIndex k.epoch p e.sequence e.missed s.scan.time data) s.filledCount))) ∧
        (s.scan.retired = none →
          (o = none → t.loq = vset s.loq n .free ∧ t.scan = { s.scan with
            records := vset s.scan.records k.scanIndex { last with outstanding := false } }) ∧
          (∀ p report judged, o = some p →
            (report ↔ s.scanMode k.scanIndex ≠ 1 ∨ last.lastOutcome ≠ some p ∨ p = .ok ∧ last.lastData ≠ some data) →
            judged = { last with
              outstanding := false, lastOutcome := some p, lastData := if p = .ok then some data else none } →
            (¬report → t.loq = vset s.loq n .free ∧
              t.scan = { s.scan with records := vset s.scan.records k.scanIndex judged }) ∧
            (report → t.loq = vset s.loq n (.filled
                (scanReportFrame k.cls k.scanIndex k.epoch p last.sequence last.missed s.scan.time data) s.filledCount) ∧
              t.scan = { s.scan with records := vset s.scan.records k.scanIndex {
                judged with sequence := last.sequence + 1#8, missed := 0 } })))))

/-! ### Node Table -/

/-- The verdict of an exchange (R52) and its effect on a node record (R60, R61, R62). -/
def Obligations.VerdictsChangeTheNodeRecord : Prop :=
  (∀ (x : Exchange) (o : OutcomeCode), x.lastOutcome = some o →
    (x.step = .sync → o = .ok → x.verdict = .synchronised) ∧
    (x.step = .sync → o = .nodeBusy ∨ o = .nodeRefused → x.verdict = .healthySync) ∧
    (x.step = .main → o = .ok ∨ o = .nodeBusy ∨ o = .nodeRefused → x.verdict = .healthyMain) ∧
    (o = .noResponse ∨ o = .badResponse ∨ o = .lineContention →
      (x.anyBad = true → x.verdict = .failure) ∧
      (x.anyBad = false → x.verdict = if x.step = .main ∧ x.hasSync = true then .synchronised else .noChange)) ∧
    (o = .lineFault → x.verdict = .lineFault)) ∧
  (∀ (r b : NodeRecord) (threshold : Nat) (carried : Bool),
    b = (if carried then { r with sync := .inSync, nextToggle := false } else r) →
    r.apply threshold carried .synchronised =
      { r with state := .online, failures := 0, sync := .inSync, nextToggle := false } ∧
    r.apply threshold carried .healthySync = { b with state := .online, failures := 0 } ∧
    r.apply threshold carried .healthyMain = { b with state := .online, failures := 0, nextToggle := !b.nextToggle } ∧
    r.apply threshold carried .noChange = b ∧
    r.apply threshold carried .lineFault = { b with sync := .needsSync } ∧
    (r.state = .offline → r.apply threshold carried .failure = { b with sync := .needsSync }) ∧
    (r.state = .suspect → r.apply threshold carried .failure = {
      b with
      sync := .needsSync, failures := r.failures + 1
      state := if threshold ≤ r.failures + 1 then .offline else .suspect }) ∧
    (r.state = .unknown ∨ r.state = .online → r.apply threshold carried .failure = {
      b with sync := .needsSync, failures := 1, state := if threshold ≤ 1 then .offline else .suspect }))

/-! ### What is true of every frame and kept by every step -/

/-- Every frame the link can carry is laid out as the rules say and read back from its bytes as it was (R185, R186, R143),
and its bytes from the link's symbols (R142, R191). -/
def Obligations.FramesReadBackAsWritten : Prop :=
  (∀ f : Frame, f.payload.length ≤ 32 →
    ((f.kind = .enumerate → f.payload.length = 1) → checkFrame (encodeFrame f) false = some f) ∧
    ∃ head : List Byte, encodeFrame f = head ++ f.payload ++ crc16Bytes (head ++ f.payload) ∧
      head.map BitVec.toNat = [
        f.kind.code.toNat * 16 + f.cls.toNat * 4 + f.mark.toNat * 2 + f.rsv.toNat,
        f.position.toNat * 4 + f.tag.toNat / 1024, f.tag.toNat / 4 % 256, f.tag.toNat % 4 * 64 + f.payload.length,
        f.logical.toNat / 256, f.logical.toNat % 256, f.code.toNat, f.aux.toNat]) ∧
  [FrameKind.request, .control, .enumerate, .reply, .ack, .scanReport, .notice].map FrameKind.code =
    [0x1#4, 0x2#4, 0x3#4, 0x9#4, 0xA#4, 0xB#4, 0xC#4] ∧
  (∀ y : LinkSymbol, LinkSymbol.ofWord y.word = some y ∧ ((List.range 10).countP fun i => y.word.getLsbD i) % 2 = 1) ∧
  (∀ b : Byte, (LinkSymbol.data b).word.extractLsb' 1 9 = 0#1 ++ b) ∧
  [LinkSymbol.idle, .frameStart, .frameEnd, .hold, .go].map (fun y => y.word.extractLsb' 1 9) =
    [0x100#9, 0x101#9, 0x102#9, 0x103#9, 0x104#9] ∧
  (∀ w : BitVec 10, validTime (.symbol w) = true ↔ ∃ y : LinkSymbol, y.word = w) ∧
  (∀ bytes : List Byte, (frameSymbols bytes).length = bytes.length + 2 ∧
    frameSymbols bytes = .frameStart :: bytes.map .data ++ [.frameEnd] ∧ frameData (frameSymbols bytes) = bytes)

/-- Right after reset every law of the state holds. -/
def Obligations.ResetIsLawful : Prop :=
  State.reset.CapacityLaw ∧ State.reset.ClassLaw ∧ State.reset.KindLaw ∧ State.reset.TagLaw ∧ State.reset.ProbeLaw ∧
  State.reset.ParamLaw ∧ State.reset.RangeLaw ∧ State.reset.NodeLaw ∧ State.reset.BankLaw ∧ State.reset.DlcLaw ∧
  State.reset.FlowLaw ∧ State.reset.DownLaw ∧ State.reset.SlotLaw ∧ State.reset.SendingLaw

/-- Every step keeps the queues within their capacities and to their kinds and classes, and the tags and the PROBE place
unique (R3, R4, R6, R7, R144 to R146). -/
def Obligations.StepKeepsTheQueueLaws : Prop :=
  ∀ s t : State, s.CapacityLaw → s.ClassLaw → s.KindLaw → s.TagLaw → s.ProbeLaw → step s = .next t →
    t.CapacityLaw ∧ t.ClassLaw ∧ t.KindLaw ∧ t.TagLaw ∧ t.ProbeLaw

/-- Every step keeps every parameter in its range, and the positions, the streak count, the holdoff count and the revival
count and cursor (R65, R66, R128, R132, R151, R167). -/
def Obligations.StepKeepsRanges : Prop :=
  ∀ s t : State, s.ParamLaw → s.RangeLaw → step s = .next t → t.ParamLaw ∧ t.RangeLaw

/-- Every step keeps the fixed pattern of the node records (R59, R60). -/
def Obligations.StepKeepsNodePattern : Prop :=
  ∀ s t : State, s.NodeLaw → step s = .next t → t.NodeLaw

/-- Every step keeps the ACTIVE bank valid (R90, R95). -/
def Obligations.StepKeepsActiveBankValid : Prop :=
  ∀ s t : State, s.BankLaw → step s = .next t → t.BankLaw

/-- Every step keeps the DLC's state, in-flight record and flags in agreement (R37, R38, R47, R54, R56, R57). -/
def Obligations.StepKeepsTheDlcLawful : Prop :=
  ∀ s t : State, s.DlcLaw → step s = .next t → t.DlcLaw

/-- Every step keeps flow control in agreement with the queues, and what a DOWN link leaves (R140, R148 to R150, R155,
R159). -/
def Obligations.StepKeepsFlowAndDownLaws : Prop :=
  ∀ s t : State, s.FlowLaw → s.DownLaw → step s = .next t → t.FlowLaw ∧ t.DownLaw

/-- Every step keeps every RESERVED slot with exactly one holder and the fill numbers without a gap (R18, R122, R124). -/
def Obligations.StepKeepsTheSlotLaw : Prop :=
  ∀ s t : State, s.SlotLaw → s.SendingLaw → s.DownLaw → s.DlcLaw → step s = .next t → t.SlotLaw ∧ t.SendingLaw
end

