-- ==== Sys2Proof/Laws/State.lean ====
section
/-! SUPPORT. One lemma for each field that each update of the state leaves as it was: what a proof cites instead of
unfolding a record update. -/

namespace Sys2Proof.Machine

set_option Elab.async false

/-! ### Flags.lean -/

@[simp] theorem bump_inReset (c : Counter) (s : State) : (s.bump c).inReset = s.inReset := rfl
@[simp] theorem bump_portU (c : Counter) (s : State) : (s.bump c).portU = s.portU := rfl
@[simp] theorem bump_portD (c : Counter) (s : State) : (s.bump c).portD = s.portD := rfl
@[simp] theorem bump_position (c : Counter) (s : State) : (s.bump c).position = s.position := rfl
@[simp] theorem bump_chainEnd (c : Counter) (s : State) : (s.bump c).chainEnd = s.chainEnd := rfl
@[simp] theorem bump_otq (c : Counter) (s : State) : (s.bump c).otq = s.otq := rfl
@[simp] theorem bump_htq (c : Counter) (s : State) : (s.bump c).htq = s.htq := rfl
@[simp] theorem bump_inbox (c : Counter) (s : State) : (s.bump c).inbox = s.inbox := rfl
@[simp] theorem bump_uTx (c : Counter) (s : State) : (s.bump c).uTx = s.uTx := rfl
@[simp] theorem bump_dTx (c : Counter) (s : State) : (s.bump c).dTx = s.dTx := rfl
@[simp] theorem bump_streak (c : Counter) (s : State) : (s.bump c).streak = s.streak := rfl
@[simp] theorem bump_loq (c : Counter) (s : State) : (s.bump c).loq = s.loq := rfl
@[simp] theorem bump_notice (c : Counter) (s : State) : (s.bump c).notice = s.notice := rfl
@[simp] theorem bump_queue (c : Counter) (s : State) : (s.bump c).queue = s.queue := rfl
@[simp] theorem bump_dlc (c : Counter) (s : State) : (s.bump c).dlc = s.dlc := rfl
@[simp] theorem bump_nodes (c : Counter) (s : State) : (s.bump c).nodes = s.nodes := rfl
@[simp] theorem bump_bank0 (c : Counter) (s : State) : (s.bump c).bank0 = s.bank0 := rfl
@[simp] theorem bump_bank1 (c : Counter) (s : State) : (s.bump c).bank1 = s.bank1 := rfl
@[simp] theorem bump_activeBank (c : Counter) (s : State) : (s.bump c).activeBank = s.activeBank := rfl
@[simp] theorem bump_epoch (c : Counter) (s : State) : (s.bump c).epoch = s.epoch := rfl
@[simp] theorem bump_commit (c : Counter) (s : State) : (s.bump c).commit = s.commit := rfl
@[simp] theorem bump_scan (c : Counter) (s : State) : (s.bump c).scan = s.scan := rfl
@[simp] theorem bump_params (c : Counter) (s : State) : (s.bump c).params = s.params := rfl
@[simp] theorem bump_faults (c : Counter) (s : State) : (s.bump c).faults = s.faults := rfl
@[simp] theorem bump_timer (c : Counter) (s : State) : (s.bump c).timer = s.timer := rfl
@[simp] theorem bump_pending (c : Counter) (s : State) : (s.bump c).pending = s.pending := rfl

@[simp] theorem latch_inReset (k : FaultKind) (s : State) : (s.latch k).inReset = s.inReset := rfl
@[simp] theorem latch_portU (k : FaultKind) (s : State) : (s.latch k).portU = s.portU := rfl
@[simp] theorem latch_portD (k : FaultKind) (s : State) : (s.latch k).portD = s.portD := rfl
@[simp] theorem latch_position (k : FaultKind) (s : State) : (s.latch k).position = s.position := rfl
@[simp] theorem latch_chainEnd (k : FaultKind) (s : State) : (s.latch k).chainEnd = s.chainEnd := rfl
@[simp] theorem latch_otq (k : FaultKind) (s : State) : (s.latch k).otq = s.otq := rfl
@[simp] theorem latch_htq (k : FaultKind) (s : State) : (s.latch k).htq = s.htq := rfl
@[simp] theorem latch_inbox (k : FaultKind) (s : State) : (s.latch k).inbox = s.inbox := rfl
@[simp] theorem latch_uTx (k : FaultKind) (s : State) : (s.latch k).uTx = s.uTx := rfl
@[simp] theorem latch_dTx (k : FaultKind) (s : State) : (s.latch k).dTx = s.dTx := rfl
@[simp] theorem latch_streak (k : FaultKind) (s : State) : (s.latch k).streak = s.streak := rfl
@[simp] theorem latch_loq (k : FaultKind) (s : State) : (s.latch k).loq = s.loq := rfl
@[simp] theorem latch_queue (k : FaultKind) (s : State) : (s.latch k).queue = s.queue := rfl
@[simp] theorem latch_dlc (k : FaultKind) (s : State) : (s.latch k).dlc = s.dlc := rfl
@[simp] theorem latch_nodes (k : FaultKind) (s : State) : (s.latch k).nodes = s.nodes := rfl
@[simp] theorem latch_bank0 (k : FaultKind) (s : State) : (s.latch k).bank0 = s.bank0 := rfl
@[simp] theorem latch_bank1 (k : FaultKind) (s : State) : (s.latch k).bank1 = s.bank1 := rfl
@[simp] theorem latch_activeBank (k : FaultKind) (s : State) : (s.latch k).activeBank = s.activeBank := rfl
@[simp] theorem latch_epoch (k : FaultKind) (s : State) : (s.latch k).epoch = s.epoch := rfl
@[simp] theorem latch_commit (k : FaultKind) (s : State) : (s.latch k).commit = s.commit := rfl
@[simp] theorem latch_scan (k : FaultKind) (s : State) : (s.latch k).scan = s.scan := rfl
@[simp] theorem latch_params (k : FaultKind) (s : State) : (s.latch k).params = s.params := rfl
@[simp] theorem latch_counters (k : FaultKind) (s : State) : (s.latch k).counters = s.counters := rfl
@[simp] theorem latch_timer (k : FaultKind) (s : State) : (s.latch k).timer = s.timer := rfl
@[simp] theorem latch_pending (k : FaultKind) (s : State) : (s.latch k).pending = s.pending := rfl

@[simp] theorem setBank_inReset (i : BankId) (b : Bank) (s : State) : (s.setBank i b).inReset = s.inReset := by cases i <;> rfl
@[simp] theorem setBank_portU (i : BankId) (b : Bank) (s : State) : (s.setBank i b).portU = s.portU := by cases i <;> rfl
@[simp] theorem setBank_portD (i : BankId) (b : Bank) (s : State) : (s.setBank i b).portD = s.portD := by cases i <;> rfl
@[simp] theorem setBank_position (i : BankId) (b : Bank) (s : State) : (s.setBank i b).position = s.position := by cases i <;> rfl
@[simp] theorem setBank_chainEnd (i : BankId) (b : Bank) (s : State) : (s.setBank i b).chainEnd = s.chainEnd := by cases i <;> rfl
@[simp] theorem setBank_otq (i : BankId) (b : Bank) (s : State) : (s.setBank i b).otq = s.otq := by cases i <;> rfl
@[simp] theorem setBank_htq (i : BankId) (b : Bank) (s : State) : (s.setBank i b).htq = s.htq := by cases i <;> rfl
@[simp] theorem setBank_inbox (i : BankId) (b : Bank) (s : State) : (s.setBank i b).inbox = s.inbox := by cases i <;> rfl
@[simp] theorem setBank_uTx (i : BankId) (b : Bank) (s : State) : (s.setBank i b).uTx = s.uTx := by cases i <;> rfl
@[simp] theorem setBank_dTx (i : BankId) (b : Bank) (s : State) : (s.setBank i b).dTx = s.dTx := by cases i <;> rfl
@[simp] theorem setBank_streak (i : BankId) (b : Bank) (s : State) : (s.setBank i b).streak = s.streak := by cases i <;> rfl
@[simp] theorem setBank_loq (i : BankId) (b : Bank) (s : State) : (s.setBank i b).loq = s.loq := by cases i <;> rfl
@[simp] theorem setBank_notice (i : BankId) (b : Bank) (s : State) : (s.setBank i b).notice = s.notice := by cases i <;> rfl
@[simp] theorem setBank_queue (i : BankId) (b : Bank) (s : State) : (s.setBank i b).queue = s.queue := by cases i <;> rfl
@[simp] theorem setBank_dlc (i : BankId) (b : Bank) (s : State) : (s.setBank i b).dlc = s.dlc := by cases i <;> rfl
@[simp] theorem setBank_nodes (i : BankId) (b : Bank) (s : State) : (s.setBank i b).nodes = s.nodes := by cases i <;> rfl
@[simp] theorem setBank_activeBank (i : BankId) (b : Bank) (s : State) : (s.setBank i b).activeBank = s.activeBank := by cases i <;> rfl
@[simp] theorem setBank_epoch (i : BankId) (b : Bank) (s : State) : (s.setBank i b).epoch = s.epoch := by cases i <;> rfl
@[simp] theorem setBank_commit (i : BankId) (b : Bank) (s : State) : (s.setBank i b).commit = s.commit := by cases i <;> rfl
@[simp] theorem setBank_scan (i : BankId) (b : Bank) (s : State) : (s.setBank i b).scan = s.scan := by cases i <;> rfl
@[simp] theorem setBank_params (i : BankId) (b : Bank) (s : State) : (s.setBank i b).params = s.params := by cases i <;> rfl
@[simp] theorem setBank_faults (i : BankId) (b : Bank) (s : State) : (s.setBank i b).faults = s.faults := by cases i <;> rfl
@[simp] theorem setBank_counters (i : BankId) (b : Bank) (s : State) : (s.setBank i b).counters = s.counters := by cases i <;> rfl
@[simp] theorem setBank_timer (i : BankId) (b : Bank) (s : State) : (s.setBank i b).timer = s.timer := by cases i <;> rfl
@[simp] theorem setBank_pending (i : BankId) (b : Bank) (s : State) : (s.setBank i b).pending = s.pending := by cases i <;> rfl

@[simp] theorem judgeU_inReset (s : State) : (s.judgeU).inReset = s.inReset := rfl
@[simp] theorem judgeU_portD (s : State) : (s.judgeU).portD = s.portD := rfl
@[simp] theorem judgeU_position (s : State) : (s.judgeU).position = s.position := rfl
@[simp] theorem judgeU_chainEnd (s : State) : (s.judgeU).chainEnd = s.chainEnd := rfl
@[simp] theorem judgeU_otq (s : State) : (s.judgeU).otq = s.otq := rfl
@[simp] theorem judgeU_htq (s : State) : (s.judgeU).htq = s.htq := rfl
@[simp] theorem judgeU_inbox (s : State) : (s.judgeU).inbox = s.inbox := rfl
@[simp] theorem judgeU_uTx (s : State) : (s.judgeU).uTx = s.uTx := rfl
@[simp] theorem judgeU_dTx (s : State) : (s.judgeU).dTx = s.dTx := rfl
@[simp] theorem judgeU_streak (s : State) : (s.judgeU).streak = s.streak := rfl
@[simp] theorem judgeU_loq (s : State) : (s.judgeU).loq = s.loq := rfl
@[simp] theorem judgeU_notice (s : State) : (s.judgeU).notice = s.notice := rfl
@[simp] theorem judgeU_queue (s : State) : (s.judgeU).queue = s.queue := rfl
@[simp] theorem judgeU_dlc (s : State) : (s.judgeU).dlc = s.dlc := rfl
@[simp] theorem judgeU_nodes (s : State) : (s.judgeU).nodes = s.nodes := rfl
@[simp] theorem judgeU_bank0 (s : State) : (s.judgeU).bank0 = s.bank0 := rfl
@[simp] theorem judgeU_bank1 (s : State) : (s.judgeU).bank1 = s.bank1 := rfl
@[simp] theorem judgeU_activeBank (s : State) : (s.judgeU).activeBank = s.activeBank := rfl
@[simp] theorem judgeU_epoch (s : State) : (s.judgeU).epoch = s.epoch := rfl
@[simp] theorem judgeU_commit (s : State) : (s.judgeU).commit = s.commit := rfl
@[simp] theorem judgeU_scan (s : State) : (s.judgeU).scan = s.scan := rfl
@[simp] theorem judgeU_params (s : State) : (s.judgeU).params = s.params := rfl
@[simp] theorem judgeU_faults (s : State) : (s.judgeU).faults = s.faults := rfl
@[simp] theorem judgeU_counters (s : State) : (s.judgeU).counters = s.counters := rfl
@[simp] theorem judgeU_timer (s : State) : (s.judgeU).timer = s.timer := rfl
@[simp] theorem judgeU_pending (s : State) : (s.judgeU).pending = s.pending := rfl

@[simp] theorem judgeD_inReset (s : State) : (s.judgeD).inReset = s.inReset := rfl
@[simp] theorem judgeD_portU (s : State) : (s.judgeD).portU = s.portU := rfl
@[simp] theorem judgeD_position (s : State) : (s.judgeD).position = s.position := rfl
@[simp] theorem judgeD_chainEnd (s : State) : (s.judgeD).chainEnd = s.chainEnd := rfl
@[simp] theorem judgeD_otq (s : State) : (s.judgeD).otq = s.otq := rfl
@[simp] theorem judgeD_htq (s : State) : (s.judgeD).htq = s.htq := rfl
@[simp] theorem judgeD_inbox (s : State) : (s.judgeD).inbox = s.inbox := rfl
@[simp] theorem judgeD_uTx (s : State) : (s.judgeD).uTx = s.uTx := rfl
@[simp] theorem judgeD_dTx (s : State) : (s.judgeD).dTx = s.dTx := rfl
@[simp] theorem judgeD_streak (s : State) : (s.judgeD).streak = s.streak := rfl
@[simp] theorem judgeD_loq (s : State) : (s.judgeD).loq = s.loq := rfl
@[simp] theorem judgeD_notice (s : State) : (s.judgeD).notice = s.notice := rfl
@[simp] theorem judgeD_queue (s : State) : (s.judgeD).queue = s.queue := rfl
@[simp] theorem judgeD_dlc (s : State) : (s.judgeD).dlc = s.dlc := rfl
@[simp] theorem judgeD_nodes (s : State) : (s.judgeD).nodes = s.nodes := rfl
@[simp] theorem judgeD_bank0 (s : State) : (s.judgeD).bank0 = s.bank0 := rfl
@[simp] theorem judgeD_bank1 (s : State) : (s.judgeD).bank1 = s.bank1 := rfl
@[simp] theorem judgeD_activeBank (s : State) : (s.judgeD).activeBank = s.activeBank := rfl
@[simp] theorem judgeD_epoch (s : State) : (s.judgeD).epoch = s.epoch := rfl
@[simp] theorem judgeD_commit (s : State) : (s.judgeD).commit = s.commit := rfl
@[simp] theorem judgeD_scan (s : State) : (s.judgeD).scan = s.scan := rfl
@[simp] theorem judgeD_params (s : State) : (s.judgeD).params = s.params := rfl
@[simp] theorem judgeD_faults (s : State) : (s.judgeD).faults = s.faults := rfl
@[simp] theorem judgeD_counters (s : State) : (s.judgeD).counters = s.counters := rfl
@[simp] theorem judgeD_timer (s : State) : (s.judgeD).timer = s.timer := rfl
@[simp] theorem judgeD_pending (s : State) : (s.judgeD).pending = s.pending := rfl


/-! ### Ops.lean -/

@[simp] theorem reserveSlot_inReset (n : Nat) (h : Holder) (s : State) : (s.reserveSlot n h).inReset = s.inReset := rfl
@[simp] theorem reserveSlot_portU (n : Nat) (h : Holder) (s : State) : (s.reserveSlot n h).portU = s.portU := rfl
@[simp] theorem reserveSlot_portD (n : Nat) (h : Holder) (s : State) : (s.reserveSlot n h).portD = s.portD := rfl
@[simp] theorem reserveSlot_position (n : Nat) (h : Holder) (s : State) : (s.reserveSlot n h).position = s.position := rfl
@[simp] theorem reserveSlot_chainEnd (n : Nat) (h : Holder) (s : State) : (s.reserveSlot n h).chainEnd = s.chainEnd := rfl
@[simp] theorem reserveSlot_otq (n : Nat) (h : Holder) (s : State) : (s.reserveSlot n h).otq = s.otq := rfl
@[simp] theorem reserveSlot_htq (n : Nat) (h : Holder) (s : State) : (s.reserveSlot n h).htq = s.htq := rfl
@[simp] theorem reserveSlot_inbox (n : Nat) (h : Holder) (s : State) : (s.reserveSlot n h).inbox = s.inbox := rfl
@[simp] theorem reserveSlot_uTx (n : Nat) (h : Holder) (s : State) : (s.reserveSlot n h).uTx = s.uTx := rfl
@[simp] theorem reserveSlot_dTx (n : Nat) (h : Holder) (s : State) : (s.reserveSlot n h).dTx = s.dTx := rfl
@[simp] theorem reserveSlot_streak (n : Nat) (h : Holder) (s : State) : (s.reserveSlot n h).streak = s.streak := rfl
@[simp] theorem reserveSlot_notice (n : Nat) (h : Holder) (s : State) : (s.reserveSlot n h).notice = s.notice := rfl
@[simp] theorem reserveSlot_queue (n : Nat) (h : Holder) (s : State) : (s.reserveSlot n h).queue = s.queue := rfl
@[simp] theorem reserveSlot_dlc (n : Nat) (h : Holder) (s : State) : (s.reserveSlot n h).dlc = s.dlc := rfl
@[simp] theorem reserveSlot_nodes (n : Nat) (h : Holder) (s : State) : (s.reserveSlot n h).nodes = s.nodes := rfl
@[simp] theorem reserveSlot_bank0 (n : Nat) (h : Holder) (s : State) : (s.reserveSlot n h).bank0 = s.bank0 := rfl
@[simp] theorem reserveSlot_bank1 (n : Nat) (h : Holder) (s : State) : (s.reserveSlot n h).bank1 = s.bank1 := rfl
@[simp] theorem reserveSlot_activeBank (n : Nat) (h : Holder) (s : State) : (s.reserveSlot n h).activeBank = s.activeBank := rfl
@[simp] theorem reserveSlot_epoch (n : Nat) (h : Holder) (s : State) : (s.reserveSlot n h).epoch = s.epoch := rfl
@[simp] theorem reserveSlot_commit (n : Nat) (h : Holder) (s : State) : (s.reserveSlot n h).commit = s.commit := rfl
@[simp] theorem reserveSlot_scan (n : Nat) (h : Holder) (s : State) : (s.reserveSlot n h).scan = s.scan := rfl
@[simp] theorem reserveSlot_params (n : Nat) (h : Holder) (s : State) : (s.reserveSlot n h).params = s.params := rfl
@[simp] theorem reserveSlot_faults (n : Nat) (h : Holder) (s : State) : (s.reserveSlot n h).faults = s.faults := rfl
@[simp] theorem reserveSlot_counters (n : Nat) (h : Holder) (s : State) : (s.reserveSlot n h).counters = s.counters := rfl
@[simp] theorem reserveSlot_timer (n : Nat) (h : Holder) (s : State) : (s.reserveSlot n h).timer = s.timer := rfl
@[simp] theorem reserveSlot_pending (n : Nat) (h : Holder) (s : State) : (s.reserveSlot n h).pending = s.pending := rfl

@[simp] theorem fillSlot_inReset (n : Nat) (f : Frame) (s : State) : (s.fillSlot n f).inReset = s.inReset := rfl
@[simp] theorem fillSlot_portU (n : Nat) (f : Frame) (s : State) : (s.fillSlot n f).portU = s.portU := rfl
@[simp] theorem fillSlot_portD (n : Nat) (f : Frame) (s : State) : (s.fillSlot n f).portD = s.portD := rfl
@[simp] theorem fillSlot_position (n : Nat) (f : Frame) (s : State) : (s.fillSlot n f).position = s.position := rfl
@[simp] theorem fillSlot_chainEnd (n : Nat) (f : Frame) (s : State) : (s.fillSlot n f).chainEnd = s.chainEnd := rfl
@[simp] theorem fillSlot_otq (n : Nat) (f : Frame) (s : State) : (s.fillSlot n f).otq = s.otq := rfl
@[simp] theorem fillSlot_htq (n : Nat) (f : Frame) (s : State) : (s.fillSlot n f).htq = s.htq := rfl
@[simp] theorem fillSlot_inbox (n : Nat) (f : Frame) (s : State) : (s.fillSlot n f).inbox = s.inbox := rfl
@[simp] theorem fillSlot_uTx (n : Nat) (f : Frame) (s : State) : (s.fillSlot n f).uTx = s.uTx := rfl
@[simp] theorem fillSlot_dTx (n : Nat) (f : Frame) (s : State) : (s.fillSlot n f).dTx = s.dTx := rfl
@[simp] theorem fillSlot_streak (n : Nat) (f : Frame) (s : State) : (s.fillSlot n f).streak = s.streak := rfl
@[simp] theorem fillSlot_notice (n : Nat) (f : Frame) (s : State) : (s.fillSlot n f).notice = s.notice := rfl
@[simp] theorem fillSlot_queue (n : Nat) (f : Frame) (s : State) : (s.fillSlot n f).queue = s.queue := rfl
@[simp] theorem fillSlot_dlc (n : Nat) (f : Frame) (s : State) : (s.fillSlot n f).dlc = s.dlc := rfl
@[simp] theorem fillSlot_nodes (n : Nat) (f : Frame) (s : State) : (s.fillSlot n f).nodes = s.nodes := rfl
@[simp] theorem fillSlot_bank0 (n : Nat) (f : Frame) (s : State) : (s.fillSlot n f).bank0 = s.bank0 := rfl
@[simp] theorem fillSlot_bank1 (n : Nat) (f : Frame) (s : State) : (s.fillSlot n f).bank1 = s.bank1 := rfl
@[simp] theorem fillSlot_activeBank (n : Nat) (f : Frame) (s : State) : (s.fillSlot n f).activeBank = s.activeBank := rfl
@[simp] theorem fillSlot_epoch (n : Nat) (f : Frame) (s : State) : (s.fillSlot n f).epoch = s.epoch := rfl
@[simp] theorem fillSlot_commit (n : Nat) (f : Frame) (s : State) : (s.fillSlot n f).commit = s.commit := rfl
@[simp] theorem fillSlot_scan (n : Nat) (f : Frame) (s : State) : (s.fillSlot n f).scan = s.scan := rfl
@[simp] theorem fillSlot_params (n : Nat) (f : Frame) (s : State) : (s.fillSlot n f).params = s.params := rfl
@[simp] theorem fillSlot_faults (n : Nat) (f : Frame) (s : State) : (s.fillSlot n f).faults = s.faults := rfl
@[simp] theorem fillSlot_counters (n : Nat) (f : Frame) (s : State) : (s.fillSlot n f).counters = s.counters := rfl
@[simp] theorem fillSlot_timer (n : Nat) (f : Frame) (s : State) : (s.fillSlot n f).timer = s.timer := rfl
@[simp] theorem fillSlot_pending (n : Nat) (f : Frame) (s : State) : (s.fillSlot n f).pending = s.pending := rfl

@[simp] theorem freeSlot_inReset (n : Nat) (s : State) : (s.freeSlot n).inReset = s.inReset := by unfold State.freeSlot; split <;> rfl
@[simp] theorem freeSlot_portU (n : Nat) (s : State) : (s.freeSlot n).portU = s.portU := by unfold State.freeSlot; split <;> rfl
@[simp] theorem freeSlot_portD (n : Nat) (s : State) : (s.freeSlot n).portD = s.portD := by unfold State.freeSlot; split <;> rfl
@[simp] theorem freeSlot_position (n : Nat) (s : State) : (s.freeSlot n).position = s.position := by unfold State.freeSlot; split <;> rfl
@[simp] theorem freeSlot_chainEnd (n : Nat) (s : State) : (s.freeSlot n).chainEnd = s.chainEnd := by unfold State.freeSlot; split <;> rfl
@[simp] theorem freeSlot_otq (n : Nat) (s : State) : (s.freeSlot n).otq = s.otq := by unfold State.freeSlot; split <;> rfl
@[simp] theorem freeSlot_htq (n : Nat) (s : State) : (s.freeSlot n).htq = s.htq := by unfold State.freeSlot; split <;> rfl
@[simp] theorem freeSlot_inbox (n : Nat) (s : State) : (s.freeSlot n).inbox = s.inbox := by unfold State.freeSlot; split <;> rfl
@[simp] theorem freeSlot_uTx (n : Nat) (s : State) : (s.freeSlot n).uTx = s.uTx := by unfold State.freeSlot; split <;> rfl
@[simp] theorem freeSlot_dTx (n : Nat) (s : State) : (s.freeSlot n).dTx = s.dTx := by unfold State.freeSlot; split <;> rfl
@[simp] theorem freeSlot_streak (n : Nat) (s : State) : (s.freeSlot n).streak = s.streak := by unfold State.freeSlot; split <;> rfl
@[simp] theorem freeSlot_notice (n : Nat) (s : State) : (s.freeSlot n).notice = s.notice := by unfold State.freeSlot; split <;> rfl
@[simp] theorem freeSlot_queue (n : Nat) (s : State) : (s.freeSlot n).queue = s.queue := by unfold State.freeSlot; split <;> rfl
@[simp] theorem freeSlot_dlc (n : Nat) (s : State) : (s.freeSlot n).dlc = s.dlc := by unfold State.freeSlot; split <;> rfl
@[simp] theorem freeSlot_nodes (n : Nat) (s : State) : (s.freeSlot n).nodes = s.nodes := by unfold State.freeSlot; split <;> rfl
@[simp] theorem freeSlot_bank0 (n : Nat) (s : State) : (s.freeSlot n).bank0 = s.bank0 := by unfold State.freeSlot; split <;> rfl
@[simp] theorem freeSlot_bank1 (n : Nat) (s : State) : (s.freeSlot n).bank1 = s.bank1 := by unfold State.freeSlot; split <;> rfl
@[simp] theorem freeSlot_activeBank (n : Nat) (s : State) : (s.freeSlot n).activeBank = s.activeBank := by unfold State.freeSlot; split <;> rfl
@[simp] theorem freeSlot_epoch (n : Nat) (s : State) : (s.freeSlot n).epoch = s.epoch := by unfold State.freeSlot; split <;> rfl
@[simp] theorem freeSlot_commit (n : Nat) (s : State) : (s.freeSlot n).commit = s.commit := by unfold State.freeSlot; split <;> rfl
@[simp] theorem freeSlot_scan (n : Nat) (s : State) : (s.freeSlot n).scan = s.scan := by unfold State.freeSlot; split <;> rfl
@[simp] theorem freeSlot_params (n : Nat) (s : State) : (s.freeSlot n).params = s.params := by unfold State.freeSlot; split <;> rfl
@[simp] theorem freeSlot_faults (n : Nat) (s : State) : (s.freeSlot n).faults = s.faults := by unfold State.freeSlot; split <;> rfl
@[simp] theorem freeSlot_counters (n : Nat) (s : State) : (s.freeSlot n).counters = s.counters := by unfold State.freeSlot; split <;> rfl
@[simp] theorem freeSlot_timer (n : Nat) (s : State) : (s.freeSlot n).timer = s.timer := by unfold State.freeSlot; split <;> rfl
@[simp] theorem freeSlot_pending (n : Nat) (s : State) : (s.freeSlot n).pending = s.pending := by unfold State.freeSlot; split <;> rfl

@[simp] theorem answer_inReset (o : Option Nat) (f : Frame) (s : State) : (s.answer o f).inReset = s.inReset := by cases o <;> rfl
@[simp] theorem answer_portU (o : Option Nat) (f : Frame) (s : State) : (s.answer o f).portU = s.portU := by cases o <;> rfl
@[simp] theorem answer_portD (o : Option Nat) (f : Frame) (s : State) : (s.answer o f).portD = s.portD := by cases o <;> rfl
@[simp] theorem answer_position (o : Option Nat) (f : Frame) (s : State) : (s.answer o f).position = s.position := by cases o <;> rfl
@[simp] theorem answer_chainEnd (o : Option Nat) (f : Frame) (s : State) : (s.answer o f).chainEnd = s.chainEnd := by cases o <;> rfl
@[simp] theorem answer_otq (o : Option Nat) (f : Frame) (s : State) : (s.answer o f).otq = s.otq := by cases o <;> rfl
@[simp] theorem answer_htq (o : Option Nat) (f : Frame) (s : State) : (s.answer o f).htq = s.htq := by cases o <;> rfl
@[simp] theorem answer_inbox (o : Option Nat) (f : Frame) (s : State) : (s.answer o f).inbox = s.inbox := by cases o <;> rfl
@[simp] theorem answer_uTx (o : Option Nat) (f : Frame) (s : State) : (s.answer o f).uTx = s.uTx := by cases o <;> rfl
@[simp] theorem answer_dTx (o : Option Nat) (f : Frame) (s : State) : (s.answer o f).dTx = s.dTx := by cases o <;> rfl
@[simp] theorem answer_streak (o : Option Nat) (f : Frame) (s : State) : (s.answer o f).streak = s.streak := by cases o <;> rfl
@[simp] theorem answer_notice (o : Option Nat) (f : Frame) (s : State) : (s.answer o f).notice = s.notice := by cases o <;> rfl
@[simp] theorem answer_queue (o : Option Nat) (f : Frame) (s : State) : (s.answer o f).queue = s.queue := by cases o <;> rfl
@[simp] theorem answer_dlc (o : Option Nat) (f : Frame) (s : State) : (s.answer o f).dlc = s.dlc := by cases o <;> rfl
@[simp] theorem answer_nodes (o : Option Nat) (f : Frame) (s : State) : (s.answer o f).nodes = s.nodes := by cases o <;> rfl
@[simp] theorem answer_bank0 (o : Option Nat) (f : Frame) (s : State) : (s.answer o f).bank0 = s.bank0 := by cases o <;> rfl
@[simp] theorem answer_bank1 (o : Option Nat) (f : Frame) (s : State) : (s.answer o f).bank1 = s.bank1 := by cases o <;> rfl
@[simp] theorem answer_activeBank (o : Option Nat) (f : Frame) (s : State) : (s.answer o f).activeBank = s.activeBank := by cases o <;> rfl
@[simp] theorem answer_epoch (o : Option Nat) (f : Frame) (s : State) : (s.answer o f).epoch = s.epoch := by cases o <;> rfl
@[simp] theorem answer_commit (o : Option Nat) (f : Frame) (s : State) : (s.answer o f).commit = s.commit := by cases o <;> rfl
@[simp] theorem answer_scan (o : Option Nat) (f : Frame) (s : State) : (s.answer o f).scan = s.scan := by cases o <;> rfl
@[simp] theorem answer_params (o : Option Nat) (f : Frame) (s : State) : (s.answer o f).params = s.params := by cases o <;> rfl
@[simp] theorem answer_faults (o : Option Nat) (f : Frame) (s : State) : (s.answer o f).faults = s.faults := by cases o <;> rfl
@[simp] theorem answer_counters (o : Option Nat) (f : Frame) (s : State) : (s.answer o f).counters = s.counters := by cases o <;> rfl
@[simp] theorem answer_timer (o : Option Nat) (f : Frame) (s : State) : (s.answer o f).timer = s.timer := by cases o <;> rfl
@[simp] theorem answer_pending (o : Option Nat) (f : Frame) (s : State) : (s.answer o f).pending = s.pending := by cases o <;> rfl

@[simp] theorem releaseReply_inReset (o : Option Nat) (s : State) : (s.releaseReply o).inReset = s.inReset := by cases o <;> first | rfl | exact freeSlot_inReset _ _
@[simp] theorem releaseReply_portU (o : Option Nat) (s : State) : (s.releaseReply o).portU = s.portU := by cases o <;> first | rfl | exact freeSlot_portU _ _
@[simp] theorem releaseReply_portD (o : Option Nat) (s : State) : (s.releaseReply o).portD = s.portD := by cases o <;> first | rfl | exact freeSlot_portD _ _
@[simp] theorem releaseReply_position (o : Option Nat) (s : State) : (s.releaseReply o).position = s.position := by cases o <;> first | rfl | exact freeSlot_position _ _
@[simp] theorem releaseReply_chainEnd (o : Option Nat) (s : State) : (s.releaseReply o).chainEnd = s.chainEnd := by cases o <;> first | rfl | exact freeSlot_chainEnd _ _
@[simp] theorem releaseReply_otq (o : Option Nat) (s : State) : (s.releaseReply o).otq = s.otq := by cases o <;> first | rfl | exact freeSlot_otq _ _
@[simp] theorem releaseReply_htq (o : Option Nat) (s : State) : (s.releaseReply o).htq = s.htq := by cases o <;> first | rfl | exact freeSlot_htq _ _
@[simp] theorem releaseReply_inbox (o : Option Nat) (s : State) : (s.releaseReply o).inbox = s.inbox := by cases o <;> first | rfl | exact freeSlot_inbox _ _
@[simp] theorem releaseReply_uTx (o : Option Nat) (s : State) : (s.releaseReply o).uTx = s.uTx := by cases o <;> first | rfl | exact freeSlot_uTx _ _
@[simp] theorem releaseReply_dTx (o : Option Nat) (s : State) : (s.releaseReply o).dTx = s.dTx := by cases o <;> first | rfl | exact freeSlot_dTx _ _
@[simp] theorem releaseReply_streak (o : Option Nat) (s : State) : (s.releaseReply o).streak = s.streak := by cases o <;> first | rfl | exact freeSlot_streak _ _
@[simp] theorem releaseReply_notice (o : Option Nat) (s : State) : (s.releaseReply o).notice = s.notice := by cases o <;> first | rfl | exact freeSlot_notice _ _
@[simp] theorem releaseReply_queue (o : Option Nat) (s : State) : (s.releaseReply o).queue = s.queue := by cases o <;> first | rfl | exact freeSlot_queue _ _
@[simp] theorem releaseReply_dlc (o : Option Nat) (s : State) : (s.releaseReply o).dlc = s.dlc := by cases o <;> first | rfl | exact freeSlot_dlc _ _
@[simp] theorem releaseReply_nodes (o : Option Nat) (s : State) : (s.releaseReply o).nodes = s.nodes := by cases o <;> first | rfl | exact freeSlot_nodes _ _
@[simp] theorem releaseReply_bank0 (o : Option Nat) (s : State) : (s.releaseReply o).bank0 = s.bank0 := by cases o <;> first | rfl | exact freeSlot_bank0 _ _
@[simp] theorem releaseReply_bank1 (o : Option Nat) (s : State) : (s.releaseReply o).bank1 = s.bank1 := by cases o <;> first | rfl | exact freeSlot_bank1 _ _
@[simp] theorem releaseReply_activeBank (o : Option Nat) (s : State) : (s.releaseReply o).activeBank = s.activeBank := by cases o <;> first | rfl | exact freeSlot_activeBank _ _
@[simp] theorem releaseReply_epoch (o : Option Nat) (s : State) : (s.releaseReply o).epoch = s.epoch := by cases o <;> first | rfl | exact freeSlot_epoch _ _
@[simp] theorem releaseReply_commit (o : Option Nat) (s : State) : (s.releaseReply o).commit = s.commit := by cases o <;> first | rfl | exact freeSlot_commit _ _
@[simp] theorem releaseReply_scan (o : Option Nat) (s : State) : (s.releaseReply o).scan = s.scan := by cases o <;> first | rfl | exact freeSlot_scan _ _
@[simp] theorem releaseReply_params (o : Option Nat) (s : State) : (s.releaseReply o).params = s.params := by cases o <;> first | rfl | exact freeSlot_params _ _
@[simp] theorem releaseReply_faults (o : Option Nat) (s : State) : (s.releaseReply o).faults = s.faults := by cases o <;> first | rfl | exact freeSlot_faults _ _
@[simp] theorem releaseReply_counters (o : Option Nat) (s : State) : (s.releaseReply o).counters = s.counters := by cases o <;> first | rfl | exact freeSlot_counters _ _
@[simp] theorem releaseReply_timer (o : Option Nat) (s : State) : (s.releaseReply o).timer = s.timer := by cases o <;> first | rfl | exact freeSlot_timer _ _
@[simp] theorem releaseReply_pending (o : Option Nat) (s : State) : (s.releaseReply o).pending = s.pending := by cases o <;> first | rfl | exact freeSlot_pending _ _

@[simp] theorem fillLowest_inReset (f : Frame) (s : State) : (s.fillLowest f).inReset = s.inReset := by unfold State.fillLowest; split <;> rfl
@[simp] theorem fillLowest_portU (f : Frame) (s : State) : (s.fillLowest f).portU = s.portU := by unfold State.fillLowest; split <;> rfl
@[simp] theorem fillLowest_portD (f : Frame) (s : State) : (s.fillLowest f).portD = s.portD := by unfold State.fillLowest; split <;> rfl
@[simp] theorem fillLowest_position (f : Frame) (s : State) : (s.fillLowest f).position = s.position := by unfold State.fillLowest; split <;> rfl
@[simp] theorem fillLowest_chainEnd (f : Frame) (s : State) : (s.fillLowest f).chainEnd = s.chainEnd := by unfold State.fillLowest; split <;> rfl
@[simp] theorem fillLowest_otq (f : Frame) (s : State) : (s.fillLowest f).otq = s.otq := by unfold State.fillLowest; split <;> rfl
@[simp] theorem fillLowest_htq (f : Frame) (s : State) : (s.fillLowest f).htq = s.htq := by unfold State.fillLowest; split <;> rfl
@[simp] theorem fillLowest_inbox (f : Frame) (s : State) : (s.fillLowest f).inbox = s.inbox := by unfold State.fillLowest; split <;> rfl
@[simp] theorem fillLowest_uTx (f : Frame) (s : State) : (s.fillLowest f).uTx = s.uTx := by unfold State.fillLowest; split <;> rfl
@[simp] theorem fillLowest_dTx (f : Frame) (s : State) : (s.fillLowest f).dTx = s.dTx := by unfold State.fillLowest; split <;> rfl
@[simp] theorem fillLowest_streak (f : Frame) (s : State) : (s.fillLowest f).streak = s.streak := by unfold State.fillLowest; split <;> rfl
@[simp] theorem fillLowest_notice (f : Frame) (s : State) : (s.fillLowest f).notice = s.notice := by unfold State.fillLowest; split <;> rfl
@[simp] theorem fillLowest_queue (f : Frame) (s : State) : (s.fillLowest f).queue = s.queue := by unfold State.fillLowest; split <;> rfl
@[simp] theorem fillLowest_dlc (f : Frame) (s : State) : (s.fillLowest f).dlc = s.dlc := by unfold State.fillLowest; split <;> rfl
@[simp] theorem fillLowest_nodes (f : Frame) (s : State) : (s.fillLowest f).nodes = s.nodes := by unfold State.fillLowest; split <;> rfl
@[simp] theorem fillLowest_bank0 (f : Frame) (s : State) : (s.fillLowest f).bank0 = s.bank0 := by unfold State.fillLowest; split <;> rfl
@[simp] theorem fillLowest_bank1 (f : Frame) (s : State) : (s.fillLowest f).bank1 = s.bank1 := by unfold State.fillLowest; split <;> rfl
@[simp] theorem fillLowest_activeBank (f : Frame) (s : State) : (s.fillLowest f).activeBank = s.activeBank := by unfold State.fillLowest; split <;> rfl
@[simp] theorem fillLowest_epoch (f : Frame) (s : State) : (s.fillLowest f).epoch = s.epoch := by unfold State.fillLowest; split <;> rfl
@[simp] theorem fillLowest_commit (f : Frame) (s : State) : (s.fillLowest f).commit = s.commit := by unfold State.fillLowest; split <;> rfl
@[simp] theorem fillLowest_scan (f : Frame) (s : State) : (s.fillLowest f).scan = s.scan := by unfold State.fillLowest; split <;> rfl
@[simp] theorem fillLowest_params (f : Frame) (s : State) : (s.fillLowest f).params = s.params := by unfold State.fillLowest; split <;> rfl
@[simp] theorem fillLowest_faults (f : Frame) (s : State) : (s.fillLowest f).faults = s.faults := by unfold State.fillLowest; split <;> rfl
@[simp] theorem fillLowest_counters (f : Frame) (s : State) : (s.fillLowest f).counters = s.counters := by unfold State.fillLowest; split <;> rfl
@[simp] theorem fillLowest_timer (f : Frame) (s : State) : (s.fillLowest f).timer = s.timer := by unfold State.fillLowest; split <;> rfl
@[simp] theorem fillLowest_pending (f : Frame) (s : State) : (s.fillLowest f).pending = s.pending := by unfold State.fillLowest; split <;> rfl

@[simp] theorem noticeNode_inReset (n : Nat) (st : NodeState) (s : State) : (s.noticeNode n st).inReset = s.inReset := rfl
@[simp] theorem noticeNode_portU (n : Nat) (st : NodeState) (s : State) : (s.noticeNode n st).portU = s.portU := rfl
@[simp] theorem noticeNode_portD (n : Nat) (st : NodeState) (s : State) : (s.noticeNode n st).portD = s.portD := rfl
@[simp] theorem noticeNode_position (n : Nat) (st : NodeState) (s : State) : (s.noticeNode n st).position = s.position := rfl
@[simp] theorem noticeNode_chainEnd (n : Nat) (st : NodeState) (s : State) : (s.noticeNode n st).chainEnd = s.chainEnd := rfl
@[simp] theorem noticeNode_otq (n : Nat) (st : NodeState) (s : State) : (s.noticeNode n st).otq = s.otq := rfl
@[simp] theorem noticeNode_htq (n : Nat) (st : NodeState) (s : State) : (s.noticeNode n st).htq = s.htq := rfl
@[simp] theorem noticeNode_inbox (n : Nat) (st : NodeState) (s : State) : (s.noticeNode n st).inbox = s.inbox := rfl
@[simp] theorem noticeNode_uTx (n : Nat) (st : NodeState) (s : State) : (s.noticeNode n st).uTx = s.uTx := rfl
@[simp] theorem noticeNode_dTx (n : Nat) (st : NodeState) (s : State) : (s.noticeNode n st).dTx = s.dTx := rfl
@[simp] theorem noticeNode_streak (n : Nat) (st : NodeState) (s : State) : (s.noticeNode n st).streak = s.streak := rfl
@[simp] theorem noticeNode_loq (n : Nat) (st : NodeState) (s : State) : (s.noticeNode n st).loq = s.loq := rfl
@[simp] theorem noticeNode_queue (n : Nat) (st : NodeState) (s : State) : (s.noticeNode n st).queue = s.queue := rfl
@[simp] theorem noticeNode_dlc (n : Nat) (st : NodeState) (s : State) : (s.noticeNode n st).dlc = s.dlc := rfl
@[simp] theorem noticeNode_nodes (n : Nat) (st : NodeState) (s : State) : (s.noticeNode n st).nodes = s.nodes := rfl
@[simp] theorem noticeNode_bank0 (n : Nat) (st : NodeState) (s : State) : (s.noticeNode n st).bank0 = s.bank0 := rfl
@[simp] theorem noticeNode_bank1 (n : Nat) (st : NodeState) (s : State) : (s.noticeNode n st).bank1 = s.bank1 := rfl
@[simp] theorem noticeNode_activeBank (n : Nat) (st : NodeState) (s : State) : (s.noticeNode n st).activeBank = s.activeBank := rfl
@[simp] theorem noticeNode_epoch (n : Nat) (st : NodeState) (s : State) : (s.noticeNode n st).epoch = s.epoch := rfl
@[simp] theorem noticeNode_commit (n : Nat) (st : NodeState) (s : State) : (s.noticeNode n st).commit = s.commit := rfl
@[simp] theorem noticeNode_scan (n : Nat) (st : NodeState) (s : State) : (s.noticeNode n st).scan = s.scan := rfl
@[simp] theorem noticeNode_params (n : Nat) (st : NodeState) (s : State) : (s.noticeNode n st).params = s.params := rfl
@[simp] theorem noticeNode_faults (n : Nat) (st : NodeState) (s : State) : (s.noticeNode n st).faults = s.faults := rfl
@[simp] theorem noticeNode_counters (n : Nat) (st : NodeState) (s : State) : (s.noticeNode n st).counters = s.counters := rfl
@[simp] theorem noticeNode_timer (n : Nat) (st : NodeState) (s : State) : (s.noticeNode n st).timer = s.timer := rfl
@[simp] theorem noticeNode_pending (n : Nat) (st : NodeState) (s : State) : (s.noticeNode n st).pending = s.pending := rfl

@[simp] theorem noticeLink_inReset (p : PortId) (l : LinkState) (s : State) : (s.noticeLink p l).inReset = s.inReset := by cases p <;> rfl
@[simp] theorem noticeLink_portU (p : PortId) (l : LinkState) (s : State) : (s.noticeLink p l).portU = s.portU := by cases p <;> rfl
@[simp] theorem noticeLink_portD (p : PortId) (l : LinkState) (s : State) : (s.noticeLink p l).portD = s.portD := by cases p <;> rfl
@[simp] theorem noticeLink_position (p : PortId) (l : LinkState) (s : State) : (s.noticeLink p l).position = s.position := by cases p <;> rfl
@[simp] theorem noticeLink_chainEnd (p : PortId) (l : LinkState) (s : State) : (s.noticeLink p l).chainEnd = s.chainEnd := by cases p <;> rfl
@[simp] theorem noticeLink_otq (p : PortId) (l : LinkState) (s : State) : (s.noticeLink p l).otq = s.otq := by cases p <;> rfl
@[simp] theorem noticeLink_htq (p : PortId) (l : LinkState) (s : State) : (s.noticeLink p l).htq = s.htq := by cases p <;> rfl
@[simp] theorem noticeLink_inbox (p : PortId) (l : LinkState) (s : State) : (s.noticeLink p l).inbox = s.inbox := by cases p <;> rfl
@[simp] theorem noticeLink_uTx (p : PortId) (l : LinkState) (s : State) : (s.noticeLink p l).uTx = s.uTx := by cases p <;> rfl
@[simp] theorem noticeLink_dTx (p : PortId) (l : LinkState) (s : State) : (s.noticeLink p l).dTx = s.dTx := by cases p <;> rfl
@[simp] theorem noticeLink_streak (p : PortId) (l : LinkState) (s : State) : (s.noticeLink p l).streak = s.streak := by cases p <;> rfl
@[simp] theorem noticeLink_loq (p : PortId) (l : LinkState) (s : State) : (s.noticeLink p l).loq = s.loq := by cases p <;> rfl
@[simp] theorem noticeLink_queue (p : PortId) (l : LinkState) (s : State) : (s.noticeLink p l).queue = s.queue := by cases p <;> rfl
@[simp] theorem noticeLink_dlc (p : PortId) (l : LinkState) (s : State) : (s.noticeLink p l).dlc = s.dlc := by cases p <;> rfl
@[simp] theorem noticeLink_nodes (p : PortId) (l : LinkState) (s : State) : (s.noticeLink p l).nodes = s.nodes := by cases p <;> rfl
@[simp] theorem noticeLink_bank0 (p : PortId) (l : LinkState) (s : State) : (s.noticeLink p l).bank0 = s.bank0 := by cases p <;> rfl
@[simp] theorem noticeLink_bank1 (p : PortId) (l : LinkState) (s : State) : (s.noticeLink p l).bank1 = s.bank1 := by cases p <;> rfl
@[simp] theorem noticeLink_activeBank (p : PortId) (l : LinkState) (s : State) : (s.noticeLink p l).activeBank = s.activeBank := by cases p <;> rfl
@[simp] theorem noticeLink_epoch (p : PortId) (l : LinkState) (s : State) : (s.noticeLink p l).epoch = s.epoch := by cases p <;> rfl
@[simp] theorem noticeLink_commit (p : PortId) (l : LinkState) (s : State) : (s.noticeLink p l).commit = s.commit := by cases p <;> rfl
@[simp] theorem noticeLink_scan (p : PortId) (l : LinkState) (s : State) : (s.noticeLink p l).scan = s.scan := by cases p <;> rfl
@[simp] theorem noticeLink_params (p : PortId) (l : LinkState) (s : State) : (s.noticeLink p l).params = s.params := by cases p <;> rfl
@[simp] theorem noticeLink_faults (p : PortId) (l : LinkState) (s : State) : (s.noticeLink p l).faults = s.faults := by cases p <;> rfl
@[simp] theorem noticeLink_counters (p : PortId) (l : LinkState) (s : State) : (s.noticeLink p l).counters = s.counters := by cases p <;> rfl
@[simp] theorem noticeLink_timer (p : PortId) (l : LinkState) (s : State) : (s.noticeLink p l).timer = s.timer := by cases p <;> rfl
@[simp] theorem noticeLink_pending (p : PortId) (l : LinkState) (s : State) : (s.noticeLink p l).pending = s.pending := by cases p <;> rfl

@[simp] theorem unreachableFrame_inReset (q : BitVec 6) (s : State) : (s.unreachableFrame q).inReset = s.inReset := rfl
@[simp] theorem unreachableFrame_portU (q : BitVec 6) (s : State) : (s.unreachableFrame q).portU = s.portU := rfl
@[simp] theorem unreachableFrame_portD (q : BitVec 6) (s : State) : (s.unreachableFrame q).portD = s.portD := rfl
@[simp] theorem unreachableFrame_position (q : BitVec 6) (s : State) : (s.unreachableFrame q).position = s.position := rfl
@[simp] theorem unreachableFrame_chainEnd (q : BitVec 6) (s : State) : (s.unreachableFrame q).chainEnd = s.chainEnd := rfl
@[simp] theorem unreachableFrame_otq (q : BitVec 6) (s : State) : (s.unreachableFrame q).otq = s.otq := rfl
@[simp] theorem unreachableFrame_htq (q : BitVec 6) (s : State) : (s.unreachableFrame q).htq = s.htq := rfl
@[simp] theorem unreachableFrame_inbox (q : BitVec 6) (s : State) : (s.unreachableFrame q).inbox = s.inbox := rfl
@[simp] theorem unreachableFrame_uTx (q : BitVec 6) (s : State) : (s.unreachableFrame q).uTx = s.uTx := rfl
@[simp] theorem unreachableFrame_dTx (q : BitVec 6) (s : State) : (s.unreachableFrame q).dTx = s.dTx := rfl
@[simp] theorem unreachableFrame_streak (q : BitVec 6) (s : State) : (s.unreachableFrame q).streak = s.streak := rfl
@[simp] theorem unreachableFrame_loq (q : BitVec 6) (s : State) : (s.unreachableFrame q).loq = s.loq := rfl
@[simp] theorem unreachableFrame_queue (q : BitVec 6) (s : State) : (s.unreachableFrame q).queue = s.queue := rfl
@[simp] theorem unreachableFrame_dlc (q : BitVec 6) (s : State) : (s.unreachableFrame q).dlc = s.dlc := rfl
@[simp] theorem unreachableFrame_nodes (q : BitVec 6) (s : State) : (s.unreachableFrame q).nodes = s.nodes := rfl
@[simp] theorem unreachableFrame_bank0 (q : BitVec 6) (s : State) : (s.unreachableFrame q).bank0 = s.bank0 := rfl
@[simp] theorem unreachableFrame_bank1 (q : BitVec 6) (s : State) : (s.unreachableFrame q).bank1 = s.bank1 := rfl
@[simp] theorem unreachableFrame_activeBank (q : BitVec 6) (s : State) : (s.unreachableFrame q).activeBank = s.activeBank := rfl
@[simp] theorem unreachableFrame_epoch (q : BitVec 6) (s : State) : (s.unreachableFrame q).epoch = s.epoch := rfl
@[simp] theorem unreachableFrame_commit (q : BitVec 6) (s : State) : (s.unreachableFrame q).commit = s.commit := rfl
@[simp] theorem unreachableFrame_scan (q : BitVec 6) (s : State) : (s.unreachableFrame q).scan = s.scan := rfl
@[simp] theorem unreachableFrame_params (q : BitVec 6) (s : State) : (s.unreachableFrame q).params = s.params := rfl
@[simp] theorem unreachableFrame_faults (q : BitVec 6) (s : State) : (s.unreachableFrame q).faults = s.faults := rfl
@[simp] theorem unreachableFrame_timer (q : BitVec 6) (s : State) : (s.unreachableFrame q).timer = s.timer := rfl
@[simp] theorem unreachableFrame_pending (q : BitVec 6) (s : State) : (s.unreachableFrame q).pending = s.pending := rfl

@[simp] theorem enqueue_inReset (r : ExRecord) (s : State) : (s.enqueue r).inReset = s.inReset := rfl
@[simp] theorem enqueue_portU (r : ExRecord) (s : State) : (s.enqueue r).portU = s.portU := rfl
@[simp] theorem enqueue_portD (r : ExRecord) (s : State) : (s.enqueue r).portD = s.portD := rfl
@[simp] theorem enqueue_position (r : ExRecord) (s : State) : (s.enqueue r).position = s.position := rfl
@[simp] theorem enqueue_chainEnd (r : ExRecord) (s : State) : (s.enqueue r).chainEnd = s.chainEnd := rfl
@[simp] theorem enqueue_otq (r : ExRecord) (s : State) : (s.enqueue r).otq = s.otq := rfl
@[simp] theorem enqueue_htq (r : ExRecord) (s : State) : (s.enqueue r).htq = s.htq := rfl
@[simp] theorem enqueue_inbox (r : ExRecord) (s : State) : (s.enqueue r).inbox = s.inbox := rfl
@[simp] theorem enqueue_uTx (r : ExRecord) (s : State) : (s.enqueue r).uTx = s.uTx := rfl
@[simp] theorem enqueue_dTx (r : ExRecord) (s : State) : (s.enqueue r).dTx = s.dTx := rfl
@[simp] theorem enqueue_streak (r : ExRecord) (s : State) : (s.enqueue r).streak = s.streak := rfl
@[simp] theorem enqueue_loq (r : ExRecord) (s : State) : (s.enqueue r).loq = s.loq := rfl
@[simp] theorem enqueue_notice (r : ExRecord) (s : State) : (s.enqueue r).notice = s.notice := rfl
@[simp] theorem enqueue_dlc (r : ExRecord) (s : State) : (s.enqueue r).dlc = s.dlc := rfl
@[simp] theorem enqueue_nodes (r : ExRecord) (s : State) : (s.enqueue r).nodes = s.nodes := rfl
@[simp] theorem enqueue_bank0 (r : ExRecord) (s : State) : (s.enqueue r).bank0 = s.bank0 := rfl
@[simp] theorem enqueue_bank1 (r : ExRecord) (s : State) : (s.enqueue r).bank1 = s.bank1 := rfl
@[simp] theorem enqueue_activeBank (r : ExRecord) (s : State) : (s.enqueue r).activeBank = s.activeBank := rfl
@[simp] theorem enqueue_epoch (r : ExRecord) (s : State) : (s.enqueue r).epoch = s.epoch := rfl
@[simp] theorem enqueue_commit (r : ExRecord) (s : State) : (s.enqueue r).commit = s.commit := rfl
@[simp] theorem enqueue_scan (r : ExRecord) (s : State) : (s.enqueue r).scan = s.scan := rfl
@[simp] theorem enqueue_params (r : ExRecord) (s : State) : (s.enqueue r).params = s.params := rfl
@[simp] theorem enqueue_faults (r : ExRecord) (s : State) : (s.enqueue r).faults = s.faults := rfl
@[simp] theorem enqueue_counters (r : ExRecord) (s : State) : (s.enqueue r).counters = s.counters := rfl
@[simp] theorem enqueue_timer (r : ExRecord) (s : State) : (s.enqueue r).timer = s.timer := rfl
@[simp] theorem enqueue_pending (r : ExRecord) (s : State) : (s.enqueue r).pending = s.pending := rfl

@[simp] theorem setNode_inReset (n : Nat) (r : NodeRecord) (s : State) : (s.setNode n r).inReset = s.inReset := by unfold State.setNode; dsimp only; split <;> rfl
@[simp] theorem setNode_portU (n : Nat) (r : NodeRecord) (s : State) : (s.setNode n r).portU = s.portU := by unfold State.setNode; dsimp only; split <;> rfl
@[simp] theorem setNode_portD (n : Nat) (r : NodeRecord) (s : State) : (s.setNode n r).portD = s.portD := by unfold State.setNode; dsimp only; split <;> rfl
@[simp] theorem setNode_position (n : Nat) (r : NodeRecord) (s : State) : (s.setNode n r).position = s.position := by unfold State.setNode; dsimp only; split <;> rfl
@[simp] theorem setNode_chainEnd (n : Nat) (r : NodeRecord) (s : State) : (s.setNode n r).chainEnd = s.chainEnd := by unfold State.setNode; dsimp only; split <;> rfl
@[simp] theorem setNode_otq (n : Nat) (r : NodeRecord) (s : State) : (s.setNode n r).otq = s.otq := by unfold State.setNode; dsimp only; split <;> rfl
@[simp] theorem setNode_htq (n : Nat) (r : NodeRecord) (s : State) : (s.setNode n r).htq = s.htq := by unfold State.setNode; dsimp only; split <;> rfl
@[simp] theorem setNode_inbox (n : Nat) (r : NodeRecord) (s : State) : (s.setNode n r).inbox = s.inbox := by unfold State.setNode; dsimp only; split <;> rfl
@[simp] theorem setNode_uTx (n : Nat) (r : NodeRecord) (s : State) : (s.setNode n r).uTx = s.uTx := by unfold State.setNode; dsimp only; split <;> rfl
@[simp] theorem setNode_dTx (n : Nat) (r : NodeRecord) (s : State) : (s.setNode n r).dTx = s.dTx := by unfold State.setNode; dsimp only; split <;> rfl
@[simp] theorem setNode_streak (n : Nat) (r : NodeRecord) (s : State) : (s.setNode n r).streak = s.streak := by unfold State.setNode; dsimp only; split <;> rfl
@[simp] theorem setNode_loq (n : Nat) (r : NodeRecord) (s : State) : (s.setNode n r).loq = s.loq := by unfold State.setNode; dsimp only; split <;> rfl
@[simp] theorem setNode_queue (n : Nat) (r : NodeRecord) (s : State) : (s.setNode n r).queue = s.queue := by unfold State.setNode; dsimp only; split <;> rfl
@[simp] theorem setNode_dlc (n : Nat) (r : NodeRecord) (s : State) : (s.setNode n r).dlc = s.dlc := by unfold State.setNode; dsimp only; split <;> rfl
@[simp] theorem setNode_bank0 (n : Nat) (r : NodeRecord) (s : State) : (s.setNode n r).bank0 = s.bank0 := by unfold State.setNode; dsimp only; split <;> rfl
@[simp] theorem setNode_bank1 (n : Nat) (r : NodeRecord) (s : State) : (s.setNode n r).bank1 = s.bank1 := by unfold State.setNode; dsimp only; split <;> rfl
@[simp] theorem setNode_activeBank (n : Nat) (r : NodeRecord) (s : State) : (s.setNode n r).activeBank = s.activeBank := by unfold State.setNode; dsimp only; split <;> rfl
@[simp] theorem setNode_epoch (n : Nat) (r : NodeRecord) (s : State) : (s.setNode n r).epoch = s.epoch := by unfold State.setNode; dsimp only; split <;> rfl
@[simp] theorem setNode_commit (n : Nat) (r : NodeRecord) (s : State) : (s.setNode n r).commit = s.commit := by unfold State.setNode; dsimp only; split <;> rfl
@[simp] theorem setNode_scan (n : Nat) (r : NodeRecord) (s : State) : (s.setNode n r).scan = s.scan := by unfold State.setNode; dsimp only; split <;> rfl
@[simp] theorem setNode_params (n : Nat) (r : NodeRecord) (s : State) : (s.setNode n r).params = s.params := by unfold State.setNode; dsimp only; split <;> rfl
@[simp] theorem setNode_faults (n : Nat) (r : NodeRecord) (s : State) : (s.setNode n r).faults = s.faults := by unfold State.setNode; dsimp only; split <;> rfl
@[simp] theorem setNode_counters (n : Nat) (r : NodeRecord) (s : State) : (s.setNode n r).counters = s.counters := by unfold State.setNode; dsimp only; split <;> rfl
@[simp] theorem setNode_timer (n : Nat) (r : NodeRecord) (s : State) : (s.setNode n r).timer = s.timer := by unfold State.setNode; dsimp only; split <;> rfl
@[simp] theorem setNode_pending (n : Nat) (r : NodeRecord) (s : State) : (s.setNode n r).pending = s.pending := by unfold State.setNode; dsimp only; split <;> rfl

@[simp] theorem setScanRecord_inReset (i : Nat) (r : ScanState) (s : State) : (s.setScanRecord i r).inReset = s.inReset := rfl
@[simp] theorem setScanRecord_portU (i : Nat) (r : ScanState) (s : State) : (s.setScanRecord i r).portU = s.portU := rfl
@[simp] theorem setScanRecord_portD (i : Nat) (r : ScanState) (s : State) : (s.setScanRecord i r).portD = s.portD := rfl
@[simp] theorem setScanRecord_position (i : Nat) (r : ScanState) (s : State) : (s.setScanRecord i r).position = s.position := rfl
@[simp] theorem setScanRecord_chainEnd (i : Nat) (r : ScanState) (s : State) : (s.setScanRecord i r).chainEnd = s.chainEnd := rfl
@[simp] theorem setScanRecord_otq (i : Nat) (r : ScanState) (s : State) : (s.setScanRecord i r).otq = s.otq := rfl
@[simp] theorem setScanRecord_htq (i : Nat) (r : ScanState) (s : State) : (s.setScanRecord i r).htq = s.htq := rfl
@[simp] theorem setScanRecord_inbox (i : Nat) (r : ScanState) (s : State) : (s.setScanRecord i r).inbox = s.inbox := rfl
@[simp] theorem setScanRecord_uTx (i : Nat) (r : ScanState) (s : State) : (s.setScanRecord i r).uTx = s.uTx := rfl
@[simp] theorem setScanRecord_dTx (i : Nat) (r : ScanState) (s : State) : (s.setScanRecord i r).dTx = s.dTx := rfl
@[simp] theorem setScanRecord_streak (i : Nat) (r : ScanState) (s : State) : (s.setScanRecord i r).streak = s.streak := rfl
@[simp] theorem setScanRecord_loq (i : Nat) (r : ScanState) (s : State) : (s.setScanRecord i r).loq = s.loq := rfl
@[simp] theorem setScanRecord_notice (i : Nat) (r : ScanState) (s : State) : (s.setScanRecord i r).notice = s.notice := rfl
@[simp] theorem setScanRecord_queue (i : Nat) (r : ScanState) (s : State) : (s.setScanRecord i r).queue = s.queue := rfl
@[simp] theorem setScanRecord_dlc (i : Nat) (r : ScanState) (s : State) : (s.setScanRecord i r).dlc = s.dlc := rfl
@[simp] theorem setScanRecord_nodes (i : Nat) (r : ScanState) (s : State) : (s.setScanRecord i r).nodes = s.nodes := rfl
@[simp] theorem setScanRecord_bank0 (i : Nat) (r : ScanState) (s : State) : (s.setScanRecord i r).bank0 = s.bank0 := rfl
@[simp] theorem setScanRecord_bank1 (i : Nat) (r : ScanState) (s : State) : (s.setScanRecord i r).bank1 = s.bank1 := rfl
@[simp] theorem setScanRecord_activeBank (i : Nat) (r : ScanState) (s : State) : (s.setScanRecord i r).activeBank = s.activeBank := rfl
@[simp] theorem setScanRecord_epoch (i : Nat) (r : ScanState) (s : State) : (s.setScanRecord i r).epoch = s.epoch := rfl
@[simp] theorem setScanRecord_commit (i : Nat) (r : ScanState) (s : State) : (s.setScanRecord i r).commit = s.commit := rfl
@[simp] theorem setScanRecord_params (i : Nat) (r : ScanState) (s : State) : (s.setScanRecord i r).params = s.params := rfl
@[simp] theorem setScanRecord_faults (i : Nat) (r : ScanState) (s : State) : (s.setScanRecord i r).faults = s.faults := rfl
@[simp] theorem setScanRecord_counters (i : Nat) (r : ScanState) (s : State) : (s.setScanRecord i r).counters = s.counters := rfl
@[simp] theorem setScanRecord_timer (i : Nat) (r : ScanState) (s : State) : (s.setScanRecord i r).timer = s.timer := rfl
@[simp] theorem setScanRecord_pending (i : Nat) (r : ScanState) (s : State) : (s.setScanRecord i r).pending = s.pending := rfl

@[simp] theorem missDue_inReset (i : Nat) (s : State) : (s.missDue i).inReset = s.inReset := rfl
@[simp] theorem missDue_portU (i : Nat) (s : State) : (s.missDue i).portU = s.portU := rfl
@[simp] theorem missDue_portD (i : Nat) (s : State) : (s.missDue i).portD = s.portD := rfl
@[simp] theorem missDue_position (i : Nat) (s : State) : (s.missDue i).position = s.position := rfl
@[simp] theorem missDue_chainEnd (i : Nat) (s : State) : (s.missDue i).chainEnd = s.chainEnd := rfl
@[simp] theorem missDue_otq (i : Nat) (s : State) : (s.missDue i).otq = s.otq := rfl
@[simp] theorem missDue_htq (i : Nat) (s : State) : (s.missDue i).htq = s.htq := rfl
@[simp] theorem missDue_inbox (i : Nat) (s : State) : (s.missDue i).inbox = s.inbox := rfl
@[simp] theorem missDue_uTx (i : Nat) (s : State) : (s.missDue i).uTx = s.uTx := rfl
@[simp] theorem missDue_dTx (i : Nat) (s : State) : (s.missDue i).dTx = s.dTx := rfl
@[simp] theorem missDue_streak (i : Nat) (s : State) : (s.missDue i).streak = s.streak := rfl
@[simp] theorem missDue_loq (i : Nat) (s : State) : (s.missDue i).loq = s.loq := rfl
@[simp] theorem missDue_notice (i : Nat) (s : State) : (s.missDue i).notice = s.notice := rfl
@[simp] theorem missDue_queue (i : Nat) (s : State) : (s.missDue i).queue = s.queue := rfl
@[simp] theorem missDue_dlc (i : Nat) (s : State) : (s.missDue i).dlc = s.dlc := rfl
@[simp] theorem missDue_nodes (i : Nat) (s : State) : (s.missDue i).nodes = s.nodes := rfl
@[simp] theorem missDue_bank0 (i : Nat) (s : State) : (s.missDue i).bank0 = s.bank0 := rfl
@[simp] theorem missDue_bank1 (i : Nat) (s : State) : (s.missDue i).bank1 = s.bank1 := rfl
@[simp] theorem missDue_activeBank (i : Nat) (s : State) : (s.missDue i).activeBank = s.activeBank := rfl
@[simp] theorem missDue_epoch (i : Nat) (s : State) : (s.missDue i).epoch = s.epoch := rfl
@[simp] theorem missDue_commit (i : Nat) (s : State) : (s.missDue i).commit = s.commit := rfl
@[simp] theorem missDue_params (i : Nat) (s : State) : (s.missDue i).params = s.params := rfl
@[simp] theorem missDue_faults (i : Nat) (s : State) : (s.missDue i).faults = s.faults := rfl
@[simp] theorem missDue_timer (i : Nat) (s : State) : (s.missDue i).timer = s.timer := rfl
@[simp] theorem missDue_pending (i : Nat) (s : State) : (s.missDue i).pending = s.pending := rfl

@[simp] theorem dropRetired_inReset (s : State) : (s.dropRetired).inReset = s.inReset := rfl
@[simp] theorem dropRetired_portU (s : State) : (s.dropRetired).portU = s.portU := rfl
@[simp] theorem dropRetired_portD (s : State) : (s.dropRetired).portD = s.portD := rfl
@[simp] theorem dropRetired_position (s : State) : (s.dropRetired).position = s.position := rfl
@[simp] theorem dropRetired_chainEnd (s : State) : (s.dropRetired).chainEnd = s.chainEnd := rfl
@[simp] theorem dropRetired_otq (s : State) : (s.dropRetired).otq = s.otq := rfl
@[simp] theorem dropRetired_htq (s : State) : (s.dropRetired).htq = s.htq := rfl
@[simp] theorem dropRetired_inbox (s : State) : (s.dropRetired).inbox = s.inbox := rfl
@[simp] theorem dropRetired_uTx (s : State) : (s.dropRetired).uTx = s.uTx := rfl
@[simp] theorem dropRetired_dTx (s : State) : (s.dropRetired).dTx = s.dTx := rfl
@[simp] theorem dropRetired_streak (s : State) : (s.dropRetired).streak = s.streak := rfl
@[simp] theorem dropRetired_loq (s : State) : (s.dropRetired).loq = s.loq := rfl
@[simp] theorem dropRetired_notice (s : State) : (s.dropRetired).notice = s.notice := rfl
@[simp] theorem dropRetired_queue (s : State) : (s.dropRetired).queue = s.queue := rfl
@[simp] theorem dropRetired_dlc (s : State) : (s.dropRetired).dlc = s.dlc := rfl
@[simp] theorem dropRetired_nodes (s : State) : (s.dropRetired).nodes = s.nodes := rfl
@[simp] theorem dropRetired_bank0 (s : State) : (s.dropRetired).bank0 = s.bank0 := rfl
@[simp] theorem dropRetired_bank1 (s : State) : (s.dropRetired).bank1 = s.bank1 := rfl
@[simp] theorem dropRetired_activeBank (s : State) : (s.dropRetired).activeBank = s.activeBank := rfl
@[simp] theorem dropRetired_epoch (s : State) : (s.dropRetired).epoch = s.epoch := rfl
@[simp] theorem dropRetired_commit (s : State) : (s.dropRetired).commit = s.commit := rfl
@[simp] theorem dropRetired_params (s : State) : (s.dropRetired).params = s.params := rfl
@[simp] theorem dropRetired_faults (s : State) : (s.dropRetired).faults = s.faults := rfl
@[simp] theorem dropRetired_counters (s : State) : (s.dropRetired).counters = s.counters := rfl
@[simp] theorem dropRetired_timer (s : State) : (s.dropRetired).timer = s.timer := rfl
@[simp] theorem dropRetired_pending (s : State) : (s.dropRetired).pending = s.pending := rfl

@[simp] theorem startScanTime_inReset (s : State) : (s.startScanTime).inReset = s.inReset := rfl
@[simp] theorem startScanTime_portU (s : State) : (s.startScanTime).portU = s.portU := rfl
@[simp] theorem startScanTime_portD (s : State) : (s.startScanTime).portD = s.portD := rfl
@[simp] theorem startScanTime_position (s : State) : (s.startScanTime).position = s.position := rfl
@[simp] theorem startScanTime_chainEnd (s : State) : (s.startScanTime).chainEnd = s.chainEnd := rfl
@[simp] theorem startScanTime_otq (s : State) : (s.startScanTime).otq = s.otq := rfl
@[simp] theorem startScanTime_htq (s : State) : (s.startScanTime).htq = s.htq := rfl
@[simp] theorem startScanTime_inbox (s : State) : (s.startScanTime).inbox = s.inbox := rfl
@[simp] theorem startScanTime_uTx (s : State) : (s.startScanTime).uTx = s.uTx := rfl
@[simp] theorem startScanTime_dTx (s : State) : (s.startScanTime).dTx = s.dTx := rfl
@[simp] theorem startScanTime_streak (s : State) : (s.startScanTime).streak = s.streak := rfl
@[simp] theorem startScanTime_loq (s : State) : (s.startScanTime).loq = s.loq := rfl
@[simp] theorem startScanTime_notice (s : State) : (s.startScanTime).notice = s.notice := rfl
@[simp] theorem startScanTime_queue (s : State) : (s.startScanTime).queue = s.queue := rfl
@[simp] theorem startScanTime_dlc (s : State) : (s.startScanTime).dlc = s.dlc := rfl
@[simp] theorem startScanTime_nodes (s : State) : (s.startScanTime).nodes = s.nodes := rfl
@[simp] theorem startScanTime_bank0 (s : State) : (s.startScanTime).bank0 = s.bank0 := rfl
@[simp] theorem startScanTime_bank1 (s : State) : (s.startScanTime).bank1 = s.bank1 := rfl
@[simp] theorem startScanTime_activeBank (s : State) : (s.startScanTime).activeBank = s.activeBank := rfl
@[simp] theorem startScanTime_epoch (s : State) : (s.startScanTime).epoch = s.epoch := rfl
@[simp] theorem startScanTime_commit (s : State) : (s.startScanTime).commit = s.commit := rfl
@[simp] theorem startScanTime_params (s : State) : (s.startScanTime).params = s.params := rfl
@[simp] theorem startScanTime_faults (s : State) : (s.startScanTime).faults = s.faults := rfl
@[simp] theorem startScanTime_counters (s : State) : (s.startScanTime).counters = s.counters := rfl
@[simp] theorem startScanTime_timer (s : State) : (s.startScanTime).timer = s.timer := rfl
@[simp] theorem startScanTime_pending (s : State) : (s.startScanTime).pending = s.pending := rfl

@[simp] theorem clearScanRecords_inReset (s : State) : (s.clearScanRecords).inReset = s.inReset := rfl
@[simp] theorem clearScanRecords_portU (s : State) : (s.clearScanRecords).portU = s.portU := rfl
@[simp] theorem clearScanRecords_portD (s : State) : (s.clearScanRecords).portD = s.portD := rfl
@[simp] theorem clearScanRecords_position (s : State) : (s.clearScanRecords).position = s.position := rfl
@[simp] theorem clearScanRecords_chainEnd (s : State) : (s.clearScanRecords).chainEnd = s.chainEnd := rfl
@[simp] theorem clearScanRecords_otq (s : State) : (s.clearScanRecords).otq = s.otq := rfl
@[simp] theorem clearScanRecords_htq (s : State) : (s.clearScanRecords).htq = s.htq := rfl
@[simp] theorem clearScanRecords_inbox (s : State) : (s.clearScanRecords).inbox = s.inbox := rfl
@[simp] theorem clearScanRecords_uTx (s : State) : (s.clearScanRecords).uTx = s.uTx := rfl
@[simp] theorem clearScanRecords_dTx (s : State) : (s.clearScanRecords).dTx = s.dTx := rfl
@[simp] theorem clearScanRecords_streak (s : State) : (s.clearScanRecords).streak = s.streak := rfl
@[simp] theorem clearScanRecords_loq (s : State) : (s.clearScanRecords).loq = s.loq := rfl
@[simp] theorem clearScanRecords_notice (s : State) : (s.clearScanRecords).notice = s.notice := rfl
@[simp] theorem clearScanRecords_queue (s : State) : (s.clearScanRecords).queue = s.queue := rfl
@[simp] theorem clearScanRecords_dlc (s : State) : (s.clearScanRecords).dlc = s.dlc := rfl
@[simp] theorem clearScanRecords_nodes (s : State) : (s.clearScanRecords).nodes = s.nodes := rfl
@[simp] theorem clearScanRecords_bank0 (s : State) : (s.clearScanRecords).bank0 = s.bank0 := rfl
@[simp] theorem clearScanRecords_bank1 (s : State) : (s.clearScanRecords).bank1 = s.bank1 := rfl
@[simp] theorem clearScanRecords_activeBank (s : State) : (s.clearScanRecords).activeBank = s.activeBank := rfl
@[simp] theorem clearScanRecords_epoch (s : State) : (s.clearScanRecords).epoch = s.epoch := rfl
@[simp] theorem clearScanRecords_commit (s : State) : (s.clearScanRecords).commit = s.commit := rfl
@[simp] theorem clearScanRecords_params (s : State) : (s.clearScanRecords).params = s.params := rfl
@[simp] theorem clearScanRecords_faults (s : State) : (s.clearScanRecords).faults = s.faults := rfl
@[simp] theorem clearScanRecords_counters (s : State) : (s.clearScanRecords).counters = s.counters := rfl
@[simp] theorem clearScanRecords_timer (s : State) : (s.clearScanRecords).timer = s.timer := rfl
@[simp] theorem clearScanRecords_pending (s : State) : (s.clearScanRecords).pending = s.pending := rfl

@[simp] theorem clearQueuedFlags_inReset (s : State) : (s.clearQueuedFlags).inReset = s.inReset := rfl
@[simp] theorem clearQueuedFlags_portU (s : State) : (s.clearQueuedFlags).portU = s.portU := rfl
@[simp] theorem clearQueuedFlags_portD (s : State) : (s.clearQueuedFlags).portD = s.portD := rfl
@[simp] theorem clearQueuedFlags_position (s : State) : (s.clearQueuedFlags).position = s.position := rfl
@[simp] theorem clearQueuedFlags_chainEnd (s : State) : (s.clearQueuedFlags).chainEnd = s.chainEnd := rfl
@[simp] theorem clearQueuedFlags_otq (s : State) : (s.clearQueuedFlags).otq = s.otq := rfl
@[simp] theorem clearQueuedFlags_htq (s : State) : (s.clearQueuedFlags).htq = s.htq := rfl
@[simp] theorem clearQueuedFlags_inbox (s : State) : (s.clearQueuedFlags).inbox = s.inbox := rfl
@[simp] theorem clearQueuedFlags_uTx (s : State) : (s.clearQueuedFlags).uTx = s.uTx := rfl
@[simp] theorem clearQueuedFlags_dTx (s : State) : (s.clearQueuedFlags).dTx = s.dTx := rfl
@[simp] theorem clearQueuedFlags_streak (s : State) : (s.clearQueuedFlags).streak = s.streak := rfl
@[simp] theorem clearQueuedFlags_loq (s : State) : (s.clearQueuedFlags).loq = s.loq := rfl
@[simp] theorem clearQueuedFlags_notice (s : State) : (s.clearQueuedFlags).notice = s.notice := rfl
@[simp] theorem clearQueuedFlags_queue (s : State) : (s.clearQueuedFlags).queue = s.queue := rfl
@[simp] theorem clearQueuedFlags_dlc (s : State) : (s.clearQueuedFlags).dlc = s.dlc := rfl
@[simp] theorem clearQueuedFlags_nodes (s : State) : (s.clearQueuedFlags).nodes = s.nodes := rfl
@[simp] theorem clearQueuedFlags_bank0 (s : State) : (s.clearQueuedFlags).bank0 = s.bank0 := rfl
@[simp] theorem clearQueuedFlags_bank1 (s : State) : (s.clearQueuedFlags).bank1 = s.bank1 := rfl
@[simp] theorem clearQueuedFlags_activeBank (s : State) : (s.clearQueuedFlags).activeBank = s.activeBank := rfl
@[simp] theorem clearQueuedFlags_epoch (s : State) : (s.clearQueuedFlags).epoch = s.epoch := rfl
@[simp] theorem clearQueuedFlags_commit (s : State) : (s.clearQueuedFlags).commit = s.commit := rfl
@[simp] theorem clearQueuedFlags_params (s : State) : (s.clearQueuedFlags).params = s.params := rfl
@[simp] theorem clearQueuedFlags_faults (s : State) : (s.clearQueuedFlags).faults = s.faults := rfl
@[simp] theorem clearQueuedFlags_counters (s : State) : (s.clearQueuedFlags).counters = s.counters := rfl
@[simp] theorem clearQueuedFlags_timer (s : State) : (s.clearQueuedFlags).timer = s.timer := rfl
@[simp] theorem clearQueuedFlags_pending (s : State) : (s.clearQueuedFlags).pending = s.pending := rfl

@[simp] theorem enterGuard_inReset (n : Nat) (s : State) : (s.enterGuard n).inReset = s.inReset := rfl
@[simp] theorem enterGuard_portU (n : Nat) (s : State) : (s.enterGuard n).portU = s.portU := rfl
@[simp] theorem enterGuard_portD (n : Nat) (s : State) : (s.enterGuard n).portD = s.portD := rfl
@[simp] theorem enterGuard_position (n : Nat) (s : State) : (s.enterGuard n).position = s.position := rfl
@[simp] theorem enterGuard_chainEnd (n : Nat) (s : State) : (s.enterGuard n).chainEnd = s.chainEnd := rfl
@[simp] theorem enterGuard_otq (n : Nat) (s : State) : (s.enterGuard n).otq = s.otq := rfl
@[simp] theorem enterGuard_htq (n : Nat) (s : State) : (s.enterGuard n).htq = s.htq := rfl
@[simp] theorem enterGuard_inbox (n : Nat) (s : State) : (s.enterGuard n).inbox = s.inbox := rfl
@[simp] theorem enterGuard_uTx (n : Nat) (s : State) : (s.enterGuard n).uTx = s.uTx := rfl
@[simp] theorem enterGuard_dTx (n : Nat) (s : State) : (s.enterGuard n).dTx = s.dTx := rfl
@[simp] theorem enterGuard_streak (n : Nat) (s : State) : (s.enterGuard n).streak = s.streak := rfl
@[simp] theorem enterGuard_loq (n : Nat) (s : State) : (s.enterGuard n).loq = s.loq := rfl
@[simp] theorem enterGuard_notice (n : Nat) (s : State) : (s.enterGuard n).notice = s.notice := rfl
@[simp] theorem enterGuard_queue (n : Nat) (s : State) : (s.enterGuard n).queue = s.queue := rfl
@[simp] theorem enterGuard_nodes (n : Nat) (s : State) : (s.enterGuard n).nodes = s.nodes := rfl
@[simp] theorem enterGuard_bank0 (n : Nat) (s : State) : (s.enterGuard n).bank0 = s.bank0 := rfl
@[simp] theorem enterGuard_bank1 (n : Nat) (s : State) : (s.enterGuard n).bank1 = s.bank1 := rfl
@[simp] theorem enterGuard_activeBank (n : Nat) (s : State) : (s.enterGuard n).activeBank = s.activeBank := rfl
@[simp] theorem enterGuard_epoch (n : Nat) (s : State) : (s.enterGuard n).epoch = s.epoch := rfl
@[simp] theorem enterGuard_commit (n : Nat) (s : State) : (s.enterGuard n).commit = s.commit := rfl
@[simp] theorem enterGuard_scan (n : Nat) (s : State) : (s.enterGuard n).scan = s.scan := rfl
@[simp] theorem enterGuard_params (n : Nat) (s : State) : (s.enterGuard n).params = s.params := rfl
@[simp] theorem enterGuard_faults (n : Nat) (s : State) : (s.enterGuard n).faults = s.faults := rfl
@[simp] theorem enterGuard_counters (n : Nat) (s : State) : (s.enterGuard n).counters = s.counters := rfl
@[simp] theorem enterGuard_timer (n : Nat) (s : State) : (s.enterGuard n).timer = s.timer := rfl
@[simp] theorem enterGuard_pending (n : Nat) (s : State) : (s.enterGuard n).pending = s.pending := rfl

@[simp] theorem enterIdle_inReset (s : State) : (s.enterIdle).inReset = s.inReset := rfl
@[simp] theorem enterIdle_portU (s : State) : (s.enterIdle).portU = s.portU := rfl
@[simp] theorem enterIdle_portD (s : State) : (s.enterIdle).portD = s.portD := rfl
@[simp] theorem enterIdle_position (s : State) : (s.enterIdle).position = s.position := rfl
@[simp] theorem enterIdle_chainEnd (s : State) : (s.enterIdle).chainEnd = s.chainEnd := rfl
@[simp] theorem enterIdle_otq (s : State) : (s.enterIdle).otq = s.otq := rfl
@[simp] theorem enterIdle_htq (s : State) : (s.enterIdle).htq = s.htq := rfl
@[simp] theorem enterIdle_inbox (s : State) : (s.enterIdle).inbox = s.inbox := rfl
@[simp] theorem enterIdle_uTx (s : State) : (s.enterIdle).uTx = s.uTx := rfl
@[simp] theorem enterIdle_dTx (s : State) : (s.enterIdle).dTx = s.dTx := rfl
@[simp] theorem enterIdle_streak (s : State) : (s.enterIdle).streak = s.streak := rfl
@[simp] theorem enterIdle_loq (s : State) : (s.enterIdle).loq = s.loq := rfl
@[simp] theorem enterIdle_notice (s : State) : (s.enterIdle).notice = s.notice := rfl
@[simp] theorem enterIdle_queue (s : State) : (s.enterIdle).queue = s.queue := rfl
@[simp] theorem enterIdle_nodes (s : State) : (s.enterIdle).nodes = s.nodes := rfl
@[simp] theorem enterIdle_bank0 (s : State) : (s.enterIdle).bank0 = s.bank0 := rfl
@[simp] theorem enterIdle_bank1 (s : State) : (s.enterIdle).bank1 = s.bank1 := rfl
@[simp] theorem enterIdle_activeBank (s : State) : (s.enterIdle).activeBank = s.activeBank := rfl
@[simp] theorem enterIdle_epoch (s : State) : (s.enterIdle).epoch = s.epoch := rfl
@[simp] theorem enterIdle_commit (s : State) : (s.enterIdle).commit = s.commit := rfl
@[simp] theorem enterIdle_scan (s : State) : (s.enterIdle).scan = s.scan := rfl
@[simp] theorem enterIdle_params (s : State) : (s.enterIdle).params = s.params := rfl
@[simp] theorem enterIdle_faults (s : State) : (s.enterIdle).faults = s.faults := rfl
@[simp] theorem enterIdle_counters (s : State) : (s.enterIdle).counters = s.counters := rfl
@[simp] theorem enterIdle_timer (s : State) : (s.enterIdle).timer = s.timer := rfl
@[simp] theorem enterIdle_pending (s : State) : (s.enterIdle).pending = s.pending := rfl

@[simp] theorem enterHalted_inReset (s : State) : (s.enterHalted).inReset = s.inReset := rfl
@[simp] theorem enterHalted_portU (s : State) : (s.enterHalted).portU = s.portU := rfl
@[simp] theorem enterHalted_portD (s : State) : (s.enterHalted).portD = s.portD := rfl
@[simp] theorem enterHalted_position (s : State) : (s.enterHalted).position = s.position := rfl
@[simp] theorem enterHalted_chainEnd (s : State) : (s.enterHalted).chainEnd = s.chainEnd := rfl
@[simp] theorem enterHalted_otq (s : State) : (s.enterHalted).otq = s.otq := rfl
@[simp] theorem enterHalted_htq (s : State) : (s.enterHalted).htq = s.htq := rfl
@[simp] theorem enterHalted_inbox (s : State) : (s.enterHalted).inbox = s.inbox := rfl
@[simp] theorem enterHalted_uTx (s : State) : (s.enterHalted).uTx = s.uTx := rfl
@[simp] theorem enterHalted_dTx (s : State) : (s.enterHalted).dTx = s.dTx := rfl
@[simp] theorem enterHalted_streak (s : State) : (s.enterHalted).streak = s.streak := rfl
@[simp] theorem enterHalted_loq (s : State) : (s.enterHalted).loq = s.loq := rfl
@[simp] theorem enterHalted_notice (s : State) : (s.enterHalted).notice = s.notice := rfl
@[simp] theorem enterHalted_queue (s : State) : (s.enterHalted).queue = s.queue := rfl
@[simp] theorem enterHalted_nodes (s : State) : (s.enterHalted).nodes = s.nodes := rfl
@[simp] theorem enterHalted_bank0 (s : State) : (s.enterHalted).bank0 = s.bank0 := rfl
@[simp] theorem enterHalted_bank1 (s : State) : (s.enterHalted).bank1 = s.bank1 := rfl
@[simp] theorem enterHalted_activeBank (s : State) : (s.enterHalted).activeBank = s.activeBank := rfl
@[simp] theorem enterHalted_epoch (s : State) : (s.enterHalted).epoch = s.epoch := rfl
@[simp] theorem enterHalted_commit (s : State) : (s.enterHalted).commit = s.commit := rfl
@[simp] theorem enterHalted_scan (s : State) : (s.enterHalted).scan = s.scan := rfl
@[simp] theorem enterHalted_params (s : State) : (s.enterHalted).params = s.params := rfl
@[simp] theorem enterHalted_faults (s : State) : (s.enterHalted).faults = s.faults := rfl
@[simp] theorem enterHalted_counters (s : State) : (s.enterHalted).counters = s.counters := rfl
@[simp] theorem enterHalted_timer (s : State) : (s.enterHalted).timer = s.timer := rfl
@[simp] theorem enterHalted_pending (s : State) : (s.enterHalted).pending = s.pending := rfl

@[simp] theorem leaveGuard_inReset (s : State) : (s.leaveGuard).inReset = s.inReset := by unfold State.leaveGuard; split <;> rfl
@[simp] theorem leaveGuard_portU (s : State) : (s.leaveGuard).portU = s.portU := by unfold State.leaveGuard; split <;> rfl
@[simp] theorem leaveGuard_portD (s : State) : (s.leaveGuard).portD = s.portD := by unfold State.leaveGuard; split <;> rfl
@[simp] theorem leaveGuard_position (s : State) : (s.leaveGuard).position = s.position := by unfold State.leaveGuard; split <;> rfl
@[simp] theorem leaveGuard_chainEnd (s : State) : (s.leaveGuard).chainEnd = s.chainEnd := by unfold State.leaveGuard; split <;> rfl
@[simp] theorem leaveGuard_otq (s : State) : (s.leaveGuard).otq = s.otq := by unfold State.leaveGuard; split <;> rfl
@[simp] theorem leaveGuard_htq (s : State) : (s.leaveGuard).htq = s.htq := by unfold State.leaveGuard; split <;> rfl
@[simp] theorem leaveGuard_inbox (s : State) : (s.leaveGuard).inbox = s.inbox := by unfold State.leaveGuard; split <;> rfl
@[simp] theorem leaveGuard_uTx (s : State) : (s.leaveGuard).uTx = s.uTx := by unfold State.leaveGuard; split <;> rfl
@[simp] theorem leaveGuard_dTx (s : State) : (s.leaveGuard).dTx = s.dTx := by unfold State.leaveGuard; split <;> rfl
@[simp] theorem leaveGuard_streak (s : State) : (s.leaveGuard).streak = s.streak := by unfold State.leaveGuard; split <;> rfl
@[simp] theorem leaveGuard_loq (s : State) : (s.leaveGuard).loq = s.loq := by unfold State.leaveGuard; split <;> rfl
@[simp] theorem leaveGuard_notice (s : State) : (s.leaveGuard).notice = s.notice := by unfold State.leaveGuard; split <;> rfl
@[simp] theorem leaveGuard_queue (s : State) : (s.leaveGuard).queue = s.queue := by unfold State.leaveGuard; split <;> rfl
@[simp] theorem leaveGuard_nodes (s : State) : (s.leaveGuard).nodes = s.nodes := by unfold State.leaveGuard; split <;> rfl
@[simp] theorem leaveGuard_bank0 (s : State) : (s.leaveGuard).bank0 = s.bank0 := by unfold State.leaveGuard; split <;> rfl
@[simp] theorem leaveGuard_bank1 (s : State) : (s.leaveGuard).bank1 = s.bank1 := by unfold State.leaveGuard; split <;> rfl
@[simp] theorem leaveGuard_activeBank (s : State) : (s.leaveGuard).activeBank = s.activeBank := by unfold State.leaveGuard; split <;> rfl
@[simp] theorem leaveGuard_epoch (s : State) : (s.leaveGuard).epoch = s.epoch := by unfold State.leaveGuard; split <;> rfl
@[simp] theorem leaveGuard_commit (s : State) : (s.leaveGuard).commit = s.commit := by unfold State.leaveGuard; split <;> rfl
@[simp] theorem leaveGuard_scan (s : State) : (s.leaveGuard).scan = s.scan := by unfold State.leaveGuard; split <;> rfl
@[simp] theorem leaveGuard_params (s : State) : (s.leaveGuard).params = s.params := by unfold State.leaveGuard; split <;> rfl
@[simp] theorem leaveGuard_faults (s : State) : (s.leaveGuard).faults = s.faults := by unfold State.leaveGuard; split <;> rfl
@[simp] theorem leaveGuard_counters (s : State) : (s.leaveGuard).counters = s.counters := by unfold State.leaveGuard; split <;> rfl
@[simp] theorem leaveGuard_timer (s : State) : (s.leaveGuard).timer = s.timer := by unfold State.leaveGuard; split <;> rfl
@[simp] theorem leaveGuard_pending (s : State) : (s.leaveGuard).pending = s.pending := by unfold State.leaveGuard; split <;> rfl

@[simp] theorem setInflight_inReset (x : Option Exchange) (s : State) : (s.setInflight x).inReset = s.inReset := rfl
@[simp] theorem setInflight_portU (x : Option Exchange) (s : State) : (s.setInflight x).portU = s.portU := rfl
@[simp] theorem setInflight_portD (x : Option Exchange) (s : State) : (s.setInflight x).portD = s.portD := rfl
@[simp] theorem setInflight_position (x : Option Exchange) (s : State) : (s.setInflight x).position = s.position := rfl
@[simp] theorem setInflight_chainEnd (x : Option Exchange) (s : State) : (s.setInflight x).chainEnd = s.chainEnd := rfl
@[simp] theorem setInflight_otq (x : Option Exchange) (s : State) : (s.setInflight x).otq = s.otq := rfl
@[simp] theorem setInflight_htq (x : Option Exchange) (s : State) : (s.setInflight x).htq = s.htq := rfl
@[simp] theorem setInflight_inbox (x : Option Exchange) (s : State) : (s.setInflight x).inbox = s.inbox := rfl
@[simp] theorem setInflight_uTx (x : Option Exchange) (s : State) : (s.setInflight x).uTx = s.uTx := rfl
@[simp] theorem setInflight_dTx (x : Option Exchange) (s : State) : (s.setInflight x).dTx = s.dTx := rfl
@[simp] theorem setInflight_streak (x : Option Exchange) (s : State) : (s.setInflight x).streak = s.streak := rfl
@[simp] theorem setInflight_loq (x : Option Exchange) (s : State) : (s.setInflight x).loq = s.loq := rfl
@[simp] theorem setInflight_notice (x : Option Exchange) (s : State) : (s.setInflight x).notice = s.notice := rfl
@[simp] theorem setInflight_queue (x : Option Exchange) (s : State) : (s.setInflight x).queue = s.queue := rfl
@[simp] theorem setInflight_nodes (x : Option Exchange) (s : State) : (s.setInflight x).nodes = s.nodes := rfl
@[simp] theorem setInflight_bank0 (x : Option Exchange) (s : State) : (s.setInflight x).bank0 = s.bank0 := rfl
@[simp] theorem setInflight_bank1 (x : Option Exchange) (s : State) : (s.setInflight x).bank1 = s.bank1 := rfl
@[simp] theorem setInflight_activeBank (x : Option Exchange) (s : State) : (s.setInflight x).activeBank = s.activeBank := rfl
@[simp] theorem setInflight_epoch (x : Option Exchange) (s : State) : (s.setInflight x).epoch = s.epoch := rfl
@[simp] theorem setInflight_commit (x : Option Exchange) (s : State) : (s.setInflight x).commit = s.commit := rfl
@[simp] theorem setInflight_scan (x : Option Exchange) (s : State) : (s.setInflight x).scan = s.scan := rfl
@[simp] theorem setInflight_params (x : Option Exchange) (s : State) : (s.setInflight x).params = s.params := rfl
@[simp] theorem setInflight_faults (x : Option Exchange) (s : State) : (s.setInflight x).faults = s.faults := rfl
@[simp] theorem setInflight_counters (x : Option Exchange) (s : State) : (s.setInflight x).counters = s.counters := rfl
@[simp] theorem setInflight_timer (x : Option Exchange) (s : State) : (s.setInflight x).timer = s.timer := rfl
@[simp] theorem setInflight_pending (x : Option Exchange) (s : State) : (s.setInflight x).pending = s.pending := rfl


/-! ### Ticks.lean -/

@[simp] theorem countTick_inReset (s : State) : (s.countTick).inReset = s.inReset := rfl
@[simp] theorem countTick_portU (s : State) : (s.countTick).portU = s.portU := rfl
@[simp] theorem countTick_portD (s : State) : (s.countTick).portD = s.portD := rfl
@[simp] theorem countTick_position (s : State) : (s.countTick).position = s.position := rfl
@[simp] theorem countTick_chainEnd (s : State) : (s.countTick).chainEnd = s.chainEnd := rfl
@[simp] theorem countTick_otq (s : State) : (s.countTick).otq = s.otq := rfl
@[simp] theorem countTick_htq (s : State) : (s.countTick).htq = s.htq := rfl
@[simp] theorem countTick_inbox (s : State) : (s.countTick).inbox = s.inbox := rfl
@[simp] theorem countTick_uTx (s : State) : (s.countTick).uTx = s.uTx := rfl
@[simp] theorem countTick_dTx (s : State) : (s.countTick).dTx = s.dTx := rfl
@[simp] theorem countTick_streak (s : State) : (s.countTick).streak = s.streak := rfl
@[simp] theorem countTick_loq (s : State) : (s.countTick).loq = s.loq := rfl
@[simp] theorem countTick_notice (s : State) : (s.countTick).notice = s.notice := rfl
@[simp] theorem countTick_queue (s : State) : (s.countTick).queue = s.queue := rfl
@[simp] theorem countTick_dlc (s : State) : (s.countTick).dlc = s.dlc := rfl
@[simp] theorem countTick_nodes (s : State) : (s.countTick).nodes = s.nodes := rfl
@[simp] theorem countTick_bank0 (s : State) : (s.countTick).bank0 = s.bank0 := rfl
@[simp] theorem countTick_bank1 (s : State) : (s.countTick).bank1 = s.bank1 := rfl
@[simp] theorem countTick_activeBank (s : State) : (s.countTick).activeBank = s.activeBank := rfl
@[simp] theorem countTick_epoch (s : State) : (s.countTick).epoch = s.epoch := rfl
@[simp] theorem countTick_commit (s : State) : (s.countTick).commit = s.commit := rfl
@[simp] theorem countTick_scan (s : State) : (s.countTick).scan = s.scan := rfl
@[simp] theorem countTick_params (s : State) : (s.countTick).params = s.params := rfl
@[simp] theorem countTick_faults (s : State) : (s.countTick).faults = s.faults := rfl
@[simp] theorem countTick_counters (s : State) : (s.countTick).counters = s.counters := rfl
@[simp] theorem countTick_pending (s : State) : (s.countTick).pending = s.pending := rfl

@[simp] theorem revivalTick_inReset (s : State) : (s.revivalTick).inReset = s.inReset := by unfold State.revivalTick; repeat (first | rfl | split)
@[simp] theorem revivalTick_portU (s : State) : (s.revivalTick).portU = s.portU := by unfold State.revivalTick; repeat (first | rfl | split)
@[simp] theorem revivalTick_portD (s : State) : (s.revivalTick).portD = s.portD := by unfold State.revivalTick; repeat (first | rfl | split)
@[simp] theorem revivalTick_position (s : State) : (s.revivalTick).position = s.position := by unfold State.revivalTick; repeat (first | rfl | split)
@[simp] theorem revivalTick_chainEnd (s : State) : (s.revivalTick).chainEnd = s.chainEnd := by unfold State.revivalTick; repeat (first | rfl | split)
@[simp] theorem revivalTick_otq (s : State) : (s.revivalTick).otq = s.otq := by unfold State.revivalTick; repeat (first | rfl | split)
@[simp] theorem revivalTick_htq (s : State) : (s.revivalTick).htq = s.htq := by unfold State.revivalTick; repeat (first | rfl | split)
@[simp] theorem revivalTick_inbox (s : State) : (s.revivalTick).inbox = s.inbox := by unfold State.revivalTick; repeat (first | rfl | split)
@[simp] theorem revivalTick_uTx (s : State) : (s.revivalTick).uTx = s.uTx := by unfold State.revivalTick; repeat (first | rfl | split)
@[simp] theorem revivalTick_dTx (s : State) : (s.revivalTick).dTx = s.dTx := by unfold State.revivalTick; repeat (first | rfl | split)
@[simp] theorem revivalTick_streak (s : State) : (s.revivalTick).streak = s.streak := by unfold State.revivalTick; repeat (first | rfl | split)
@[simp] theorem revivalTick_loq (s : State) : (s.revivalTick).loq = s.loq := by unfold State.revivalTick; repeat (first | rfl | split)
@[simp] theorem revivalTick_notice (s : State) : (s.revivalTick).notice = s.notice := by unfold State.revivalTick; repeat (first | rfl | split)
@[simp] theorem revivalTick_queue (s : State) : (s.revivalTick).queue = s.queue := by unfold State.revivalTick; repeat (first | rfl | split)
@[simp] theorem revivalTick_dlc (s : State) : (s.revivalTick).dlc = s.dlc := by unfold State.revivalTick; repeat (first | rfl | split)
@[simp] theorem revivalTick_nodes (s : State) : (s.revivalTick).nodes = s.nodes := by unfold State.revivalTick; repeat (first | rfl | split)
@[simp] theorem revivalTick_bank0 (s : State) : (s.revivalTick).bank0 = s.bank0 := by unfold State.revivalTick; repeat (first | rfl | split)
@[simp] theorem revivalTick_bank1 (s : State) : (s.revivalTick).bank1 = s.bank1 := by unfold State.revivalTick; repeat (first | rfl | split)
@[simp] theorem revivalTick_activeBank (s : State) : (s.revivalTick).activeBank = s.activeBank := by unfold State.revivalTick; repeat (first | rfl | split)
@[simp] theorem revivalTick_epoch (s : State) : (s.revivalTick).epoch = s.epoch := by unfold State.revivalTick; repeat (first | rfl | split)
@[simp] theorem revivalTick_commit (s : State) : (s.revivalTick).commit = s.commit := by unfold State.revivalTick; repeat (first | rfl | split)
@[simp] theorem revivalTick_params (s : State) : (s.revivalTick).params = s.params := by unfold State.revivalTick; repeat (first | rfl | split)
@[simp] theorem revivalTick_faults (s : State) : (s.revivalTick).faults = s.faults := by unfold State.revivalTick; repeat (first | rfl | split)
@[simp] theorem revivalTick_counters (s : State) : (s.revivalTick).counters = s.counters := by unfold State.revivalTick; repeat (first | rfl | split)
@[simp] theorem revivalTick_timer (s : State) : (s.revivalTick).timer = s.timer := by unfold State.revivalTick; repeat (first | rfl | split)
@[simp] theorem revivalTick_pending (s : State) : (s.revivalTick).pending = s.pending := by unfold State.revivalTick; repeat (first | rfl | split)

@[simp] theorem holdoffTick_inReset (s : State) : (s.holdoffTick).inReset = s.inReset := rfl
@[simp] theorem holdoffTick_portU (s : State) : (s.holdoffTick).portU = s.portU := rfl
@[simp] theorem holdoffTick_portD (s : State) : (s.holdoffTick).portD = s.portD := rfl
@[simp] theorem holdoffTick_position (s : State) : (s.holdoffTick).position = s.position := rfl
@[simp] theorem holdoffTick_chainEnd (s : State) : (s.holdoffTick).chainEnd = s.chainEnd := rfl
@[simp] theorem holdoffTick_otq (s : State) : (s.holdoffTick).otq = s.otq := rfl
@[simp] theorem holdoffTick_htq (s : State) : (s.holdoffTick).htq = s.htq := rfl
@[simp] theorem holdoffTick_inbox (s : State) : (s.holdoffTick).inbox = s.inbox := rfl
@[simp] theorem holdoffTick_uTx (s : State) : (s.holdoffTick).uTx = s.uTx := rfl
@[simp] theorem holdoffTick_dTx (s : State) : (s.holdoffTick).dTx = s.dTx := rfl
@[simp] theorem holdoffTick_streak (s : State) : (s.holdoffTick).streak = s.streak := rfl
@[simp] theorem holdoffTick_loq (s : State) : (s.holdoffTick).loq = s.loq := rfl
@[simp] theorem holdoffTick_queue (s : State) : (s.holdoffTick).queue = s.queue := rfl
@[simp] theorem holdoffTick_dlc (s : State) : (s.holdoffTick).dlc = s.dlc := rfl
@[simp] theorem holdoffTick_nodes (s : State) : (s.holdoffTick).nodes = s.nodes := rfl
@[simp] theorem holdoffTick_bank0 (s : State) : (s.holdoffTick).bank0 = s.bank0 := rfl
@[simp] theorem holdoffTick_bank1 (s : State) : (s.holdoffTick).bank1 = s.bank1 := rfl
@[simp] theorem holdoffTick_activeBank (s : State) : (s.holdoffTick).activeBank = s.activeBank := rfl
@[simp] theorem holdoffTick_epoch (s : State) : (s.holdoffTick).epoch = s.epoch := rfl
@[simp] theorem holdoffTick_commit (s : State) : (s.holdoffTick).commit = s.commit := rfl
@[simp] theorem holdoffTick_scan (s : State) : (s.holdoffTick).scan = s.scan := rfl
@[simp] theorem holdoffTick_params (s : State) : (s.holdoffTick).params = s.params := rfl
@[simp] theorem holdoffTick_faults (s : State) : (s.holdoffTick).faults = s.faults := rfl
@[simp] theorem holdoffTick_counters (s : State) : (s.holdoffTick).counters = s.counters := rfl
@[simp] theorem holdoffTick_timer (s : State) : (s.holdoffTick).timer = s.timer := rfl
@[simp] theorem holdoffTick_pending (s : State) : (s.holdoffTick).pending = s.pending := rfl

@[simp] theorem scanStep_inReset (s : State) : (s.scanStep).inReset = s.inReset := by unfold State.scanStep; split <;> rfl
@[simp] theorem scanStep_portU (s : State) : (s.scanStep).portU = s.portU := by unfold State.scanStep; split <;> rfl
@[simp] theorem scanStep_portD (s : State) : (s.scanStep).portD = s.portD := by unfold State.scanStep; split <;> rfl
@[simp] theorem scanStep_position (s : State) : (s.scanStep).position = s.position := by unfold State.scanStep; split <;> rfl
@[simp] theorem scanStep_chainEnd (s : State) : (s.scanStep).chainEnd = s.chainEnd := by unfold State.scanStep; split <;> rfl
@[simp] theorem scanStep_otq (s : State) : (s.scanStep).otq = s.otq := by unfold State.scanStep; split <;> rfl
@[simp] theorem scanStep_htq (s : State) : (s.scanStep).htq = s.htq := by unfold State.scanStep; split <;> rfl
@[simp] theorem scanStep_inbox (s : State) : (s.scanStep).inbox = s.inbox := by unfold State.scanStep; split <;> rfl
@[simp] theorem scanStep_uTx (s : State) : (s.scanStep).uTx = s.uTx := by unfold State.scanStep; split <;> rfl
@[simp] theorem scanStep_dTx (s : State) : (s.scanStep).dTx = s.dTx := by unfold State.scanStep; split <;> rfl
@[simp] theorem scanStep_streak (s : State) : (s.scanStep).streak = s.streak := by unfold State.scanStep; split <;> rfl
@[simp] theorem scanStep_loq (s : State) : (s.scanStep).loq = s.loq := by unfold State.scanStep; split <;> rfl
@[simp] theorem scanStep_notice (s : State) : (s.scanStep).notice = s.notice := by unfold State.scanStep; split <;> rfl
@[simp] theorem scanStep_queue (s : State) : (s.scanStep).queue = s.queue := by unfold State.scanStep; split <;> rfl
@[simp] theorem scanStep_dlc (s : State) : (s.scanStep).dlc = s.dlc := by unfold State.scanStep; split <;> rfl
@[simp] theorem scanStep_nodes (s : State) : (s.scanStep).nodes = s.nodes := by unfold State.scanStep; split <;> rfl
@[simp] theorem scanStep_bank0 (s : State) : (s.scanStep).bank0 = s.bank0 := by unfold State.scanStep; split <;> rfl
@[simp] theorem scanStep_bank1 (s : State) : (s.scanStep).bank1 = s.bank1 := by unfold State.scanStep; split <;> rfl
@[simp] theorem scanStep_activeBank (s : State) : (s.scanStep).activeBank = s.activeBank := by unfold State.scanStep; split <;> rfl
@[simp] theorem scanStep_epoch (s : State) : (s.scanStep).epoch = s.epoch := by unfold State.scanStep; split <;> rfl
@[simp] theorem scanStep_commit (s : State) : (s.scanStep).commit = s.commit := by unfold State.scanStep; split <;> rfl
@[simp] theorem scanStep_params (s : State) : (s.scanStep).params = s.params := by unfold State.scanStep; split <;> rfl
@[simp] theorem scanStep_faults (s : State) : (s.scanStep).faults = s.faults := by unfold State.scanStep; split <;> rfl
@[simp] theorem scanStep_counters (s : State) : (s.scanStep).counters = s.counters := by unfold State.scanStep; split <;> rfl
@[simp] theorem scanStep_timer (s : State) : (s.scanStep).timer = s.timer := by unfold State.scanStep; split <;> rfl
@[simp] theorem scanStep_pending (s : State) : (s.scanStep).pending = s.pending := by unfold State.scanStep; split <;> rfl


/-! ### Links.lean -/

@[simp] theorem setPort_inReset (p : PortId) (q : Port) (s : State) : (s.setPort p q).inReset = s.inReset := by cases p <;> rfl
@[simp] theorem setPort_position (p : PortId) (q : Port) (s : State) : (s.setPort p q).position = s.position := by cases p <;> rfl
@[simp] theorem setPort_chainEnd (p : PortId) (q : Port) (s : State) : (s.setPort p q).chainEnd = s.chainEnd := by cases p <;> rfl
@[simp] theorem setPort_otq (p : PortId) (q : Port) (s : State) : (s.setPort p q).otq = s.otq := by cases p <;> rfl
@[simp] theorem setPort_htq (p : PortId) (q : Port) (s : State) : (s.setPort p q).htq = s.htq := by cases p <;> rfl
@[simp] theorem setPort_inbox (p : PortId) (q : Port) (s : State) : (s.setPort p q).inbox = s.inbox := by cases p <;> rfl
@[simp] theorem setPort_uTx (p : PortId) (q : Port) (s : State) : (s.setPort p q).uTx = s.uTx := by cases p <;> rfl
@[simp] theorem setPort_dTx (p : PortId) (q : Port) (s : State) : (s.setPort p q).dTx = s.dTx := by cases p <;> rfl
@[simp] theorem setPort_streak (p : PortId) (q : Port) (s : State) : (s.setPort p q).streak = s.streak := by cases p <;> rfl
@[simp] theorem setPort_loq (p : PortId) (q : Port) (s : State) : (s.setPort p q).loq = s.loq := by cases p <;> rfl
@[simp] theorem setPort_notice (p : PortId) (q : Port) (s : State) : (s.setPort p q).notice = s.notice := by cases p <;> rfl
@[simp] theorem setPort_queue (p : PortId) (q : Port) (s : State) : (s.setPort p q).queue = s.queue := by cases p <;> rfl
@[simp] theorem setPort_dlc (p : PortId) (q : Port) (s : State) : (s.setPort p q).dlc = s.dlc := by cases p <;> rfl
@[simp] theorem setPort_nodes (p : PortId) (q : Port) (s : State) : (s.setPort p q).nodes = s.nodes := by cases p <;> rfl
@[simp] theorem setPort_bank0 (p : PortId) (q : Port) (s : State) : (s.setPort p q).bank0 = s.bank0 := by cases p <;> rfl
@[simp] theorem setPort_bank1 (p : PortId) (q : Port) (s : State) : (s.setPort p q).bank1 = s.bank1 := by cases p <;> rfl
@[simp] theorem setPort_activeBank (p : PortId) (q : Port) (s : State) : (s.setPort p q).activeBank = s.activeBank := by cases p <;> rfl
@[simp] theorem setPort_epoch (p : PortId) (q : Port) (s : State) : (s.setPort p q).epoch = s.epoch := by cases p <;> rfl
@[simp] theorem setPort_commit (p : PortId) (q : Port) (s : State) : (s.setPort p q).commit = s.commit := by cases p <;> rfl
@[simp] theorem setPort_scan (p : PortId) (q : Port) (s : State) : (s.setPort p q).scan = s.scan := by cases p <;> rfl
@[simp] theorem setPort_params (p : PortId) (q : Port) (s : State) : (s.setPort p q).params = s.params := by cases p <;> rfl
@[simp] theorem setPort_faults (p : PortId) (q : Port) (s : State) : (s.setPort p q).faults = s.faults := by cases p <;> rfl
@[simp] theorem setPort_counters (p : PortId) (q : Port) (s : State) : (s.setPort p q).counters = s.counters := by cases p <;> rfl
@[simp] theorem setPort_timer (p : PortId) (q : Port) (s : State) : (s.setPort p q).timer = s.timer := by cases p <;> rfl
@[simp] theorem setPort_pending (p : PortId) (q : Port) (s : State) : (s.setPort p q).pending = s.pending := by cases p <;> rfl

@[simp] theorem uplinkLoss_inReset (s : State) : (s.uplinkLoss).inReset = s.inReset := rfl
@[simp] theorem uplinkLoss_portU (s : State) : (s.uplinkLoss).portU = s.portU := rfl
@[simp] theorem uplinkLoss_portD (s : State) : (s.uplinkLoss).portD = s.portD := rfl
@[simp] theorem uplinkLoss_position (s : State) : (s.uplinkLoss).position = s.position := rfl
@[simp] theorem uplinkLoss_otq (s : State) : (s.uplinkLoss).otq = s.otq := rfl
@[simp] theorem uplinkLoss_dTx (s : State) : (s.uplinkLoss).dTx = s.dTx := rfl
@[simp] theorem uplinkLoss_notice (s : State) : (s.uplinkLoss).notice = s.notice := rfl
@[simp] theorem uplinkLoss_nodes (s : State) : (s.uplinkLoss).nodes = s.nodes := rfl
@[simp] theorem uplinkLoss_bank0 (s : State) : (s.uplinkLoss).bank0 = s.bank0 := rfl
@[simp] theorem uplinkLoss_bank1 (s : State) : (s.uplinkLoss).bank1 = s.bank1 := rfl
@[simp] theorem uplinkLoss_activeBank (s : State) : (s.uplinkLoss).activeBank = s.activeBank := rfl
@[simp] theorem uplinkLoss_epoch (s : State) : (s.uplinkLoss).epoch = s.epoch := rfl
@[simp] theorem uplinkLoss_params (s : State) : (s.uplinkLoss).params = s.params := rfl
@[simp] theorem uplinkLoss_faults (s : State) : (s.uplinkLoss).faults = s.faults := rfl
@[simp] theorem uplinkLoss_counters (s : State) : (s.uplinkLoss).counters = s.counters := rfl
@[simp] theorem uplinkLoss_timer (s : State) : (s.uplinkLoss).timer = s.timer := rfl
@[simp] theorem uplinkLoss_pending (s : State) : (s.uplinkLoss).pending = s.pending := rfl

@[simp] theorem overflow_inReset (s : State) : (s.overflow).inReset = s.inReset := rfl
@[simp] theorem overflow_portU (s : State) : (s.overflow).portU = s.portU := rfl
@[simp] theorem overflow_portD (s : State) : (s.overflow).portD = s.portD := rfl
@[simp] theorem overflow_position (s : State) : (s.overflow).position = s.position := rfl
@[simp] theorem overflow_chainEnd (s : State) : (s.overflow).chainEnd = s.chainEnd := rfl
@[simp] theorem overflow_otq (s : State) : (s.overflow).otq = s.otq := rfl
@[simp] theorem overflow_htq (s : State) : (s.overflow).htq = s.htq := rfl
@[simp] theorem overflow_inbox (s : State) : (s.overflow).inbox = s.inbox := rfl
@[simp] theorem overflow_uTx (s : State) : (s.overflow).uTx = s.uTx := rfl
@[simp] theorem overflow_dTx (s : State) : (s.overflow).dTx = s.dTx := rfl
@[simp] theorem overflow_streak (s : State) : (s.overflow).streak = s.streak := rfl
@[simp] theorem overflow_loq (s : State) : (s.overflow).loq = s.loq := rfl
@[simp] theorem overflow_queue (s : State) : (s.overflow).queue = s.queue := rfl
@[simp] theorem overflow_dlc (s : State) : (s.overflow).dlc = s.dlc := rfl
@[simp] theorem overflow_nodes (s : State) : (s.overflow).nodes = s.nodes := rfl
@[simp] theorem overflow_bank0 (s : State) : (s.overflow).bank0 = s.bank0 := rfl
@[simp] theorem overflow_bank1 (s : State) : (s.overflow).bank1 = s.bank1 := rfl
@[simp] theorem overflow_activeBank (s : State) : (s.overflow).activeBank = s.activeBank := rfl
@[simp] theorem overflow_epoch (s : State) : (s.overflow).epoch = s.epoch := rfl
@[simp] theorem overflow_commit (s : State) : (s.overflow).commit = s.commit := rfl
@[simp] theorem overflow_scan (s : State) : (s.overflow).scan = s.scan := rfl
@[simp] theorem overflow_params (s : State) : (s.overflow).params = s.params := rfl
@[simp] theorem overflow_timer (s : State) : (s.overflow).timer = s.timer := rfl
@[simp] theorem overflow_pending (s : State) : (s.overflow).pending = s.pending := rfl

@[simp] theorem checkError_inReset (p : PortId) (s : State) : (s.checkError p).inReset = s.inReset := by cases p <;> rfl
@[simp] theorem checkError_portU (p : PortId) (s : State) : (s.checkError p).portU = s.portU := by cases p <;> rfl
@[simp] theorem checkError_portD (p : PortId) (s : State) : (s.checkError p).portD = s.portD := by cases p <;> rfl
@[simp] theorem checkError_position (p : PortId) (s : State) : (s.checkError p).position = s.position := by cases p <;> rfl
@[simp] theorem checkError_chainEnd (p : PortId) (s : State) : (s.checkError p).chainEnd = s.chainEnd := by cases p <;> rfl
@[simp] theorem checkError_otq (p : PortId) (s : State) : (s.checkError p).otq = s.otq := by cases p <;> rfl
@[simp] theorem checkError_htq (p : PortId) (s : State) : (s.checkError p).htq = s.htq := by cases p <;> rfl
@[simp] theorem checkError_inbox (p : PortId) (s : State) : (s.checkError p).inbox = s.inbox := by cases p <;> rfl
@[simp] theorem checkError_uTx (p : PortId) (s : State) : (s.checkError p).uTx = s.uTx := by cases p <;> rfl
@[simp] theorem checkError_dTx (p : PortId) (s : State) : (s.checkError p).dTx = s.dTx := by cases p <;> rfl
@[simp] theorem checkError_streak (p : PortId) (s : State) : (s.checkError p).streak = s.streak := by cases p <;> rfl
@[simp] theorem checkError_loq (p : PortId) (s : State) : (s.checkError p).loq = s.loq := by cases p <;> rfl
@[simp] theorem checkError_queue (p : PortId) (s : State) : (s.checkError p).queue = s.queue := by cases p <;> rfl
@[simp] theorem checkError_dlc (p : PortId) (s : State) : (s.checkError p).dlc = s.dlc := by cases p <;> rfl
@[simp] theorem checkError_nodes (p : PortId) (s : State) : (s.checkError p).nodes = s.nodes := by cases p <;> rfl
@[simp] theorem checkError_bank0 (p : PortId) (s : State) : (s.checkError p).bank0 = s.bank0 := by cases p <;> rfl
@[simp] theorem checkError_bank1 (p : PortId) (s : State) : (s.checkError p).bank1 = s.bank1 := by cases p <;> rfl
@[simp] theorem checkError_activeBank (p : PortId) (s : State) : (s.checkError p).activeBank = s.activeBank := by cases p <;> rfl
@[simp] theorem checkError_epoch (p : PortId) (s : State) : (s.checkError p).epoch = s.epoch := by cases p <;> rfl
@[simp] theorem checkError_commit (p : PortId) (s : State) : (s.checkError p).commit = s.commit := by cases p <;> rfl
@[simp] theorem checkError_scan (p : PortId) (s : State) : (s.checkError p).scan = s.scan := by cases p <;> rfl
@[simp] theorem checkError_params (p : PortId) (s : State) : (s.checkError p).params = s.params := by cases p <;> rfl
@[simp] theorem checkError_timer (p : PortId) (s : State) : (s.checkError p).timer = s.timer := by cases p <;> rfl
@[simp] theorem checkError_pending (p : PortId) (s : State) : (s.checkError p).pending = s.pending := by cases p <;> rfl


/-! ### Homeward.lean -/

@[simp] theorem sendLocal_inReset (n : Nat) (f : Frame) (s : State) : (s.sendLocal n f).inReset = s.inReset := rfl
@[simp] theorem sendLocal_portU (n : Nat) (f : Frame) (s : State) : (s.sendLocal n f).portU = s.portU := rfl
@[simp] theorem sendLocal_portD (n : Nat) (f : Frame) (s : State) : (s.sendLocal n f).portD = s.portD := rfl
@[simp] theorem sendLocal_position (n : Nat) (f : Frame) (s : State) : (s.sendLocal n f).position = s.position := rfl
@[simp] theorem sendLocal_chainEnd (n : Nat) (f : Frame) (s : State) : (s.sendLocal n f).chainEnd = s.chainEnd := rfl
@[simp] theorem sendLocal_otq (n : Nat) (f : Frame) (s : State) : (s.sendLocal n f).otq = s.otq := rfl
@[simp] theorem sendLocal_htq (n : Nat) (f : Frame) (s : State) : (s.sendLocal n f).htq = s.htq := rfl
@[simp] theorem sendLocal_inbox (n : Nat) (f : Frame) (s : State) : (s.sendLocal n f).inbox = s.inbox := rfl
@[simp] theorem sendLocal_dTx (n : Nat) (f : Frame) (s : State) : (s.sendLocal n f).dTx = s.dTx := rfl
@[simp] theorem sendLocal_loq (n : Nat) (f : Frame) (s : State) : (s.sendLocal n f).loq = s.loq := rfl
@[simp] theorem sendLocal_notice (n : Nat) (f : Frame) (s : State) : (s.sendLocal n f).notice = s.notice := rfl
@[simp] theorem sendLocal_queue (n : Nat) (f : Frame) (s : State) : (s.sendLocal n f).queue = s.queue := rfl
@[simp] theorem sendLocal_dlc (n : Nat) (f : Frame) (s : State) : (s.sendLocal n f).dlc = s.dlc := rfl
@[simp] theorem sendLocal_nodes (n : Nat) (f : Frame) (s : State) : (s.sendLocal n f).nodes = s.nodes := rfl
@[simp] theorem sendLocal_bank0 (n : Nat) (f : Frame) (s : State) : (s.sendLocal n f).bank0 = s.bank0 := rfl
@[simp] theorem sendLocal_bank1 (n : Nat) (f : Frame) (s : State) : (s.sendLocal n f).bank1 = s.bank1 := rfl
@[simp] theorem sendLocal_activeBank (n : Nat) (f : Frame) (s : State) : (s.sendLocal n f).activeBank = s.activeBank := rfl
@[simp] theorem sendLocal_epoch (n : Nat) (f : Frame) (s : State) : (s.sendLocal n f).epoch = s.epoch := rfl
@[simp] theorem sendLocal_commit (n : Nat) (f : Frame) (s : State) : (s.sendLocal n f).commit = s.commit := rfl
@[simp] theorem sendLocal_scan (n : Nat) (f : Frame) (s : State) : (s.sendLocal n f).scan = s.scan := rfl
@[simp] theorem sendLocal_params (n : Nat) (f : Frame) (s : State) : (s.sendLocal n f).params = s.params := rfl
@[simp] theorem sendLocal_faults (n : Nat) (f : Frame) (s : State) : (s.sendLocal n f).faults = s.faults := rfl
@[simp] theorem sendLocal_counters (n : Nat) (f : Frame) (s : State) : (s.sendLocal n f).counters = s.counters := rfl
@[simp] theorem sendLocal_timer (n : Nat) (f : Frame) (s : State) : (s.sendLocal n f).timer = s.timer := rfl
@[simp] theorem sendLocal_pending (n : Nat) (f : Frame) (s : State) : (s.sendLocal n f).pending = s.pending := rfl

@[simp] theorem sendThrough_inReset (f : Frame) (k : Nat) (s : State) : (s.sendThrough f k).inReset = s.inReset := rfl
@[simp] theorem sendThrough_portU (f : Frame) (k : Nat) (s : State) : (s.sendThrough f k).portU = s.portU := rfl
@[simp] theorem sendThrough_portD (f : Frame) (k : Nat) (s : State) : (s.sendThrough f k).portD = s.portD := rfl
@[simp] theorem sendThrough_position (f : Frame) (k : Nat) (s : State) : (s.sendThrough f k).position = s.position := rfl
@[simp] theorem sendThrough_chainEnd (f : Frame) (k : Nat) (s : State) : (s.sendThrough f k).chainEnd = s.chainEnd := rfl
@[simp] theorem sendThrough_otq (f : Frame) (k : Nat) (s : State) : (s.sendThrough f k).otq = s.otq := rfl
@[simp] theorem sendThrough_htq (f : Frame) (k : Nat) (s : State) : (s.sendThrough f k).htq = s.htq := rfl
@[simp] theorem sendThrough_inbox (f : Frame) (k : Nat) (s : State) : (s.sendThrough f k).inbox = s.inbox := rfl
@[simp] theorem sendThrough_dTx (f : Frame) (k : Nat) (s : State) : (s.sendThrough f k).dTx = s.dTx := rfl
@[simp] theorem sendThrough_loq (f : Frame) (k : Nat) (s : State) : (s.sendThrough f k).loq = s.loq := rfl
@[simp] theorem sendThrough_notice (f : Frame) (k : Nat) (s : State) : (s.sendThrough f k).notice = s.notice := rfl
@[simp] theorem sendThrough_queue (f : Frame) (k : Nat) (s : State) : (s.sendThrough f k).queue = s.queue := rfl
@[simp] theorem sendThrough_dlc (f : Frame) (k : Nat) (s : State) : (s.sendThrough f k).dlc = s.dlc := rfl
@[simp] theorem sendThrough_nodes (f : Frame) (k : Nat) (s : State) : (s.sendThrough f k).nodes = s.nodes := rfl
@[simp] theorem sendThrough_bank0 (f : Frame) (k : Nat) (s : State) : (s.sendThrough f k).bank0 = s.bank0 := rfl
@[simp] theorem sendThrough_bank1 (f : Frame) (k : Nat) (s : State) : (s.sendThrough f k).bank1 = s.bank1 := rfl
@[simp] theorem sendThrough_activeBank (f : Frame) (k : Nat) (s : State) : (s.sendThrough f k).activeBank = s.activeBank := rfl
@[simp] theorem sendThrough_epoch (f : Frame) (k : Nat) (s : State) : (s.sendThrough f k).epoch = s.epoch := rfl
@[simp] theorem sendThrough_commit (f : Frame) (k : Nat) (s : State) : (s.sendThrough f k).commit = s.commit := rfl
@[simp] theorem sendThrough_scan (f : Frame) (k : Nat) (s : State) : (s.sendThrough f k).scan = s.scan := rfl
@[simp] theorem sendThrough_params (f : Frame) (k : Nat) (s : State) : (s.sendThrough f k).params = s.params := rfl
@[simp] theorem sendThrough_faults (f : Frame) (k : Nat) (s : State) : (s.sendThrough f k).faults = s.faults := rfl
@[simp] theorem sendThrough_counters (f : Frame) (k : Nat) (s : State) : (s.sendThrough f k).counters = s.counters := rfl
@[simp] theorem sendThrough_timer (f : Frame) (k : Nat) (s : State) : (s.sendThrough f k).timer = s.timer := rfl
@[simp] theorem sendThrough_pending (f : Frame) (k : Nat) (s : State) : (s.sendThrough f k).pending = s.pending := rfl

@[simp] theorem idleU_inReset (s : State) : (s.idleU).inReset = s.inReset := by unfold State.idleU; split <;> rfl
@[simp] theorem idleU_portD (s : State) : (s.idleU).portD = s.portD := by unfold State.idleU; split <;> rfl
@[simp] theorem idleU_position (s : State) : (s.idleU).position = s.position := by unfold State.idleU; split <;> rfl
@[simp] theorem idleU_chainEnd (s : State) : (s.idleU).chainEnd = s.chainEnd := by unfold State.idleU; split <;> rfl
@[simp] theorem idleU_otq (s : State) : (s.idleU).otq = s.otq := by unfold State.idleU; split <;> rfl
@[simp] theorem idleU_htq (s : State) : (s.idleU).htq = s.htq := by unfold State.idleU; split <;> rfl
@[simp] theorem idleU_inbox (s : State) : (s.idleU).inbox = s.inbox := by unfold State.idleU; split <;> rfl
@[simp] theorem idleU_uTx (s : State) : (s.idleU).uTx = s.uTx := by unfold State.idleU; split <;> rfl
@[simp] theorem idleU_dTx (s : State) : (s.idleU).dTx = s.dTx := by unfold State.idleU; split <;> rfl
@[simp] theorem idleU_streak (s : State) : (s.idleU).streak = s.streak := by unfold State.idleU; split <;> rfl
@[simp] theorem idleU_loq (s : State) : (s.idleU).loq = s.loq := by unfold State.idleU; split <;> rfl
@[simp] theorem idleU_notice (s : State) : (s.idleU).notice = s.notice := by unfold State.idleU; split <;> rfl
@[simp] theorem idleU_queue (s : State) : (s.idleU).queue = s.queue := by unfold State.idleU; split <;> rfl
@[simp] theorem idleU_dlc (s : State) : (s.idleU).dlc = s.dlc := by unfold State.idleU; split <;> rfl
@[simp] theorem idleU_nodes (s : State) : (s.idleU).nodes = s.nodes := by unfold State.idleU; split <;> rfl
@[simp] theorem idleU_bank0 (s : State) : (s.idleU).bank0 = s.bank0 := by unfold State.idleU; split <;> rfl
@[simp] theorem idleU_bank1 (s : State) : (s.idleU).bank1 = s.bank1 := by unfold State.idleU; split <;> rfl
@[simp] theorem idleU_activeBank (s : State) : (s.idleU).activeBank = s.activeBank := by unfold State.idleU; split <;> rfl
@[simp] theorem idleU_epoch (s : State) : (s.idleU).epoch = s.epoch := by unfold State.idleU; split <;> rfl
@[simp] theorem idleU_commit (s : State) : (s.idleU).commit = s.commit := by unfold State.idleU; split <;> rfl
@[simp] theorem idleU_scan (s : State) : (s.idleU).scan = s.scan := by unfold State.idleU; split <;> rfl
@[simp] theorem idleU_params (s : State) : (s.idleU).params = s.params := by unfold State.idleU; split <;> rfl
@[simp] theorem idleU_faults (s : State) : (s.idleU).faults = s.faults := by unfold State.idleU; split <;> rfl
@[simp] theorem idleU_counters (s : State) : (s.idleU).counters = s.counters := by unfold State.idleU; split <;> rfl
@[simp] theorem idleU_timer (s : State) : (s.idleU).timer = s.timer := by unfold State.idleU; split <;> rfl
@[simp] theorem idleU_pending (s : State) : (s.idleU).pending = s.pending := by unfold State.idleU; split <;> rfl

@[simp] theorem idleD_inReset (s : State) : (s.idleD).inReset = s.inReset := by unfold State.idleD; split <;> rfl
@[simp] theorem idleD_portU (s : State) : (s.idleD).portU = s.portU := by unfold State.idleD; split <;> rfl
@[simp] theorem idleD_position (s : State) : (s.idleD).position = s.position := by unfold State.idleD; split <;> rfl
@[simp] theorem idleD_chainEnd (s : State) : (s.idleD).chainEnd = s.chainEnd := by unfold State.idleD; split <;> rfl
@[simp] theorem idleD_otq (s : State) : (s.idleD).otq = s.otq := by unfold State.idleD; split <;> rfl
@[simp] theorem idleD_htq (s : State) : (s.idleD).htq = s.htq := by unfold State.idleD; split <;> rfl
@[simp] theorem idleD_inbox (s : State) : (s.idleD).inbox = s.inbox := by unfold State.idleD; split <;> rfl
@[simp] theorem idleD_uTx (s : State) : (s.idleD).uTx = s.uTx := by unfold State.idleD; split <;> rfl
@[simp] theorem idleD_dTx (s : State) : (s.idleD).dTx = s.dTx := by unfold State.idleD; split <;> rfl
@[simp] theorem idleD_streak (s : State) : (s.idleD).streak = s.streak := by unfold State.idleD; split <;> rfl
@[simp] theorem idleD_loq (s : State) : (s.idleD).loq = s.loq := by unfold State.idleD; split <;> rfl
@[simp] theorem idleD_notice (s : State) : (s.idleD).notice = s.notice := by unfold State.idleD; split <;> rfl
@[simp] theorem idleD_queue (s : State) : (s.idleD).queue = s.queue := by unfold State.idleD; split <;> rfl
@[simp] theorem idleD_dlc (s : State) : (s.idleD).dlc = s.dlc := by unfold State.idleD; split <;> rfl
@[simp] theorem idleD_nodes (s : State) : (s.idleD).nodes = s.nodes := by unfold State.idleD; split <;> rfl
@[simp] theorem idleD_bank0 (s : State) : (s.idleD).bank0 = s.bank0 := by unfold State.idleD; split <;> rfl
@[simp] theorem idleD_bank1 (s : State) : (s.idleD).bank1 = s.bank1 := by unfold State.idleD; split <;> rfl
@[simp] theorem idleD_activeBank (s : State) : (s.idleD).activeBank = s.activeBank := by unfold State.idleD; split <;> rfl
@[simp] theorem idleD_epoch (s : State) : (s.idleD).epoch = s.epoch := by unfold State.idleD; split <;> rfl
@[simp] theorem idleD_commit (s : State) : (s.idleD).commit = s.commit := by unfold State.idleD; split <;> rfl
@[simp] theorem idleD_scan (s : State) : (s.idleD).scan = s.scan := by unfold State.idleD; split <;> rfl
@[simp] theorem idleD_params (s : State) : (s.idleD).params = s.params := by unfold State.idleD; split <;> rfl
@[simp] theorem idleD_faults (s : State) : (s.idleD).faults = s.faults := by unfold State.idleD; split <;> rfl
@[simp] theorem idleD_counters (s : State) : (s.idleD).counters = s.counters := by unfold State.idleD; split <;> rfl
@[simp] theorem idleD_timer (s : State) : (s.idleD).timer = s.timer := by unfold State.idleD; split <;> rfl
@[simp] theorem idleD_pending (s : State) : (s.idleD).pending = s.pending := by unfold State.idleD; split <;> rfl


/-! ### Exchange.lean -/

@[simp] theorem stray_inReset (s : State) : (s.stray).inReset = s.inReset := rfl
@[simp] theorem stray_portU (s : State) : (s.stray).portU = s.portU := rfl
@[simp] theorem stray_portD (s : State) : (s.stray).portD = s.portD := rfl
@[simp] theorem stray_position (s : State) : (s.stray).position = s.position := rfl
@[simp] theorem stray_chainEnd (s : State) : (s.stray).chainEnd = s.chainEnd := rfl
@[simp] theorem stray_otq (s : State) : (s.stray).otq = s.otq := rfl
@[simp] theorem stray_htq (s : State) : (s.stray).htq = s.htq := rfl
@[simp] theorem stray_inbox (s : State) : (s.stray).inbox = s.inbox := rfl
@[simp] theorem stray_uTx (s : State) : (s.stray).uTx = s.uTx := rfl
@[simp] theorem stray_dTx (s : State) : (s.stray).dTx = s.dTx := rfl
@[simp] theorem stray_streak (s : State) : (s.stray).streak = s.streak := rfl
@[simp] theorem stray_loq (s : State) : (s.stray).loq = s.loq := rfl
@[simp] theorem stray_queue (s : State) : (s.stray).queue = s.queue := rfl
@[simp] theorem stray_dlc (s : State) : (s.stray).dlc = s.dlc := rfl
@[simp] theorem stray_nodes (s : State) : (s.stray).nodes = s.nodes := rfl
@[simp] theorem stray_bank0 (s : State) : (s.stray).bank0 = s.bank0 := rfl
@[simp] theorem stray_bank1 (s : State) : (s.stray).bank1 = s.bank1 := rfl
@[simp] theorem stray_activeBank (s : State) : (s.stray).activeBank = s.activeBank := rfl
@[simp] theorem stray_epoch (s : State) : (s.stray).epoch = s.epoch := rfl
@[simp] theorem stray_commit (s : State) : (s.stray).commit = s.commit := rfl
@[simp] theorem stray_scan (s : State) : (s.stray).scan = s.scan := rfl
@[simp] theorem stray_params (s : State) : (s.stray).params = s.params := rfl
@[simp] theorem stray_timer (s : State) : (s.stray).timer = s.timer := rfl
@[simp] theorem stray_pending (s : State) : (s.stray).pending = s.pending := rfl


/-! ### Management.lean -/

@[simp] theorem haltLine_inReset (s : State) : (s.haltLine).inReset = s.inReset := by unfold State.haltLine; split <;> rfl
@[simp] theorem haltLine_portU (s : State) : (s.haltLine).portU = s.portU := by unfold State.haltLine; split <;> rfl
@[simp] theorem haltLine_portD (s : State) : (s.haltLine).portD = s.portD := by unfold State.haltLine; split <;> rfl
@[simp] theorem haltLine_position (s : State) : (s.haltLine).position = s.position := by unfold State.haltLine; split <;> rfl
@[simp] theorem haltLine_chainEnd (s : State) : (s.haltLine).chainEnd = s.chainEnd := by unfold State.haltLine; split <;> rfl
@[simp] theorem haltLine_otq (s : State) : (s.haltLine).otq = s.otq := by unfold State.haltLine; split <;> rfl
@[simp] theorem haltLine_htq (s : State) : (s.haltLine).htq = s.htq := by unfold State.haltLine; split <;> rfl
@[simp] theorem haltLine_inbox (s : State) : (s.haltLine).inbox = s.inbox := by unfold State.haltLine; split <;> rfl
@[simp] theorem haltLine_uTx (s : State) : (s.haltLine).uTx = s.uTx := by unfold State.haltLine; split <;> rfl
@[simp] theorem haltLine_dTx (s : State) : (s.haltLine).dTx = s.dTx := by unfold State.haltLine; split <;> rfl
@[simp] theorem haltLine_streak (s : State) : (s.haltLine).streak = s.streak := by unfold State.haltLine; split <;> rfl
@[simp] theorem haltLine_loq (s : State) : (s.haltLine).loq = s.loq := by unfold State.haltLine; split <;> rfl
@[simp] theorem haltLine_notice (s : State) : (s.haltLine).notice = s.notice := by unfold State.haltLine; split <;> rfl
@[simp] theorem haltLine_queue (s : State) : (s.haltLine).queue = s.queue := by unfold State.haltLine; split <;> rfl
@[simp] theorem haltLine_nodes (s : State) : (s.haltLine).nodes = s.nodes := by unfold State.haltLine; split <;> rfl
@[simp] theorem haltLine_bank0 (s : State) : (s.haltLine).bank0 = s.bank0 := by unfold State.haltLine; split <;> rfl
@[simp] theorem haltLine_bank1 (s : State) : (s.haltLine).bank1 = s.bank1 := by unfold State.haltLine; split <;> rfl
@[simp] theorem haltLine_activeBank (s : State) : (s.haltLine).activeBank = s.activeBank := by unfold State.haltLine; split <;> rfl
@[simp] theorem haltLine_epoch (s : State) : (s.haltLine).epoch = s.epoch := by unfold State.haltLine; split <;> rfl
@[simp] theorem haltLine_commit (s : State) : (s.haltLine).commit = s.commit := by unfold State.haltLine; split <;> rfl
@[simp] theorem haltLine_scan (s : State) : (s.haltLine).scan = s.scan := by unfold State.haltLine; split <;> rfl
@[simp] theorem haltLine_params (s : State) : (s.haltLine).params = s.params := by unfold State.haltLine; split <;> rfl
@[simp] theorem haltLine_faults (s : State) : (s.haltLine).faults = s.faults := by unfold State.haltLine; split <;> rfl
@[simp] theorem haltLine_counters (s : State) : (s.haltLine).counters = s.counters := by unfold State.haltLine; split <;> rfl
@[simp] theorem haltLine_timer (s : State) : (s.haltLine).timer = s.timer := by unfold State.haltLine; split <;> rfl
@[simp] theorem haltLine_pending (s : State) : (s.haltLine).pending = s.pending := by unfold State.haltLine; split <;> rfl

@[simp] theorem runLine_inReset (s : State) : (s.runLine).inReset = s.inReset := by unfold State.runLine; split <;> rfl
@[simp] theorem runLine_portU (s : State) : (s.runLine).portU = s.portU := by unfold State.runLine; split <;> rfl
@[simp] theorem runLine_portD (s : State) : (s.runLine).portD = s.portD := by unfold State.runLine; split <;> rfl
@[simp] theorem runLine_position (s : State) : (s.runLine).position = s.position := by unfold State.runLine; split <;> rfl
@[simp] theorem runLine_chainEnd (s : State) : (s.runLine).chainEnd = s.chainEnd := by unfold State.runLine; split <;> rfl
@[simp] theorem runLine_otq (s : State) : (s.runLine).otq = s.otq := by unfold State.runLine; split <;> rfl
@[simp] theorem runLine_htq (s : State) : (s.runLine).htq = s.htq := by unfold State.runLine; split <;> rfl
@[simp] theorem runLine_inbox (s : State) : (s.runLine).inbox = s.inbox := by unfold State.runLine; split <;> rfl
@[simp] theorem runLine_uTx (s : State) : (s.runLine).uTx = s.uTx := by unfold State.runLine; split <;> rfl
@[simp] theorem runLine_dTx (s : State) : (s.runLine).dTx = s.dTx := by unfold State.runLine; split <;> rfl
@[simp] theorem runLine_streak (s : State) : (s.runLine).streak = s.streak := by unfold State.runLine; split <;> rfl
@[simp] theorem runLine_loq (s : State) : (s.runLine).loq = s.loq := by unfold State.runLine; split <;> rfl
@[simp] theorem runLine_notice (s : State) : (s.runLine).notice = s.notice := by unfold State.runLine; split <;> rfl
@[simp] theorem runLine_queue (s : State) : (s.runLine).queue = s.queue := by unfold State.runLine; split <;> rfl
@[simp] theorem runLine_nodes (s : State) : (s.runLine).nodes = s.nodes := by unfold State.runLine; split <;> rfl
@[simp] theorem runLine_bank0 (s : State) : (s.runLine).bank0 = s.bank0 := by unfold State.runLine; split <;> rfl
@[simp] theorem runLine_bank1 (s : State) : (s.runLine).bank1 = s.bank1 := by unfold State.runLine; split <;> rfl
@[simp] theorem runLine_activeBank (s : State) : (s.runLine).activeBank = s.activeBank := by unfold State.runLine; split <;> rfl
@[simp] theorem runLine_epoch (s : State) : (s.runLine).epoch = s.epoch := by unfold State.runLine; split <;> rfl
@[simp] theorem runLine_commit (s : State) : (s.runLine).commit = s.commit := by unfold State.runLine; split <;> rfl
@[simp] theorem runLine_scan (s : State) : (s.runLine).scan = s.scan := by unfold State.runLine; split <;> rfl
@[simp] theorem runLine_params (s : State) : (s.runLine).params = s.params := by unfold State.runLine; split <;> rfl
@[simp] theorem runLine_faults (s : State) : (s.runLine).faults = s.faults := by unfold State.runLine; split <;> rfl
@[simp] theorem runLine_counters (s : State) : (s.runLine).counters = s.counters := by unfold State.runLine; split <;> rfl
@[simp] theorem runLine_timer (s : State) : (s.runLine).timer = s.timer := by unfold State.runLine; split <;> rfl
@[simp] theorem runLine_pending (s : State) : (s.runLine).pending = s.pending := by unfold State.runLine; split <;> rfl

@[simp] theorem writeLineSetting_inReset (i : Nat) (v : Nat) (s : State) : (s.writeLineSetting i v).inReset = s.inReset := by unfold State.writeLineSetting; (repeat' split) <;> rfl
@[simp] theorem writeLineSetting_portU (i : Nat) (v : Nat) (s : State) : (s.writeLineSetting i v).portU = s.portU := by unfold State.writeLineSetting; (repeat' split) <;> rfl
@[simp] theorem writeLineSetting_portD (i : Nat) (v : Nat) (s : State) : (s.writeLineSetting i v).portD = s.portD := by unfold State.writeLineSetting; (repeat' split) <;> rfl
@[simp] theorem writeLineSetting_position (i : Nat) (v : Nat) (s : State) : (s.writeLineSetting i v).position = s.position := by unfold State.writeLineSetting; (repeat' split) <;> rfl
@[simp] theorem writeLineSetting_chainEnd (i : Nat) (v : Nat) (s : State) : (s.writeLineSetting i v).chainEnd = s.chainEnd := by unfold State.writeLineSetting; (repeat' split) <;> rfl
@[simp] theorem writeLineSetting_otq (i : Nat) (v : Nat) (s : State) : (s.writeLineSetting i v).otq = s.otq := by unfold State.writeLineSetting; (repeat' split) <;> rfl
@[simp] theorem writeLineSetting_htq (i : Nat) (v : Nat) (s : State) : (s.writeLineSetting i v).htq = s.htq := by unfold State.writeLineSetting; (repeat' split) <;> rfl
@[simp] theorem writeLineSetting_inbox (i : Nat) (v : Nat) (s : State) : (s.writeLineSetting i v).inbox = s.inbox := by unfold State.writeLineSetting; (repeat' split) <;> rfl
@[simp] theorem writeLineSetting_uTx (i : Nat) (v : Nat) (s : State) : (s.writeLineSetting i v).uTx = s.uTx := by unfold State.writeLineSetting; (repeat' split) <;> rfl
@[simp] theorem writeLineSetting_dTx (i : Nat) (v : Nat) (s : State) : (s.writeLineSetting i v).dTx = s.dTx := by unfold State.writeLineSetting; (repeat' split) <;> rfl
@[simp] theorem writeLineSetting_streak (i : Nat) (v : Nat) (s : State) : (s.writeLineSetting i v).streak = s.streak := by unfold State.writeLineSetting; (repeat' split) <;> rfl
@[simp] theorem writeLineSetting_loq (i : Nat) (v : Nat) (s : State) : (s.writeLineSetting i v).loq = s.loq := by unfold State.writeLineSetting; (repeat' split) <;> rfl
@[simp] theorem writeLineSetting_notice (i : Nat) (v : Nat) (s : State) : (s.writeLineSetting i v).notice = s.notice := by unfold State.writeLineSetting; (repeat' split) <;> rfl
@[simp] theorem writeLineSetting_queue (i : Nat) (v : Nat) (s : State) : (s.writeLineSetting i v).queue = s.queue := by unfold State.writeLineSetting; (repeat' split) <;> rfl
@[simp] theorem writeLineSetting_nodes (i : Nat) (v : Nat) (s : State) : (s.writeLineSetting i v).nodes = s.nodes := by unfold State.writeLineSetting; (repeat' split) <;> rfl
@[simp] theorem writeLineSetting_bank0 (i : Nat) (v : Nat) (s : State) : (s.writeLineSetting i v).bank0 = s.bank0 := by unfold State.writeLineSetting; (repeat' split) <;> rfl
@[simp] theorem writeLineSetting_bank1 (i : Nat) (v : Nat) (s : State) : (s.writeLineSetting i v).bank1 = s.bank1 := by unfold State.writeLineSetting; (repeat' split) <;> rfl
@[simp] theorem writeLineSetting_activeBank (i : Nat) (v : Nat) (s : State) : (s.writeLineSetting i v).activeBank = s.activeBank := by unfold State.writeLineSetting; (repeat' split) <;> rfl
@[simp] theorem writeLineSetting_epoch (i : Nat) (v : Nat) (s : State) : (s.writeLineSetting i v).epoch = s.epoch := by unfold State.writeLineSetting; (repeat' split) <;> rfl
@[simp] theorem writeLineSetting_commit (i : Nat) (v : Nat) (s : State) : (s.writeLineSetting i v).commit = s.commit := by unfold State.writeLineSetting; (repeat' split) <;> rfl
@[simp] theorem writeLineSetting_scan (i : Nat) (v : Nat) (s : State) : (s.writeLineSetting i v).scan = s.scan := by unfold State.writeLineSetting; (repeat' split) <;> rfl
@[simp] theorem writeLineSetting_params (i : Nat) (v : Nat) (s : State) : (s.writeLineSetting i v).params = s.params := by unfold State.writeLineSetting; (repeat' split) <;> rfl
@[simp] theorem writeLineSetting_faults (i : Nat) (v : Nat) (s : State) : (s.writeLineSetting i v).faults = s.faults := by unfold State.writeLineSetting; (repeat' split) <;> rfl
@[simp] theorem writeLineSetting_counters (i : Nat) (v : Nat) (s : State) : (s.writeLineSetting i v).counters = s.counters := by unfold State.writeLineSetting; (repeat' split) <;> rfl
@[simp] theorem writeLineSetting_timer (i : Nat) (v : Nat) (s : State) : (s.writeLineSetting i v).timer = s.timer := by unfold State.writeLineSetting; (repeat' split) <;> rfl
@[simp] theorem writeLineSetting_pending (i : Nat) (v : Nat) (s : State) : (s.writeLineSetting i v).pending = s.pending := by unfold State.writeLineSetting; (repeat' split) <;> rfl


/-! ### Tables.lean -/

@[simp] theorem swapBanks_inReset (s : State) : (s.swapBanks).inReset = s.inReset := rfl
@[simp] theorem swapBanks_portU (s : State) : (s.swapBanks).portU = s.portU := rfl
@[simp] theorem swapBanks_portD (s : State) : (s.swapBanks).portD = s.portD := rfl
@[simp] theorem swapBanks_position (s : State) : (s.swapBanks).position = s.position := rfl
@[simp] theorem swapBanks_chainEnd (s : State) : (s.swapBanks).chainEnd = s.chainEnd := rfl
@[simp] theorem swapBanks_otq (s : State) : (s.swapBanks).otq = s.otq := rfl
@[simp] theorem swapBanks_htq (s : State) : (s.swapBanks).htq = s.htq := rfl
@[simp] theorem swapBanks_inbox (s : State) : (s.swapBanks).inbox = s.inbox := rfl
@[simp] theorem swapBanks_uTx (s : State) : (s.swapBanks).uTx = s.uTx := rfl
@[simp] theorem swapBanks_dTx (s : State) : (s.swapBanks).dTx = s.dTx := rfl
@[simp] theorem swapBanks_streak (s : State) : (s.swapBanks).streak = s.streak := rfl
@[simp] theorem swapBanks_loq (s : State) : (s.swapBanks).loq = s.loq := rfl
@[simp] theorem swapBanks_notice (s : State) : (s.swapBanks).notice = s.notice := rfl
@[simp] theorem swapBanks_dlc (s : State) : (s.swapBanks).dlc = s.dlc := rfl
@[simp] theorem swapBanks_nodes (s : State) : (s.swapBanks).nodes = s.nodes := rfl
@[simp] theorem swapBanks_bank0 (s : State) : (s.swapBanks).bank0 = s.bank0 := rfl
@[simp] theorem swapBanks_bank1 (s : State) : (s.swapBanks).bank1 = s.bank1 := rfl
@[simp] theorem swapBanks_params (s : State) : (s.swapBanks).params = s.params := rfl
@[simp] theorem swapBanks_faults (s : State) : (s.swapBanks).faults = s.faults := rfl
@[simp] theorem swapBanks_counters (s : State) : (s.swapBanks).counters = s.counters := rfl
@[simp] theorem swapBanks_timer (s : State) : (s.swapBanks).timer = s.timer := rfl
@[simp] theorem swapBanks_pending (s : State) : (s.swapBanks).pending = s.pending := rfl

@[simp] theorem idleStep_inReset (s : State) : (s.idleStep).inReset = s.inReset := by unfold State.idleStep; split <;> rfl
@[simp] theorem idleStep_portU (s : State) : (s.idleStep).portU = s.portU := by unfold State.idleStep; split <;> rfl
@[simp] theorem idleStep_portD (s : State) : (s.idleStep).portD = s.portD := by unfold State.idleStep; split <;> rfl
@[simp] theorem idleStep_position (s : State) : (s.idleStep).position = s.position := by unfold State.idleStep; split <;> rfl
@[simp] theorem idleStep_chainEnd (s : State) : (s.idleStep).chainEnd = s.chainEnd := by unfold State.idleStep; split <;> rfl
@[simp] theorem idleStep_otq (s : State) : (s.idleStep).otq = s.otq := by unfold State.idleStep; split <;> rfl
@[simp] theorem idleStep_htq (s : State) : (s.idleStep).htq = s.htq := by unfold State.idleStep; split <;> rfl
@[simp] theorem idleStep_inbox (s : State) : (s.idleStep).inbox = s.inbox := by unfold State.idleStep; split <;> rfl
@[simp] theorem idleStep_uTx (s : State) : (s.idleStep).uTx = s.uTx := by unfold State.idleStep; split <;> rfl
@[simp] theorem idleStep_dTx (s : State) : (s.idleStep).dTx = s.dTx := by unfold State.idleStep; split <;> rfl
@[simp] theorem idleStep_streak (s : State) : (s.idleStep).streak = s.streak := by unfold State.idleStep; split <;> rfl
@[simp] theorem idleStep_loq (s : State) : (s.idleStep).loq = s.loq := by unfold State.idleStep; split <;> rfl
@[simp] theorem idleStep_notice (s : State) : (s.idleStep).notice = s.notice := by unfold State.idleStep; split <;> rfl
@[simp] theorem idleStep_queue (s : State) : (s.idleStep).queue = s.queue := by unfold State.idleStep; split <;> rfl
@[simp] theorem idleStep_dlc (s : State) : (s.idleStep).dlc = s.dlc := by unfold State.idleStep; split <;> rfl
@[simp] theorem idleStep_nodes (s : State) : (s.idleStep).nodes = s.nodes := by unfold State.idleStep; split <;> rfl
@[simp] theorem idleStep_bank0 (s : State) : (s.idleStep).bank0 = s.bank0 := by unfold State.idleStep; split <;> rfl
@[simp] theorem idleStep_bank1 (s : State) : (s.idleStep).bank1 = s.bank1 := by unfold State.idleStep; split <;> rfl
@[simp] theorem idleStep_activeBank (s : State) : (s.idleStep).activeBank = s.activeBank := by unfold State.idleStep; split <;> rfl
@[simp] theorem idleStep_epoch (s : State) : (s.idleStep).epoch = s.epoch := by unfold State.idleStep; split <;> rfl
@[simp] theorem idleStep_scan (s : State) : (s.idleStep).scan = s.scan := by unfold State.idleStep; split <;> rfl
@[simp] theorem idleStep_params (s : State) : (s.idleStep).params = s.params := by unfold State.idleStep; split <;> rfl
@[simp] theorem idleStep_faults (s : State) : (s.idleStep).faults = s.faults := by unfold State.idleStep; split <;> rfl
@[simp] theorem idleStep_counters (s : State) : (s.idleStep).counters = s.counters := by unfold State.idleStep; split <;> rfl
@[simp] theorem idleStep_timer (s : State) : (s.idleStep).timer = s.timer := by unfold State.idleStep; split <;> rfl
@[simp] theorem idleStep_pending (s : State) : (s.idleStep).pending = s.pending := by unfold State.idleStep; split <;> rfl


/-! ### SoftReset.lean -/

@[simp] theorem distrustNode_inReset (s : State) : (s.distrustNode).inReset = s.inReset := by unfold State.distrustNode; repeat (first | rfl | split)
@[simp] theorem distrustNode_portU (s : State) : (s.distrustNode).portU = s.portU := by unfold State.distrustNode; repeat (first | rfl | split)
@[simp] theorem distrustNode_portD (s : State) : (s.distrustNode).portD = s.portD := by unfold State.distrustNode; repeat (first | rfl | split)
@[simp] theorem distrustNode_position (s : State) : (s.distrustNode).position = s.position := by unfold State.distrustNode; repeat (first | rfl | split)
@[simp] theorem distrustNode_chainEnd (s : State) : (s.distrustNode).chainEnd = s.chainEnd := by unfold State.distrustNode; repeat (first | rfl | split)
@[simp] theorem distrustNode_otq (s : State) : (s.distrustNode).otq = s.otq := by unfold State.distrustNode; repeat (first | rfl | split)
@[simp] theorem distrustNode_htq (s : State) : (s.distrustNode).htq = s.htq := by unfold State.distrustNode; repeat (first | rfl | split)
@[simp] theorem distrustNode_inbox (s : State) : (s.distrustNode).inbox = s.inbox := by unfold State.distrustNode; repeat (first | rfl | split)
@[simp] theorem distrustNode_uTx (s : State) : (s.distrustNode).uTx = s.uTx := by unfold State.distrustNode; repeat (first | rfl | split)
@[simp] theorem distrustNode_dTx (s : State) : (s.distrustNode).dTx = s.dTx := by unfold State.distrustNode; repeat (first | rfl | split)
@[simp] theorem distrustNode_streak (s : State) : (s.distrustNode).streak = s.streak := by unfold State.distrustNode; repeat (first | rfl | split)
@[simp] theorem distrustNode_loq (s : State) : (s.distrustNode).loq = s.loq := by unfold State.distrustNode; repeat (first | rfl | split)
@[simp] theorem distrustNode_notice (s : State) : (s.distrustNode).notice = s.notice := by unfold State.distrustNode; repeat (first | rfl | split)
@[simp] theorem distrustNode_queue (s : State) : (s.distrustNode).queue = s.queue := by unfold State.distrustNode; repeat (first | rfl | split)
@[simp] theorem distrustNode_dlc (s : State) : (s.distrustNode).dlc = s.dlc := by unfold State.distrustNode; repeat (first | rfl | split)
@[simp] theorem distrustNode_bank0 (s : State) : (s.distrustNode).bank0 = s.bank0 := by unfold State.distrustNode; repeat (first | rfl | split)
@[simp] theorem distrustNode_bank1 (s : State) : (s.distrustNode).bank1 = s.bank1 := by unfold State.distrustNode; repeat (first | rfl | split)
@[simp] theorem distrustNode_activeBank (s : State) : (s.distrustNode).activeBank = s.activeBank := by unfold State.distrustNode; repeat (first | rfl | split)
@[simp] theorem distrustNode_epoch (s : State) : (s.distrustNode).epoch = s.epoch := by unfold State.distrustNode; repeat (first | rfl | split)
@[simp] theorem distrustNode_commit (s : State) : (s.distrustNode).commit = s.commit := by unfold State.distrustNode; repeat (first | rfl | split)
@[simp] theorem distrustNode_scan (s : State) : (s.distrustNode).scan = s.scan := by unfold State.distrustNode; repeat (first | rfl | split)
@[simp] theorem distrustNode_params (s : State) : (s.distrustNode).params = s.params := by unfold State.distrustNode; repeat (first | rfl | split)
@[simp] theorem distrustNode_faults (s : State) : (s.distrustNode).faults = s.faults := by unfold State.distrustNode; repeat (first | rfl | split)
@[simp] theorem distrustNode_counters (s : State) : (s.distrustNode).counters = s.counters := by unfold State.distrustNode; repeat (first | rfl | split)
@[simp] theorem distrustNode_timer (s : State) : (s.distrustNode).timer = s.timer := by unfold State.distrustNode; repeat (first | rfl | split)
@[simp] theorem distrustNode_pending (s : State) : (s.distrustNode).pending = s.pending := by unfold State.distrustNode; repeat (first | rfl | split)

@[simp] theorem resetDlc_inReset (s : State) : (s.resetDlc).inReset = s.inReset := by unfold State.resetDlc; dsimp only; split <;> rfl
@[simp] theorem resetDlc_portU (s : State) : (s.resetDlc).portU = s.portU := by unfold State.resetDlc; dsimp only; split <;> rfl
@[simp] theorem resetDlc_portD (s : State) : (s.resetDlc).portD = s.portD := by unfold State.resetDlc; dsimp only; split <;> rfl
@[simp] theorem resetDlc_position (s : State) : (s.resetDlc).position = s.position := by unfold State.resetDlc; dsimp only; split <;> rfl
@[simp] theorem resetDlc_chainEnd (s : State) : (s.resetDlc).chainEnd = s.chainEnd := by unfold State.resetDlc; dsimp only; split <;> rfl
@[simp] theorem resetDlc_otq (s : State) : (s.resetDlc).otq = s.otq := by unfold State.resetDlc; dsimp only; split <;> rfl
@[simp] theorem resetDlc_htq (s : State) : (s.resetDlc).htq = s.htq := by unfold State.resetDlc; dsimp only; split <;> rfl
@[simp] theorem resetDlc_inbox (s : State) : (s.resetDlc).inbox = s.inbox := by unfold State.resetDlc; dsimp only; split <;> rfl
@[simp] theorem resetDlc_uTx (s : State) : (s.resetDlc).uTx = s.uTx := by unfold State.resetDlc; dsimp only; split <;> rfl
@[simp] theorem resetDlc_dTx (s : State) : (s.resetDlc).dTx = s.dTx := by unfold State.resetDlc; dsimp only; split <;> rfl
@[simp] theorem resetDlc_streak (s : State) : (s.resetDlc).streak = s.streak := by unfold State.resetDlc; dsimp only; split <;> rfl
@[simp] theorem resetDlc_loq (s : State) : (s.resetDlc).loq = s.loq := by unfold State.resetDlc; dsimp only; split <;> rfl
@[simp] theorem resetDlc_notice (s : State) : (s.resetDlc).notice = s.notice := by unfold State.resetDlc; dsimp only; split <;> rfl
@[simp] theorem resetDlc_queue (s : State) : (s.resetDlc).queue = s.queue := by unfold State.resetDlc; dsimp only; split <;> rfl
@[simp] theorem resetDlc_nodes (s : State) : (s.resetDlc).nodes = s.nodes := by unfold State.resetDlc; dsimp only; split <;> rfl
@[simp] theorem resetDlc_bank0 (s : State) : (s.resetDlc).bank0 = s.bank0 := by unfold State.resetDlc; dsimp only; split <;> rfl
@[simp] theorem resetDlc_bank1 (s : State) : (s.resetDlc).bank1 = s.bank1 := by unfold State.resetDlc; dsimp only; split <;> rfl
@[simp] theorem resetDlc_activeBank (s : State) : (s.resetDlc).activeBank = s.activeBank := by unfold State.resetDlc; dsimp only; split <;> rfl
@[simp] theorem resetDlc_epoch (s : State) : (s.resetDlc).epoch = s.epoch := by unfold State.resetDlc; dsimp only; split <;> rfl
@[simp] theorem resetDlc_commit (s : State) : (s.resetDlc).commit = s.commit := by unfold State.resetDlc; dsimp only; split <;> rfl
@[simp] theorem resetDlc_scan (s : State) : (s.resetDlc).scan = s.scan := by unfold State.resetDlc; dsimp only; split <;> rfl
@[simp] theorem resetDlc_params (s : State) : (s.resetDlc).params = s.params := by unfold State.resetDlc; dsimp only; split <;> rfl
@[simp] theorem resetDlc_faults (s : State) : (s.resetDlc).faults = s.faults := by unfold State.resetDlc; dsimp only; split <;> rfl
@[simp] theorem resetDlc_counters (s : State) : (s.resetDlc).counters = s.counters := by unfold State.resetDlc; dsimp only; split <;> rfl
@[simp] theorem resetDlc_timer (s : State) : (s.resetDlc).timer = s.timer := by unfold State.resetDlc; dsimp only; split <;> rfl
@[simp] theorem resetDlc_pending (s : State) : (s.resetDlc).pending = s.pending := by unfold State.resetDlc; dsimp only; split <;> rfl

@[simp] theorem resetLineSettings_inReset (s : State) : (s.resetLineSettings).inReset = s.inReset := by unfold State.resetLineSettings; split <;> rfl
@[simp] theorem resetLineSettings_portU (s : State) : (s.resetLineSettings).portU = s.portU := by unfold State.resetLineSettings; split <;> rfl
@[simp] theorem resetLineSettings_portD (s : State) : (s.resetLineSettings).portD = s.portD := by unfold State.resetLineSettings; split <;> rfl
@[simp] theorem resetLineSettings_position (s : State) : (s.resetLineSettings).position = s.position := by unfold State.resetLineSettings; split <;> rfl
@[simp] theorem resetLineSettings_chainEnd (s : State) : (s.resetLineSettings).chainEnd = s.chainEnd := by unfold State.resetLineSettings; split <;> rfl
@[simp] theorem resetLineSettings_otq (s : State) : (s.resetLineSettings).otq = s.otq := by unfold State.resetLineSettings; split <;> rfl
@[simp] theorem resetLineSettings_htq (s : State) : (s.resetLineSettings).htq = s.htq := by unfold State.resetLineSettings; split <;> rfl
@[simp] theorem resetLineSettings_inbox (s : State) : (s.resetLineSettings).inbox = s.inbox := by unfold State.resetLineSettings; split <;> rfl
@[simp] theorem resetLineSettings_uTx (s : State) : (s.resetLineSettings).uTx = s.uTx := by unfold State.resetLineSettings; split <;> rfl
@[simp] theorem resetLineSettings_dTx (s : State) : (s.resetLineSettings).dTx = s.dTx := by unfold State.resetLineSettings; split <;> rfl
@[simp] theorem resetLineSettings_streak (s : State) : (s.resetLineSettings).streak = s.streak := by unfold State.resetLineSettings; split <;> rfl
@[simp] theorem resetLineSettings_loq (s : State) : (s.resetLineSettings).loq = s.loq := by unfold State.resetLineSettings; split <;> rfl
@[simp] theorem resetLineSettings_notice (s : State) : (s.resetLineSettings).notice = s.notice := by unfold State.resetLineSettings; split <;> rfl
@[simp] theorem resetLineSettings_queue (s : State) : (s.resetLineSettings).queue = s.queue := by unfold State.resetLineSettings; split <;> rfl
@[simp] theorem resetLineSettings_nodes (s : State) : (s.resetLineSettings).nodes = s.nodes := by unfold State.resetLineSettings; split <;> rfl
@[simp] theorem resetLineSettings_bank0 (s : State) : (s.resetLineSettings).bank0 = s.bank0 := by unfold State.resetLineSettings; split <;> rfl
@[simp] theorem resetLineSettings_bank1 (s : State) : (s.resetLineSettings).bank1 = s.bank1 := by unfold State.resetLineSettings; split <;> rfl
@[simp] theorem resetLineSettings_activeBank (s : State) : (s.resetLineSettings).activeBank = s.activeBank := by unfold State.resetLineSettings; split <;> rfl
@[simp] theorem resetLineSettings_epoch (s : State) : (s.resetLineSettings).epoch = s.epoch := by unfold State.resetLineSettings; split <;> rfl
@[simp] theorem resetLineSettings_commit (s : State) : (s.resetLineSettings).commit = s.commit := by unfold State.resetLineSettings; split <;> rfl
@[simp] theorem resetLineSettings_scan (s : State) : (s.resetLineSettings).scan = s.scan := by unfold State.resetLineSettings; split <;> rfl
@[simp] theorem resetLineSettings_params (s : State) : (s.resetLineSettings).params = s.params := by unfold State.resetLineSettings; split <;> rfl
@[simp] theorem resetLineSettings_faults (s : State) : (s.resetLineSettings).faults = s.faults := by unfold State.resetLineSettings; split <;> rfl
@[simp] theorem resetLineSettings_counters (s : State) : (s.resetLineSettings).counters = s.counters := by unfold State.resetLineSettings; split <;> rfl
@[simp] theorem resetLineSettings_timer (s : State) : (s.resetLineSettings).timer = s.timer := by unfold State.resetLineSettings; split <;> rfl
@[simp] theorem resetLineSettings_pending (s : State) : (s.resetLineSettings).pending = s.pending := by unfold State.resetLineSettings; split <;> rfl

@[simp] theorem resetQueues_inReset (s : State) : (s.resetQueues).inReset = s.inReset := by unfold State.resetQueues; exact resetDlc_inReset s
@[simp] theorem resetQueues_portU (s : State) : (s.resetQueues).portU = s.portU := by unfold State.resetQueues; exact resetDlc_portU s
@[simp] theorem resetQueues_portD (s : State) : (s.resetQueues).portD = s.portD := by unfold State.resetQueues; exact resetDlc_portD s
@[simp] theorem resetQueues_position (s : State) : (s.resetQueues).position = s.position := by unfold State.resetQueues; exact resetDlc_position s
@[simp] theorem resetQueues_otq (s : State) : (s.resetQueues).otq = s.otq := by unfold State.resetQueues; exact resetDlc_otq s
@[simp] theorem resetQueues_htq (s : State) : (s.resetQueues).htq = s.htq := by unfold State.resetQueues; exact resetDlc_htq s
@[simp] theorem resetQueues_dTx (s : State) : (s.resetQueues).dTx = s.dTx := by unfold State.resetQueues; exact resetDlc_dTx s
@[simp] theorem resetQueues_notice (s : State) : (s.resetQueues).notice = s.notice := by unfold State.resetQueues; exact resetDlc_notice s
@[simp] theorem resetQueues_nodes (s : State) : (s.resetQueues).nodes = s.nodes := by unfold State.resetQueues; exact resetDlc_nodes s
@[simp] theorem resetQueues_bank0 (s : State) : (s.resetQueues).bank0 = s.bank0 := by unfold State.resetQueues; exact resetDlc_bank0 s
@[simp] theorem resetQueues_bank1 (s : State) : (s.resetQueues).bank1 = s.bank1 := by unfold State.resetQueues; exact resetDlc_bank1 s
@[simp] theorem resetQueues_activeBank (s : State) : (s.resetQueues).activeBank = s.activeBank := by unfold State.resetQueues; exact resetDlc_activeBank s
@[simp] theorem resetQueues_epoch (s : State) : (s.resetQueues).epoch = s.epoch := by unfold State.resetQueues; exact resetDlc_epoch s
@[simp] theorem resetQueues_params (s : State) : (s.resetQueues).params = s.params := by unfold State.resetQueues; exact resetDlc_params s
@[simp] theorem resetQueues_faults (s : State) : (s.resetQueues).faults = s.faults := by unfold State.resetQueues; exact resetDlc_faults s
@[simp] theorem resetQueues_counters (s : State) : (s.resetQueues).counters = s.counters := by unfold State.resetQueues; exact resetDlc_counters s
@[simp] theorem resetQueues_timer (s : State) : (s.resetQueues).timer = s.timer := by unfold State.resetQueues; exact resetDlc_timer s
@[simp] theorem resetQueues_pending (s : State) : (s.resetQueues).pending = s.pending := by unfold State.resetQueues; exact resetDlc_pending s

@[simp] theorem resetFull_inReset (s : State) : (s.resetFull).inReset = s.inReset := by unfold State.resetFull; exact resetLineSettings_inReset s
@[simp] theorem resetFull_portU (s : State) : (s.resetFull).portU = s.portU := by unfold State.resetFull; exact resetLineSettings_portU s
@[simp] theorem resetFull_portD (s : State) : (s.resetFull).portD = s.portD := by unfold State.resetFull; exact resetLineSettings_portD s
@[simp] theorem resetFull_position (s : State) : (s.resetFull).position = s.position := by unfold State.resetFull; exact resetLineSettings_position s
@[simp] theorem resetFull_chainEnd (s : State) : (s.resetFull).chainEnd = s.chainEnd := by unfold State.resetFull; exact resetLineSettings_chainEnd s
@[simp] theorem resetFull_otq (s : State) : (s.resetFull).otq = s.otq := by unfold State.resetFull; exact resetLineSettings_otq s
@[simp] theorem resetFull_htq (s : State) : (s.resetFull).htq = s.htq := by unfold State.resetFull; exact resetLineSettings_htq s
@[simp] theorem resetFull_inbox (s : State) : (s.resetFull).inbox = s.inbox := by unfold State.resetFull; exact resetLineSettings_inbox s
@[simp] theorem resetFull_uTx (s : State) : (s.resetFull).uTx = s.uTx := by unfold State.resetFull; exact resetLineSettings_uTx s
@[simp] theorem resetFull_dTx (s : State) : (s.resetFull).dTx = s.dTx := by unfold State.resetFull; exact resetLineSettings_dTx s
@[simp] theorem resetFull_streak (s : State) : (s.resetFull).streak = s.streak := by unfold State.resetFull; exact resetLineSettings_streak s
@[simp] theorem resetFull_loq (s : State) : (s.resetFull).loq = s.loq := by unfold State.resetFull; exact resetLineSettings_loq s
@[simp] theorem resetFull_queue (s : State) : (s.resetFull).queue = s.queue := by unfold State.resetFull; exact resetLineSettings_queue s
@[simp] theorem resetFull_commit (s : State) : (s.resetFull).commit = s.commit := by unfold State.resetFull; exact resetLineSettings_commit s
@[simp] theorem resetFull_timer (s : State) : (s.resetFull).timer = s.timer := by unfold State.resetFull; exact resetLineSettings_timer s
@[simp] theorem resetFull_pending (s : State) : (s.resetFull).pending = s.pending := by unfold State.resetFull; exact resetLineSettings_pending s

end Sys2Proof.Machine
end

