-- ==== Sys2Proof/Laws/Frames.lean ====
section
/-! SUPPORT. One lemma for each field that each shared operation leaves as it was. -/

namespace Sys2Proof.Machine

set_option Elab.async false

/-! ### Ops.lean -/

@[simp] theorem scanJudged_inReset (r : ScanRecord) (o : OutcomeCode) (d : List Byte) (s : State) : (s.scanJudged r o d).inReset = s.inReset := by simp only [State.scanJudged]; (repeat' split) <;> simp
@[simp] theorem scanJudged_portU (r : ScanRecord) (o : OutcomeCode) (d : List Byte) (s : State) : (s.scanJudged r o d).portU = s.portU := by simp only [State.scanJudged]; (repeat' split) <;> simp
@[simp] theorem scanJudged_portD (r : ScanRecord) (o : OutcomeCode) (d : List Byte) (s : State) : (s.scanJudged r o d).portD = s.portD := by simp only [State.scanJudged]; (repeat' split) <;> simp
@[simp] theorem scanJudged_position (r : ScanRecord) (o : OutcomeCode) (d : List Byte) (s : State) : (s.scanJudged r o d).position = s.position := by simp only [State.scanJudged]; (repeat' split) <;> simp
@[simp] theorem scanJudged_chainEnd (r : ScanRecord) (o : OutcomeCode) (d : List Byte) (s : State) : (s.scanJudged r o d).chainEnd = s.chainEnd := by simp only [State.scanJudged]; (repeat' split) <;> simp
@[simp] theorem scanJudged_otq (r : ScanRecord) (o : OutcomeCode) (d : List Byte) (s : State) : (s.scanJudged r o d).otq = s.otq := by simp only [State.scanJudged]; (repeat' split) <;> simp
@[simp] theorem scanJudged_htq (r : ScanRecord) (o : OutcomeCode) (d : List Byte) (s : State) : (s.scanJudged r o d).htq = s.htq := by simp only [State.scanJudged]; (repeat' split) <;> simp
@[simp] theorem scanJudged_inbox (r : ScanRecord) (o : OutcomeCode) (d : List Byte) (s : State) : (s.scanJudged r o d).inbox = s.inbox := by simp only [State.scanJudged]; (repeat' split) <;> simp
@[simp] theorem scanJudged_uTx (r : ScanRecord) (o : OutcomeCode) (d : List Byte) (s : State) : (s.scanJudged r o d).uTx = s.uTx := by simp only [State.scanJudged]; (repeat' split) <;> simp
@[simp] theorem scanJudged_dTx (r : ScanRecord) (o : OutcomeCode) (d : List Byte) (s : State) : (s.scanJudged r o d).dTx = s.dTx := by simp only [State.scanJudged]; (repeat' split) <;> simp
@[simp] theorem scanJudged_streak (r : ScanRecord) (o : OutcomeCode) (d : List Byte) (s : State) : (s.scanJudged r o d).streak = s.streak := by simp only [State.scanJudged]; (repeat' split) <;> simp
@[simp] theorem scanJudged_notice (r : ScanRecord) (o : OutcomeCode) (d : List Byte) (s : State) : (s.scanJudged r o d).notice = s.notice := by simp only [State.scanJudged]; (repeat' split) <;> simp
@[simp] theorem scanJudged_queue (r : ScanRecord) (o : OutcomeCode) (d : List Byte) (s : State) : (s.scanJudged r o d).queue = s.queue := by simp only [State.scanJudged]; (repeat' split) <;> simp
@[simp] theorem scanJudged_dlc (r : ScanRecord) (o : OutcomeCode) (d : List Byte) (s : State) : (s.scanJudged r o d).dlc = s.dlc := by simp only [State.scanJudged]; (repeat' split) <;> simp
@[simp] theorem scanJudged_nodes (r : ScanRecord) (o : OutcomeCode) (d : List Byte) (s : State) : (s.scanJudged r o d).nodes = s.nodes := by simp only [State.scanJudged]; (repeat' split) <;> simp
@[simp] theorem scanJudged_bank0 (r : ScanRecord) (o : OutcomeCode) (d : List Byte) (s : State) : (s.scanJudged r o d).bank0 = s.bank0 := by simp only [State.scanJudged]; (repeat' split) <;> simp
@[simp] theorem scanJudged_bank1 (r : ScanRecord) (o : OutcomeCode) (d : List Byte) (s : State) : (s.scanJudged r o d).bank1 = s.bank1 := by simp only [State.scanJudged]; (repeat' split) <;> simp
@[simp] theorem scanJudged_activeBank (r : ScanRecord) (o : OutcomeCode) (d : List Byte) (s : State) : (s.scanJudged r o d).activeBank = s.activeBank := by simp only [State.scanJudged]; (repeat' split) <;> simp
@[simp] theorem scanJudged_epoch (r : ScanRecord) (o : OutcomeCode) (d : List Byte) (s : State) : (s.scanJudged r o d).epoch = s.epoch := by simp only [State.scanJudged]; (repeat' split) <;> simp
@[simp] theorem scanJudged_commit (r : ScanRecord) (o : OutcomeCode) (d : List Byte) (s : State) : (s.scanJudged r o d).commit = s.commit := by simp only [State.scanJudged]; (repeat' split) <;> simp
@[simp] theorem scanJudged_params (r : ScanRecord) (o : OutcomeCode) (d : List Byte) (s : State) : (s.scanJudged r o d).params = s.params := by simp only [State.scanJudged]; (repeat' split) <;> simp
@[simp] theorem scanJudged_faults (r : ScanRecord) (o : OutcomeCode) (d : List Byte) (s : State) : (s.scanJudged r o d).faults = s.faults := by simp only [State.scanJudged]; (repeat' split) <;> simp
@[simp] theorem scanJudged_counters (r : ScanRecord) (o : OutcomeCode) (d : List Byte) (s : State) : (s.scanJudged r o d).counters = s.counters := by simp only [State.scanJudged]; (repeat' split) <;> simp
@[simp] theorem scanJudged_timer (r : ScanRecord) (o : OutcomeCode) (d : List Byte) (s : State) : (s.scanJudged r o d).timer = s.timer := by simp only [State.scanJudged]; (repeat' split) <;> simp
@[simp] theorem scanJudged_pending (r : ScanRecord) (o : OutcomeCode) (d : List Byte) (s : State) : (s.scanJudged r o d).pending = s.pending := by simp only [State.scanJudged]; (repeat' split) <;> simp

@[simp] theorem scanUnjudged_inReset (r : ScanRecord) (s : State) : (s.scanUnjudged r).inReset = s.inReset := by simp [State.scanUnjudged]
@[simp] theorem scanUnjudged_portU (r : ScanRecord) (s : State) : (s.scanUnjudged r).portU = s.portU := by simp [State.scanUnjudged]
@[simp] theorem scanUnjudged_portD (r : ScanRecord) (s : State) : (s.scanUnjudged r).portD = s.portD := by simp [State.scanUnjudged]
@[simp] theorem scanUnjudged_position (r : ScanRecord) (s : State) : (s.scanUnjudged r).position = s.position := by simp [State.scanUnjudged]
@[simp] theorem scanUnjudged_chainEnd (r : ScanRecord) (s : State) : (s.scanUnjudged r).chainEnd = s.chainEnd := by simp [State.scanUnjudged]
@[simp] theorem scanUnjudged_otq (r : ScanRecord) (s : State) : (s.scanUnjudged r).otq = s.otq := by simp [State.scanUnjudged]
@[simp] theorem scanUnjudged_htq (r : ScanRecord) (s : State) : (s.scanUnjudged r).htq = s.htq := by simp [State.scanUnjudged]
@[simp] theorem scanUnjudged_inbox (r : ScanRecord) (s : State) : (s.scanUnjudged r).inbox = s.inbox := by simp [State.scanUnjudged]
@[simp] theorem scanUnjudged_uTx (r : ScanRecord) (s : State) : (s.scanUnjudged r).uTx = s.uTx := by simp [State.scanUnjudged]
@[simp] theorem scanUnjudged_dTx (r : ScanRecord) (s : State) : (s.scanUnjudged r).dTx = s.dTx := by simp [State.scanUnjudged]
@[simp] theorem scanUnjudged_streak (r : ScanRecord) (s : State) : (s.scanUnjudged r).streak = s.streak := by simp [State.scanUnjudged]
@[simp] theorem scanUnjudged_notice (r : ScanRecord) (s : State) : (s.scanUnjudged r).notice = s.notice := by simp [State.scanUnjudged]
@[simp] theorem scanUnjudged_queue (r : ScanRecord) (s : State) : (s.scanUnjudged r).queue = s.queue := by simp [State.scanUnjudged]
@[simp] theorem scanUnjudged_dlc (r : ScanRecord) (s : State) : (s.scanUnjudged r).dlc = s.dlc := by simp [State.scanUnjudged]
@[simp] theorem scanUnjudged_nodes (r : ScanRecord) (s : State) : (s.scanUnjudged r).nodes = s.nodes := by simp [State.scanUnjudged]
@[simp] theorem scanUnjudged_bank0 (r : ScanRecord) (s : State) : (s.scanUnjudged r).bank0 = s.bank0 := by simp [State.scanUnjudged]
@[simp] theorem scanUnjudged_bank1 (r : ScanRecord) (s : State) : (s.scanUnjudged r).bank1 = s.bank1 := by simp [State.scanUnjudged]
@[simp] theorem scanUnjudged_activeBank (r : ScanRecord) (s : State) : (s.scanUnjudged r).activeBank = s.activeBank := by simp [State.scanUnjudged]
@[simp] theorem scanUnjudged_epoch (r : ScanRecord) (s : State) : (s.scanUnjudged r).epoch = s.epoch := by simp [State.scanUnjudged]
@[simp] theorem scanUnjudged_commit (r : ScanRecord) (s : State) : (s.scanUnjudged r).commit = s.commit := by simp [State.scanUnjudged]
@[simp] theorem scanUnjudged_params (r : ScanRecord) (s : State) : (s.scanUnjudged r).params = s.params := by simp [State.scanUnjudged]
@[simp] theorem scanUnjudged_faults (r : ScanRecord) (s : State) : (s.scanUnjudged r).faults = s.faults := by simp [State.scanUnjudged]
@[simp] theorem scanUnjudged_counters (r : ScanRecord) (s : State) : (s.scanUnjudged r).counters = s.counters := by simp [State.scanUnjudged]
@[simp] theorem scanUnjudged_timer (r : ScanRecord) (s : State) : (s.scanUnjudged r).timer = s.timer := by simp [State.scanUnjudged]
@[simp] theorem scanUnjudged_pending (r : ScanRecord) (s : State) : (s.scanUnjudged r).pending = s.pending := by simp [State.scanUnjudged]

@[simp] theorem scanRetired_inReset (t : Retired) (r : ScanRecord) (o : Option OutcomeCode) (d : List Byte) (s : State) : (s.scanRetired t r o d).inReset = s.inReset := by cases o <;> simp [State.scanRetired]
@[simp] theorem scanRetired_portU (t : Retired) (r : ScanRecord) (o : Option OutcomeCode) (d : List Byte) (s : State) : (s.scanRetired t r o d).portU = s.portU := by cases o <;> simp [State.scanRetired]
@[simp] theorem scanRetired_portD (t : Retired) (r : ScanRecord) (o : Option OutcomeCode) (d : List Byte) (s : State) : (s.scanRetired t r o d).portD = s.portD := by cases o <;> simp [State.scanRetired]
@[simp] theorem scanRetired_position (t : Retired) (r : ScanRecord) (o : Option OutcomeCode) (d : List Byte) (s : State) : (s.scanRetired t r o d).position = s.position := by cases o <;> simp [State.scanRetired]
@[simp] theorem scanRetired_chainEnd (t : Retired) (r : ScanRecord) (o : Option OutcomeCode) (d : List Byte) (s : State) : (s.scanRetired t r o d).chainEnd = s.chainEnd := by cases o <;> simp [State.scanRetired]
@[simp] theorem scanRetired_otq (t : Retired) (r : ScanRecord) (o : Option OutcomeCode) (d : List Byte) (s : State) : (s.scanRetired t r o d).otq = s.otq := by cases o <;> simp [State.scanRetired]
@[simp] theorem scanRetired_htq (t : Retired) (r : ScanRecord) (o : Option OutcomeCode) (d : List Byte) (s : State) : (s.scanRetired t r o d).htq = s.htq := by cases o <;> simp [State.scanRetired]
@[simp] theorem scanRetired_inbox (t : Retired) (r : ScanRecord) (o : Option OutcomeCode) (d : List Byte) (s : State) : (s.scanRetired t r o d).inbox = s.inbox := by cases o <;> simp [State.scanRetired]
@[simp] theorem scanRetired_uTx (t : Retired) (r : ScanRecord) (o : Option OutcomeCode) (d : List Byte) (s : State) : (s.scanRetired t r o d).uTx = s.uTx := by cases o <;> simp [State.scanRetired]
@[simp] theorem scanRetired_dTx (t : Retired) (r : ScanRecord) (o : Option OutcomeCode) (d : List Byte) (s : State) : (s.scanRetired t r o d).dTx = s.dTx := by cases o <;> simp [State.scanRetired]
@[simp] theorem scanRetired_streak (t : Retired) (r : ScanRecord) (o : Option OutcomeCode) (d : List Byte) (s : State) : (s.scanRetired t r o d).streak = s.streak := by cases o <;> simp [State.scanRetired]
@[simp] theorem scanRetired_notice (t : Retired) (r : ScanRecord) (o : Option OutcomeCode) (d : List Byte) (s : State) : (s.scanRetired t r o d).notice = s.notice := by cases o <;> simp [State.scanRetired]
@[simp] theorem scanRetired_queue (t : Retired) (r : ScanRecord) (o : Option OutcomeCode) (d : List Byte) (s : State) : (s.scanRetired t r o d).queue = s.queue := by cases o <;> simp [State.scanRetired]
@[simp] theorem scanRetired_dlc (t : Retired) (r : ScanRecord) (o : Option OutcomeCode) (d : List Byte) (s : State) : (s.scanRetired t r o d).dlc = s.dlc := by cases o <;> simp [State.scanRetired]
@[simp] theorem scanRetired_nodes (t : Retired) (r : ScanRecord) (o : Option OutcomeCode) (d : List Byte) (s : State) : (s.scanRetired t r o d).nodes = s.nodes := by cases o <;> simp [State.scanRetired]
@[simp] theorem scanRetired_bank0 (t : Retired) (r : ScanRecord) (o : Option OutcomeCode) (d : List Byte) (s : State) : (s.scanRetired t r o d).bank0 = s.bank0 := by cases o <;> simp [State.scanRetired]
@[simp] theorem scanRetired_bank1 (t : Retired) (r : ScanRecord) (o : Option OutcomeCode) (d : List Byte) (s : State) : (s.scanRetired t r o d).bank1 = s.bank1 := by cases o <;> simp [State.scanRetired]
@[simp] theorem scanRetired_activeBank (t : Retired) (r : ScanRecord) (o : Option OutcomeCode) (d : List Byte) (s : State) : (s.scanRetired t r o d).activeBank = s.activeBank := by cases o <;> simp [State.scanRetired]
@[simp] theorem scanRetired_epoch (t : Retired) (r : ScanRecord) (o : Option OutcomeCode) (d : List Byte) (s : State) : (s.scanRetired t r o d).epoch = s.epoch := by cases o <;> simp [State.scanRetired]
@[simp] theorem scanRetired_commit (t : Retired) (r : ScanRecord) (o : Option OutcomeCode) (d : List Byte) (s : State) : (s.scanRetired t r o d).commit = s.commit := by cases o <;> simp [State.scanRetired]
@[simp] theorem scanRetired_params (t : Retired) (r : ScanRecord) (o : Option OutcomeCode) (d : List Byte) (s : State) : (s.scanRetired t r o d).params = s.params := by cases o <;> simp [State.scanRetired]
@[simp] theorem scanRetired_faults (t : Retired) (r : ScanRecord) (o : Option OutcomeCode) (d : List Byte) (s : State) : (s.scanRetired t r o d).faults = s.faults := by cases o <;> simp [State.scanRetired]
@[simp] theorem scanRetired_counters (t : Retired) (r : ScanRecord) (o : Option OutcomeCode) (d : List Byte) (s : State) : (s.scanRetired t r o d).counters = s.counters := by cases o <;> simp [State.scanRetired]
@[simp] theorem scanRetired_timer (t : Retired) (r : ScanRecord) (o : Option OutcomeCode) (d : List Byte) (s : State) : (s.scanRetired t r o d).timer = s.timer := by cases o <;> simp [State.scanRetired]
@[simp] theorem scanRetired_pending (t : Retired) (r : ScanRecord) (o : Option OutcomeCode) (d : List Byte) (s : State) : (s.scanRetired t r o d).pending = s.pending := by cases o <;> simp [State.scanRetired]

@[simp] theorem offlineDue_inReset (i : Nat) (img : Image) (s : State) : (s.offlineDue i img).inReset = s.inReset := by simp only [State.offlineDue]; (repeat' split) <;> simp
@[simp] theorem offlineDue_portU (i : Nat) (img : Image) (s : State) : (s.offlineDue i img).portU = s.portU := by simp only [State.offlineDue]; (repeat' split) <;> simp
@[simp] theorem offlineDue_portD (i : Nat) (img : Image) (s : State) : (s.offlineDue i img).portD = s.portD := by simp only [State.offlineDue]; (repeat' split) <;> simp
@[simp] theorem offlineDue_position (i : Nat) (img : Image) (s : State) : (s.offlineDue i img).position = s.position := by simp only [State.offlineDue]; (repeat' split) <;> simp
@[simp] theorem offlineDue_chainEnd (i : Nat) (img : Image) (s : State) : (s.offlineDue i img).chainEnd = s.chainEnd := by simp only [State.offlineDue]; (repeat' split) <;> simp
@[simp] theorem offlineDue_otq (i : Nat) (img : Image) (s : State) : (s.offlineDue i img).otq = s.otq := by simp only [State.offlineDue]; (repeat' split) <;> simp
@[simp] theorem offlineDue_htq (i : Nat) (img : Image) (s : State) : (s.offlineDue i img).htq = s.htq := by simp only [State.offlineDue]; (repeat' split) <;> simp
@[simp] theorem offlineDue_inbox (i : Nat) (img : Image) (s : State) : (s.offlineDue i img).inbox = s.inbox := by simp only [State.offlineDue]; (repeat' split) <;> simp
@[simp] theorem offlineDue_uTx (i : Nat) (img : Image) (s : State) : (s.offlineDue i img).uTx = s.uTx := by simp only [State.offlineDue]; (repeat' split) <;> simp
@[simp] theorem offlineDue_dTx (i : Nat) (img : Image) (s : State) : (s.offlineDue i img).dTx = s.dTx := by simp only [State.offlineDue]; (repeat' split) <;> simp
@[simp] theorem offlineDue_streak (i : Nat) (img : Image) (s : State) : (s.offlineDue i img).streak = s.streak := by simp only [State.offlineDue]; (repeat' split) <;> simp
@[simp] theorem offlineDue_notice (i : Nat) (img : Image) (s : State) : (s.offlineDue i img).notice = s.notice := by simp only [State.offlineDue]; (repeat' split) <;> simp
@[simp] theorem offlineDue_queue (i : Nat) (img : Image) (s : State) : (s.offlineDue i img).queue = s.queue := by simp only [State.offlineDue]; (repeat' split) <;> simp
@[simp] theorem offlineDue_dlc (i : Nat) (img : Image) (s : State) : (s.offlineDue i img).dlc = s.dlc := by simp only [State.offlineDue]; (repeat' split) <;> simp
@[simp] theorem offlineDue_nodes (i : Nat) (img : Image) (s : State) : (s.offlineDue i img).nodes = s.nodes := by simp only [State.offlineDue]; (repeat' split) <;> simp
@[simp] theorem offlineDue_bank0 (i : Nat) (img : Image) (s : State) : (s.offlineDue i img).bank0 = s.bank0 := by simp only [State.offlineDue]; (repeat' split) <;> simp
@[simp] theorem offlineDue_bank1 (i : Nat) (img : Image) (s : State) : (s.offlineDue i img).bank1 = s.bank1 := by simp only [State.offlineDue]; (repeat' split) <;> simp
@[simp] theorem offlineDue_activeBank (i : Nat) (img : Image) (s : State) : (s.offlineDue i img).activeBank = s.activeBank := by simp only [State.offlineDue]; (repeat' split) <;> simp
@[simp] theorem offlineDue_epoch (i : Nat) (img : Image) (s : State) : (s.offlineDue i img).epoch = s.epoch := by simp only [State.offlineDue]; (repeat' split) <;> simp
@[simp] theorem offlineDue_commit (i : Nat) (img : Image) (s : State) : (s.offlineDue i img).commit = s.commit := by simp only [State.offlineDue]; (repeat' split) <;> simp
@[simp] theorem offlineDue_params (i : Nat) (img : Image) (s : State) : (s.offlineDue i img).params = s.params := by simp only [State.offlineDue]; (repeat' split) <;> simp
@[simp] theorem offlineDue_faults (i : Nat) (img : Image) (s : State) : (s.offlineDue i img).faults = s.faults := by simp only [State.offlineDue]; (repeat' split) <;> simp
@[simp] theorem offlineDue_timer (i : Nat) (img : Image) (s : State) : (s.offlineDue i img).timer = s.timer := by simp only [State.offlineDue]; (repeat' split) <;> simp
@[simp] theorem offlineDue_pending (i : Nat) (img : Image) (s : State) : (s.offlineDue i img).pending = s.pending := by simp only [State.offlineDue]; (repeat' split) <;> simp

@[simp] theorem judgeDue_inReset (i : Nat) (s : State) : (s.judgeDue i).inReset = s.inReset := by simp only [State.judgeDue]; (repeat' split) <;> simp
@[simp] theorem judgeDue_portU (i : Nat) (s : State) : (s.judgeDue i).portU = s.portU := by simp only [State.judgeDue]; (repeat' split) <;> simp
@[simp] theorem judgeDue_portD (i : Nat) (s : State) : (s.judgeDue i).portD = s.portD := by simp only [State.judgeDue]; (repeat' split) <;> simp
@[simp] theorem judgeDue_position (i : Nat) (s : State) : (s.judgeDue i).position = s.position := by simp only [State.judgeDue]; (repeat' split) <;> simp
@[simp] theorem judgeDue_chainEnd (i : Nat) (s : State) : (s.judgeDue i).chainEnd = s.chainEnd := by simp only [State.judgeDue]; (repeat' split) <;> simp
@[simp] theorem judgeDue_otq (i : Nat) (s : State) : (s.judgeDue i).otq = s.otq := by simp only [State.judgeDue]; (repeat' split) <;> simp
@[simp] theorem judgeDue_htq (i : Nat) (s : State) : (s.judgeDue i).htq = s.htq := by simp only [State.judgeDue]; (repeat' split) <;> simp
@[simp] theorem judgeDue_inbox (i : Nat) (s : State) : (s.judgeDue i).inbox = s.inbox := by simp only [State.judgeDue]; (repeat' split) <;> simp
@[simp] theorem judgeDue_uTx (i : Nat) (s : State) : (s.judgeDue i).uTx = s.uTx := by simp only [State.judgeDue]; (repeat' split) <;> simp
@[simp] theorem judgeDue_dTx (i : Nat) (s : State) : (s.judgeDue i).dTx = s.dTx := by simp only [State.judgeDue]; (repeat' split) <;> simp
@[simp] theorem judgeDue_streak (i : Nat) (s : State) : (s.judgeDue i).streak = s.streak := by simp only [State.judgeDue]; (repeat' split) <;> simp
@[simp] theorem judgeDue_notice (i : Nat) (s : State) : (s.judgeDue i).notice = s.notice := by simp only [State.judgeDue]; (repeat' split) <;> simp
@[simp] theorem judgeDue_dlc (i : Nat) (s : State) : (s.judgeDue i).dlc = s.dlc := by simp only [State.judgeDue]; (repeat' split) <;> simp
@[simp] theorem judgeDue_nodes (i : Nat) (s : State) : (s.judgeDue i).nodes = s.nodes := by simp only [State.judgeDue]; (repeat' split) <;> simp
@[simp] theorem judgeDue_bank0 (i : Nat) (s : State) : (s.judgeDue i).bank0 = s.bank0 := by simp only [State.judgeDue]; (repeat' split) <;> simp
@[simp] theorem judgeDue_bank1 (i : Nat) (s : State) : (s.judgeDue i).bank1 = s.bank1 := by simp only [State.judgeDue]; (repeat' split) <;> simp
@[simp] theorem judgeDue_activeBank (i : Nat) (s : State) : (s.judgeDue i).activeBank = s.activeBank := by simp only [State.judgeDue]; (repeat' split) <;> simp
@[simp] theorem judgeDue_epoch (i : Nat) (s : State) : (s.judgeDue i).epoch = s.epoch := by simp only [State.judgeDue]; (repeat' split) <;> simp
@[simp] theorem judgeDue_commit (i : Nat) (s : State) : (s.judgeDue i).commit = s.commit := by simp only [State.judgeDue]; (repeat' split) <;> simp
@[simp] theorem judgeDue_params (i : Nat) (s : State) : (s.judgeDue i).params = s.params := by simp only [State.judgeDue]; (repeat' split) <;> simp
@[simp] theorem judgeDue_faults (i : Nat) (s : State) : (s.judgeDue i).faults = s.faults := by simp only [State.judgeDue]; (repeat' split) <;> simp
@[simp] theorem judgeDue_timer (i : Nat) (s : State) : (s.judgeDue i).timer = s.timer := by simp only [State.judgeDue]; (repeat' split) <;> simp
@[simp] theorem judgeDue_pending (i : Nat) (s : State) : (s.judgeDue i).pending = s.pending := by simp only [State.judgeDue]; (repeat' split) <;> simp

theorem fold_judgeDue_inReset (l : List Nat) (s : State) : (l.foldl (fun t i => t.judgeDue i) s).inReset = s.inReset := by
  induction l generalizing s with
  | nil => rfl
  | cons a l ih => rw [List.foldl_cons, ih]; exact judgeDue_inReset _ _
theorem fold_judgeDue_portU (l : List Nat) (s : State) : (l.foldl (fun t i => t.judgeDue i) s).portU = s.portU := by
  induction l generalizing s with
  | nil => rfl
  | cons a l ih => rw [List.foldl_cons, ih]; exact judgeDue_portU _ _
theorem fold_judgeDue_portD (l : List Nat) (s : State) : (l.foldl (fun t i => t.judgeDue i) s).portD = s.portD := by
  induction l generalizing s with
  | nil => rfl
  | cons a l ih => rw [List.foldl_cons, ih]; exact judgeDue_portD _ _
theorem fold_judgeDue_position (l : List Nat) (s : State) : (l.foldl (fun t i => t.judgeDue i) s).position = s.position := by
  induction l generalizing s with
  | nil => rfl
  | cons a l ih => rw [List.foldl_cons, ih]; exact judgeDue_position _ _
theorem fold_judgeDue_chainEnd (l : List Nat) (s : State) : (l.foldl (fun t i => t.judgeDue i) s).chainEnd = s.chainEnd := by
  induction l generalizing s with
  | nil => rfl
  | cons a l ih => rw [List.foldl_cons, ih]; exact judgeDue_chainEnd _ _
theorem fold_judgeDue_otq (l : List Nat) (s : State) : (l.foldl (fun t i => t.judgeDue i) s).otq = s.otq := by
  induction l generalizing s with
  | nil => rfl
  | cons a l ih => rw [List.foldl_cons, ih]; exact judgeDue_otq _ _
theorem fold_judgeDue_htq (l : List Nat) (s : State) : (l.foldl (fun t i => t.judgeDue i) s).htq = s.htq := by
  induction l generalizing s with
  | nil => rfl
  | cons a l ih => rw [List.foldl_cons, ih]; exact judgeDue_htq _ _
theorem fold_judgeDue_inbox (l : List Nat) (s : State) : (l.foldl (fun t i => t.judgeDue i) s).inbox = s.inbox := by
  induction l generalizing s with
  | nil => rfl
  | cons a l ih => rw [List.foldl_cons, ih]; exact judgeDue_inbox _ _
theorem fold_judgeDue_uTx (l : List Nat) (s : State) : (l.foldl (fun t i => t.judgeDue i) s).uTx = s.uTx := by
  induction l generalizing s with
  | nil => rfl
  | cons a l ih => rw [List.foldl_cons, ih]; exact judgeDue_uTx _ _
theorem fold_judgeDue_dTx (l : List Nat) (s : State) : (l.foldl (fun t i => t.judgeDue i) s).dTx = s.dTx := by
  induction l generalizing s with
  | nil => rfl
  | cons a l ih => rw [List.foldl_cons, ih]; exact judgeDue_dTx _ _
theorem fold_judgeDue_streak (l : List Nat) (s : State) : (l.foldl (fun t i => t.judgeDue i) s).streak = s.streak := by
  induction l generalizing s with
  | nil => rfl
  | cons a l ih => rw [List.foldl_cons, ih]; exact judgeDue_streak _ _
theorem fold_judgeDue_notice (l : List Nat) (s : State) : (l.foldl (fun t i => t.judgeDue i) s).notice = s.notice := by
  induction l generalizing s with
  | nil => rfl
  | cons a l ih => rw [List.foldl_cons, ih]; exact judgeDue_notice _ _
theorem fold_judgeDue_dlc (l : List Nat) (s : State) : (l.foldl (fun t i => t.judgeDue i) s).dlc = s.dlc := by
  induction l generalizing s with
  | nil => rfl
  | cons a l ih => rw [List.foldl_cons, ih]; exact judgeDue_dlc _ _
theorem fold_judgeDue_nodes (l : List Nat) (s : State) : (l.foldl (fun t i => t.judgeDue i) s).nodes = s.nodes := by
  induction l generalizing s with
  | nil => rfl
  | cons a l ih => rw [List.foldl_cons, ih]; exact judgeDue_nodes _ _
theorem fold_judgeDue_bank0 (l : List Nat) (s : State) : (l.foldl (fun t i => t.judgeDue i) s).bank0 = s.bank0 := by
  induction l generalizing s with
  | nil => rfl
  | cons a l ih => rw [List.foldl_cons, ih]; exact judgeDue_bank0 _ _
theorem fold_judgeDue_bank1 (l : List Nat) (s : State) : (l.foldl (fun t i => t.judgeDue i) s).bank1 = s.bank1 := by
  induction l generalizing s with
  | nil => rfl
  | cons a l ih => rw [List.foldl_cons, ih]; exact judgeDue_bank1 _ _
theorem fold_judgeDue_activeBank (l : List Nat) (s : State) : (l.foldl (fun t i => t.judgeDue i) s).activeBank = s.activeBank := by
  induction l generalizing s with
  | nil => rfl
  | cons a l ih => rw [List.foldl_cons, ih]; exact judgeDue_activeBank _ _
theorem fold_judgeDue_epoch (l : List Nat) (s : State) : (l.foldl (fun t i => t.judgeDue i) s).epoch = s.epoch := by
  induction l generalizing s with
  | nil => rfl
  | cons a l ih => rw [List.foldl_cons, ih]; exact judgeDue_epoch _ _
theorem fold_judgeDue_commit (l : List Nat) (s : State) : (l.foldl (fun t i => t.judgeDue i) s).commit = s.commit := by
  induction l generalizing s with
  | nil => rfl
  | cons a l ih => rw [List.foldl_cons, ih]; exact judgeDue_commit _ _
theorem fold_judgeDue_params (l : List Nat) (s : State) : (l.foldl (fun t i => t.judgeDue i) s).params = s.params := by
  induction l generalizing s with
  | nil => rfl
  | cons a l ih => rw [List.foldl_cons, ih]; exact judgeDue_params _ _
theorem fold_judgeDue_faults (l : List Nat) (s : State) : (l.foldl (fun t i => t.judgeDue i) s).faults = s.faults := by
  induction l generalizing s with
  | nil => rfl
  | cons a l ih => rw [List.foldl_cons, ih]; exact judgeDue_faults _ _
theorem fold_judgeDue_timer (l : List Nat) (s : State) : (l.foldl (fun t i => t.judgeDue i) s).timer = s.timer := by
  induction l generalizing s with
  | nil => rfl
  | cons a l ih => rw [List.foldl_cons, ih]; exact judgeDue_timer _ _
theorem fold_judgeDue_pending (l : List Nat) (s : State) : (l.foldl (fun t i => t.judgeDue i) s).pending = s.pending := by
  induction l generalizing s with
  | nil => rfl
  | cons a l ih => rw [List.foldl_cons, ih]; exact judgeDue_pending _ _

@[simp] theorem settleDues_inReset (s : State) : (s.settleDues).inReset = s.inReset := fold_judgeDue_inReset _ _
@[simp] theorem settleDues_portU (s : State) : (s.settleDues).portU = s.portU := fold_judgeDue_portU _ _
@[simp] theorem settleDues_portD (s : State) : (s.settleDues).portD = s.portD := fold_judgeDue_portD _ _
@[simp] theorem settleDues_position (s : State) : (s.settleDues).position = s.position := fold_judgeDue_position _ _
@[simp] theorem settleDues_chainEnd (s : State) : (s.settleDues).chainEnd = s.chainEnd := fold_judgeDue_chainEnd _ _
@[simp] theorem settleDues_otq (s : State) : (s.settleDues).otq = s.otq := fold_judgeDue_otq _ _
@[simp] theorem settleDues_htq (s : State) : (s.settleDues).htq = s.htq := fold_judgeDue_htq _ _
@[simp] theorem settleDues_inbox (s : State) : (s.settleDues).inbox = s.inbox := fold_judgeDue_inbox _ _
@[simp] theorem settleDues_uTx (s : State) : (s.settleDues).uTx = s.uTx := fold_judgeDue_uTx _ _
@[simp] theorem settleDues_dTx (s : State) : (s.settleDues).dTx = s.dTx := fold_judgeDue_dTx _ _
@[simp] theorem settleDues_streak (s : State) : (s.settleDues).streak = s.streak := fold_judgeDue_streak _ _
@[simp] theorem settleDues_notice (s : State) : (s.settleDues).notice = s.notice := fold_judgeDue_notice _ _
@[simp] theorem settleDues_dlc (s : State) : (s.settleDues).dlc = s.dlc := fold_judgeDue_dlc _ _
@[simp] theorem settleDues_nodes (s : State) : (s.settleDues).nodes = s.nodes := fold_judgeDue_nodes _ _
@[simp] theorem settleDues_bank0 (s : State) : (s.settleDues).bank0 = s.bank0 := fold_judgeDue_bank0 _ _
@[simp] theorem settleDues_bank1 (s : State) : (s.settleDues).bank1 = s.bank1 := fold_judgeDue_bank1 _ _
@[simp] theorem settleDues_activeBank (s : State) : (s.settleDues).activeBank = s.activeBank := fold_judgeDue_activeBank _ _
@[simp] theorem settleDues_epoch (s : State) : (s.settleDues).epoch = s.epoch := fold_judgeDue_epoch _ _
@[simp] theorem settleDues_commit (s : State) : (s.settleDues).commit = s.commit := fold_judgeDue_commit _ _
@[simp] theorem settleDues_params (s : State) : (s.settleDues).params = s.params := fold_judgeDue_params _ _
@[simp] theorem settleDues_faults (s : State) : (s.settleDues).faults = s.faults := fold_judgeDue_faults _ _
@[simp] theorem settleDues_timer (s : State) : (s.settleDues).timer = s.timer := fold_judgeDue_timer _ _
@[simp] theorem settleDues_pending (s : State) : (s.settleDues).pending = s.pending := fold_judgeDue_pending _ _

@[simp] theorem expireOne_inReset (r : ExRecord) (s : State) : (s.expireOne r).inReset = s.inReset := by cases r <;> simp [State.expireOne]
@[simp] theorem expireOne_portU (r : ExRecord) (s : State) : (s.expireOne r).portU = s.portU := by cases r <;> simp [State.expireOne]
@[simp] theorem expireOne_portD (r : ExRecord) (s : State) : (s.expireOne r).portD = s.portD := by cases r <;> simp [State.expireOne]
@[simp] theorem expireOne_position (r : ExRecord) (s : State) : (s.expireOne r).position = s.position := by cases r <;> simp [State.expireOne]
@[simp] theorem expireOne_chainEnd (r : ExRecord) (s : State) : (s.expireOne r).chainEnd = s.chainEnd := by cases r <;> simp [State.expireOne]
@[simp] theorem expireOne_otq (r : ExRecord) (s : State) : (s.expireOne r).otq = s.otq := by cases r <;> simp [State.expireOne]
@[simp] theorem expireOne_htq (r : ExRecord) (s : State) : (s.expireOne r).htq = s.htq := by cases r <;> simp [State.expireOne]
@[simp] theorem expireOne_inbox (r : ExRecord) (s : State) : (s.expireOne r).inbox = s.inbox := by cases r <;> simp [State.expireOne]
@[simp] theorem expireOne_uTx (r : ExRecord) (s : State) : (s.expireOne r).uTx = s.uTx := by cases r <;> simp [State.expireOne]
@[simp] theorem expireOne_dTx (r : ExRecord) (s : State) : (s.expireOne r).dTx = s.dTx := by cases r <;> simp [State.expireOne]
@[simp] theorem expireOne_streak (r : ExRecord) (s : State) : (s.expireOne r).streak = s.streak := by cases r <;> simp [State.expireOne]
@[simp] theorem expireOne_notice (r : ExRecord) (s : State) : (s.expireOne r).notice = s.notice := by cases r <;> simp [State.expireOne]
@[simp] theorem expireOne_queue (r : ExRecord) (s : State) : (s.expireOne r).queue = s.queue := by cases r <;> simp [State.expireOne]
@[simp] theorem expireOne_dlc (r : ExRecord) (s : State) : (s.expireOne r).dlc = s.dlc := by cases r <;> simp [State.expireOne]
@[simp] theorem expireOne_nodes (r : ExRecord) (s : State) : (s.expireOne r).nodes = s.nodes := by cases r <;> simp [State.expireOne]
@[simp] theorem expireOne_bank0 (r : ExRecord) (s : State) : (s.expireOne r).bank0 = s.bank0 := by cases r <;> simp [State.expireOne]
@[simp] theorem expireOne_bank1 (r : ExRecord) (s : State) : (s.expireOne r).bank1 = s.bank1 := by cases r <;> simp [State.expireOne]
@[simp] theorem expireOne_activeBank (r : ExRecord) (s : State) : (s.expireOne r).activeBank = s.activeBank := by cases r <;> simp [State.expireOne]
@[simp] theorem expireOne_epoch (r : ExRecord) (s : State) : (s.expireOne r).epoch = s.epoch := by cases r <;> simp [State.expireOne]
@[simp] theorem expireOne_commit (r : ExRecord) (s : State) : (s.expireOne r).commit = s.commit := by cases r <;> simp [State.expireOne]
@[simp] theorem expireOne_scan (r : ExRecord) (s : State) : (s.expireOne r).scan = s.scan := by cases r <;> simp [State.expireOne]
@[simp] theorem expireOne_params (r : ExRecord) (s : State) : (s.expireOne r).params = s.params := by cases r <;> simp [State.expireOne]
@[simp] theorem expireOne_faults (r : ExRecord) (s : State) : (s.expireOne r).faults = s.faults := by cases r <;> simp [State.expireOne]
@[simp] theorem expireOne_timer (r : ExRecord) (s : State) : (s.expireOne r).timer = s.timer := by cases r <;> simp [State.expireOne]
@[simp] theorem expireOne_pending (r : ExRecord) (s : State) : (s.expireOne r).pending = s.pending := by cases r <;> simp [State.expireOne]

theorem fold_expireOne_inReset (l : List ExRecord) (s : State) : (l.foldl (State.expireOne) s).inReset = s.inReset := by
  induction l generalizing s with
  | nil => rfl
  | cons a l ih => rw [List.foldl_cons, ih]; exact expireOne_inReset _ _
theorem fold_expireOne_portU (l : List ExRecord) (s : State) : (l.foldl (State.expireOne) s).portU = s.portU := by
  induction l generalizing s with
  | nil => rfl
  | cons a l ih => rw [List.foldl_cons, ih]; exact expireOne_portU _ _
theorem fold_expireOne_portD (l : List ExRecord) (s : State) : (l.foldl (State.expireOne) s).portD = s.portD := by
  induction l generalizing s with
  | nil => rfl
  | cons a l ih => rw [List.foldl_cons, ih]; exact expireOne_portD _ _
theorem fold_expireOne_position (l : List ExRecord) (s : State) : (l.foldl (State.expireOne) s).position = s.position := by
  induction l generalizing s with
  | nil => rfl
  | cons a l ih => rw [List.foldl_cons, ih]; exact expireOne_position _ _
theorem fold_expireOne_chainEnd (l : List ExRecord) (s : State) : (l.foldl (State.expireOne) s).chainEnd = s.chainEnd := by
  induction l generalizing s with
  | nil => rfl
  | cons a l ih => rw [List.foldl_cons, ih]; exact expireOne_chainEnd _ _
theorem fold_expireOne_otq (l : List ExRecord) (s : State) : (l.foldl (State.expireOne) s).otq = s.otq := by
  induction l generalizing s with
  | nil => rfl
  | cons a l ih => rw [List.foldl_cons, ih]; exact expireOne_otq _ _
theorem fold_expireOne_htq (l : List ExRecord) (s : State) : (l.foldl (State.expireOne) s).htq = s.htq := by
  induction l generalizing s with
  | nil => rfl
  | cons a l ih => rw [List.foldl_cons, ih]; exact expireOne_htq _ _
theorem fold_expireOne_inbox (l : List ExRecord) (s : State) : (l.foldl (State.expireOne) s).inbox = s.inbox := by
  induction l generalizing s with
  | nil => rfl
  | cons a l ih => rw [List.foldl_cons, ih]; exact expireOne_inbox _ _
theorem fold_expireOne_uTx (l : List ExRecord) (s : State) : (l.foldl (State.expireOne) s).uTx = s.uTx := by
  induction l generalizing s with
  | nil => rfl
  | cons a l ih => rw [List.foldl_cons, ih]; exact expireOne_uTx _ _
theorem fold_expireOne_dTx (l : List ExRecord) (s : State) : (l.foldl (State.expireOne) s).dTx = s.dTx := by
  induction l generalizing s with
  | nil => rfl
  | cons a l ih => rw [List.foldl_cons, ih]; exact expireOne_dTx _ _
theorem fold_expireOne_streak (l : List ExRecord) (s : State) : (l.foldl (State.expireOne) s).streak = s.streak := by
  induction l generalizing s with
  | nil => rfl
  | cons a l ih => rw [List.foldl_cons, ih]; exact expireOne_streak _ _
theorem fold_expireOne_notice (l : List ExRecord) (s : State) : (l.foldl (State.expireOne) s).notice = s.notice := by
  induction l generalizing s with
  | nil => rfl
  | cons a l ih => rw [List.foldl_cons, ih]; exact expireOne_notice _ _
theorem fold_expireOne_queue (l : List ExRecord) (s : State) : (l.foldl (State.expireOne) s).queue = s.queue := by
  induction l generalizing s with
  | nil => rfl
  | cons a l ih => rw [List.foldl_cons, ih]; exact expireOne_queue _ _
theorem fold_expireOne_dlc (l : List ExRecord) (s : State) : (l.foldl (State.expireOne) s).dlc = s.dlc := by
  induction l generalizing s with
  | nil => rfl
  | cons a l ih => rw [List.foldl_cons, ih]; exact expireOne_dlc _ _
theorem fold_expireOne_nodes (l : List ExRecord) (s : State) : (l.foldl (State.expireOne) s).nodes = s.nodes := by
  induction l generalizing s with
  | nil => rfl
  | cons a l ih => rw [List.foldl_cons, ih]; exact expireOne_nodes _ _
theorem fold_expireOne_bank0 (l : List ExRecord) (s : State) : (l.foldl (State.expireOne) s).bank0 = s.bank0 := by
  induction l generalizing s with
  | nil => rfl
  | cons a l ih => rw [List.foldl_cons, ih]; exact expireOne_bank0 _ _
theorem fold_expireOne_bank1 (l : List ExRecord) (s : State) : (l.foldl (State.expireOne) s).bank1 = s.bank1 := by
  induction l generalizing s with
  | nil => rfl
  | cons a l ih => rw [List.foldl_cons, ih]; exact expireOne_bank1 _ _
theorem fold_expireOne_activeBank (l : List ExRecord) (s : State) : (l.foldl (State.expireOne) s).activeBank = s.activeBank := by
  induction l generalizing s with
  | nil => rfl
  | cons a l ih => rw [List.foldl_cons, ih]; exact expireOne_activeBank _ _
theorem fold_expireOne_epoch (l : List ExRecord) (s : State) : (l.foldl (State.expireOne) s).epoch = s.epoch := by
  induction l generalizing s with
  | nil => rfl
  | cons a l ih => rw [List.foldl_cons, ih]; exact expireOne_epoch _ _
theorem fold_expireOne_commit (l : List ExRecord) (s : State) : (l.foldl (State.expireOne) s).commit = s.commit := by
  induction l generalizing s with
  | nil => rfl
  | cons a l ih => rw [List.foldl_cons, ih]; exact expireOne_commit _ _
theorem fold_expireOne_scan (l : List ExRecord) (s : State) : (l.foldl (State.expireOne) s).scan = s.scan := by
  induction l generalizing s with
  | nil => rfl
  | cons a l ih => rw [List.foldl_cons, ih]; exact expireOne_scan _ _
theorem fold_expireOne_params (l : List ExRecord) (s : State) : (l.foldl (State.expireOne) s).params = s.params := by
  induction l generalizing s with
  | nil => rfl
  | cons a l ih => rw [List.foldl_cons, ih]; exact expireOne_params _ _
theorem fold_expireOne_faults (l : List ExRecord) (s : State) : (l.foldl (State.expireOne) s).faults = s.faults := by
  induction l generalizing s with
  | nil => rfl
  | cons a l ih => rw [List.foldl_cons, ih]; exact expireOne_faults _ _
theorem fold_expireOne_timer (l : List ExRecord) (s : State) : (l.foldl (State.expireOne) s).timer = s.timer := by
  induction l generalizing s with
  | nil => rfl
  | cons a l ih => rw [List.foldl_cons, ih]; exact expireOne_timer _ _
theorem fold_expireOne_pending (l : List ExRecord) (s : State) : (l.foldl (State.expireOne) s).pending = s.pending := by
  induction l generalizing s with
  | nil => rfl
  | cons a l ih => rw [List.foldl_cons, ih]; exact expireOne_pending _ _

@[simp] theorem takeExpired_inReset (s : State) : (s.takeExpired).inReset = s.inReset := fold_expireOne_inReset _ _
@[simp] theorem takeExpired_portU (s : State) : (s.takeExpired).portU = s.portU := fold_expireOne_portU _ _
@[simp] theorem takeExpired_portD (s : State) : (s.takeExpired).portD = s.portD := fold_expireOne_portD _ _
@[simp] theorem takeExpired_position (s : State) : (s.takeExpired).position = s.position := fold_expireOne_position _ _
@[simp] theorem takeExpired_chainEnd (s : State) : (s.takeExpired).chainEnd = s.chainEnd := fold_expireOne_chainEnd _ _
@[simp] theorem takeExpired_otq (s : State) : (s.takeExpired).otq = s.otq := fold_expireOne_otq _ _
@[simp] theorem takeExpired_htq (s : State) : (s.takeExpired).htq = s.htq := fold_expireOne_htq _ _
@[simp] theorem takeExpired_inbox (s : State) : (s.takeExpired).inbox = s.inbox := fold_expireOne_inbox _ _
@[simp] theorem takeExpired_uTx (s : State) : (s.takeExpired).uTx = s.uTx := fold_expireOne_uTx _ _
@[simp] theorem takeExpired_dTx (s : State) : (s.takeExpired).dTx = s.dTx := fold_expireOne_dTx _ _
@[simp] theorem takeExpired_streak (s : State) : (s.takeExpired).streak = s.streak := fold_expireOne_streak _ _
@[simp] theorem takeExpired_notice (s : State) : (s.takeExpired).notice = s.notice := fold_expireOne_notice _ _
@[simp] theorem takeExpired_dlc (s : State) : (s.takeExpired).dlc = s.dlc := fold_expireOne_dlc _ _
@[simp] theorem takeExpired_nodes (s : State) : (s.takeExpired).nodes = s.nodes := fold_expireOne_nodes _ _
@[simp] theorem takeExpired_bank0 (s : State) : (s.takeExpired).bank0 = s.bank0 := fold_expireOne_bank0 _ _
@[simp] theorem takeExpired_bank1 (s : State) : (s.takeExpired).bank1 = s.bank1 := fold_expireOne_bank1 _ _
@[simp] theorem takeExpired_activeBank (s : State) : (s.takeExpired).activeBank = s.activeBank := fold_expireOne_activeBank _ _
@[simp] theorem takeExpired_epoch (s : State) : (s.takeExpired).epoch = s.epoch := fold_expireOne_epoch _ _
@[simp] theorem takeExpired_commit (s : State) : (s.takeExpired).commit = s.commit := fold_expireOne_commit _ _
@[simp] theorem takeExpired_scan (s : State) : (s.takeExpired).scan = s.scan := fold_expireOne_scan _ _
@[simp] theorem takeExpired_params (s : State) : (s.takeExpired).params = s.params := fold_expireOne_params _ _
@[simp] theorem takeExpired_faults (s : State) : (s.takeExpired).faults = s.faults := fold_expireOne_faults _ _
@[simp] theorem takeExpired_timer (s : State) : (s.takeExpired).timer = s.timer := fold_expireOne_timer _ _
@[simp] theorem takeExpired_pending (s : State) : (s.takeExpired).pending = s.pending := fold_expireOne_pending _ _

@[simp] theorem reviveNow_inReset (s : State) : (s.reviveNow).inReset = s.inReset := by simp only [State.reviveNow]; (repeat' split) <;> simp
@[simp] theorem reviveNow_portU (s : State) : (s.reviveNow).portU = s.portU := by simp only [State.reviveNow]; (repeat' split) <;> simp
@[simp] theorem reviveNow_portD (s : State) : (s.reviveNow).portD = s.portD := by simp only [State.reviveNow]; (repeat' split) <;> simp
@[simp] theorem reviveNow_position (s : State) : (s.reviveNow).position = s.position := by simp only [State.reviveNow]; (repeat' split) <;> simp
@[simp] theorem reviveNow_chainEnd (s : State) : (s.reviveNow).chainEnd = s.chainEnd := by simp only [State.reviveNow]; (repeat' split) <;> simp
@[simp] theorem reviveNow_otq (s : State) : (s.reviveNow).otq = s.otq := by simp only [State.reviveNow]; (repeat' split) <;> simp
@[simp] theorem reviveNow_htq (s : State) : (s.reviveNow).htq = s.htq := by simp only [State.reviveNow]; (repeat' split) <;> simp
@[simp] theorem reviveNow_inbox (s : State) : (s.reviveNow).inbox = s.inbox := by simp only [State.reviveNow]; (repeat' split) <;> simp
@[simp] theorem reviveNow_uTx (s : State) : (s.reviveNow).uTx = s.uTx := by simp only [State.reviveNow]; (repeat' split) <;> simp
@[simp] theorem reviveNow_dTx (s : State) : (s.reviveNow).dTx = s.dTx := by simp only [State.reviveNow]; (repeat' split) <;> simp
@[simp] theorem reviveNow_streak (s : State) : (s.reviveNow).streak = s.streak := by simp only [State.reviveNow]; (repeat' split) <;> simp
@[simp] theorem reviveNow_loq (s : State) : (s.reviveNow).loq = s.loq := by simp only [State.reviveNow]; (repeat' split) <;> simp
@[simp] theorem reviveNow_notice (s : State) : (s.reviveNow).notice = s.notice := by simp only [State.reviveNow]; (repeat' split) <;> simp
@[simp] theorem reviveNow_dlc (s : State) : (s.reviveNow).dlc = s.dlc := by simp only [State.reviveNow]; (repeat' split) <;> simp
@[simp] theorem reviveNow_nodes (s : State) : (s.reviveNow).nodes = s.nodes := by simp only [State.reviveNow]; (repeat' split) <;> simp
@[simp] theorem reviveNow_bank0 (s : State) : (s.reviveNow).bank0 = s.bank0 := by simp only [State.reviveNow]; (repeat' split) <;> simp
@[simp] theorem reviveNow_bank1 (s : State) : (s.reviveNow).bank1 = s.bank1 := by simp only [State.reviveNow]; (repeat' split) <;> simp
@[simp] theorem reviveNow_activeBank (s : State) : (s.reviveNow).activeBank = s.activeBank := by simp only [State.reviveNow]; (repeat' split) <;> simp
@[simp] theorem reviveNow_epoch (s : State) : (s.reviveNow).epoch = s.epoch := by simp only [State.reviveNow]; (repeat' split) <;> simp
@[simp] theorem reviveNow_commit (s : State) : (s.reviveNow).commit = s.commit := by simp only [State.reviveNow]; (repeat' split) <;> simp
@[simp] theorem reviveNow_params (s : State) : (s.reviveNow).params = s.params := by simp only [State.reviveNow]; (repeat' split) <;> simp
@[simp] theorem reviveNow_faults (s : State) : (s.reviveNow).faults = s.faults := by simp only [State.reviveNow]; (repeat' split) <;> simp
@[simp] theorem reviveNow_counters (s : State) : (s.reviveNow).counters = s.counters := by simp only [State.reviveNow]; (repeat' split) <;> simp
@[simp] theorem reviveNow_timer (s : State) : (s.reviveNow).timer = s.timer := by simp only [State.reviveNow]; (repeat' split) <;> simp
@[simp] theorem reviveNow_pending (s : State) : (s.reviveNow).pending = s.pending := by simp only [State.reviveNow]; (repeat' split) <;> simp

@[simp] theorem settleRevival_inReset (s : State) : (s.settleRevival).inReset = s.inReset := by simp only [State.settleRevival]; (repeat' split) <;> simp
@[simp] theorem settleRevival_portU (s : State) : (s.settleRevival).portU = s.portU := by simp only [State.settleRevival]; (repeat' split) <;> simp
@[simp] theorem settleRevival_portD (s : State) : (s.settleRevival).portD = s.portD := by simp only [State.settleRevival]; (repeat' split) <;> simp
@[simp] theorem settleRevival_position (s : State) : (s.settleRevival).position = s.position := by simp only [State.settleRevival]; (repeat' split) <;> simp
@[simp] theorem settleRevival_chainEnd (s : State) : (s.settleRevival).chainEnd = s.chainEnd := by simp only [State.settleRevival]; (repeat' split) <;> simp
@[simp] theorem settleRevival_otq (s : State) : (s.settleRevival).otq = s.otq := by simp only [State.settleRevival]; (repeat' split) <;> simp
@[simp] theorem settleRevival_htq (s : State) : (s.settleRevival).htq = s.htq := by simp only [State.settleRevival]; (repeat' split) <;> simp
@[simp] theorem settleRevival_inbox (s : State) : (s.settleRevival).inbox = s.inbox := by simp only [State.settleRevival]; (repeat' split) <;> simp
@[simp] theorem settleRevival_uTx (s : State) : (s.settleRevival).uTx = s.uTx := by simp only [State.settleRevival]; (repeat' split) <;> simp
@[simp] theorem settleRevival_dTx (s : State) : (s.settleRevival).dTx = s.dTx := by simp only [State.settleRevival]; (repeat' split) <;> simp
@[simp] theorem settleRevival_streak (s : State) : (s.settleRevival).streak = s.streak := by simp only [State.settleRevival]; (repeat' split) <;> simp
@[simp] theorem settleRevival_loq (s : State) : (s.settleRevival).loq = s.loq := by simp only [State.settleRevival]; (repeat' split) <;> simp
@[simp] theorem settleRevival_notice (s : State) : (s.settleRevival).notice = s.notice := by simp only [State.settleRevival]; (repeat' split) <;> simp
@[simp] theorem settleRevival_dlc (s : State) : (s.settleRevival).dlc = s.dlc := by simp only [State.settleRevival]; (repeat' split) <;> simp
@[simp] theorem settleRevival_nodes (s : State) : (s.settleRevival).nodes = s.nodes := by simp only [State.settleRevival]; (repeat' split) <;> simp
@[simp] theorem settleRevival_bank0 (s : State) : (s.settleRevival).bank0 = s.bank0 := by simp only [State.settleRevival]; (repeat' split) <;> simp
@[simp] theorem settleRevival_bank1 (s : State) : (s.settleRevival).bank1 = s.bank1 := by simp only [State.settleRevival]; (repeat' split) <;> simp
@[simp] theorem settleRevival_activeBank (s : State) : (s.settleRevival).activeBank = s.activeBank := by simp only [State.settleRevival]; (repeat' split) <;> simp
@[simp] theorem settleRevival_epoch (s : State) : (s.settleRevival).epoch = s.epoch := by simp only [State.settleRevival]; (repeat' split) <;> simp
@[simp] theorem settleRevival_commit (s : State) : (s.settleRevival).commit = s.commit := by simp only [State.settleRevival]; (repeat' split) <;> simp
@[simp] theorem settleRevival_params (s : State) : (s.settleRevival).params = s.params := by simp only [State.settleRevival]; (repeat' split) <;> simp
@[simp] theorem settleRevival_faults (s : State) : (s.settleRevival).faults = s.faults := by simp only [State.settleRevival]; (repeat' split) <;> simp
@[simp] theorem settleRevival_counters (s : State) : (s.settleRevival).counters = s.counters := by simp only [State.settleRevival]; (repeat' split) <;> simp
@[simp] theorem settleRevival_timer (s : State) : (s.settleRevival).timer = s.timer := by simp only [State.settleRevival]; (repeat' split) <;> simp
@[simp] theorem settleRevival_pending (s : State) : (s.settleRevival).pending = s.pending := by simp only [State.settleRevival]; (repeat' split) <;> simp

@[simp] theorem settleTick_inReset (s : State) : (s.settleTick).inReset = s.inReset := by simp [State.settleTick]
@[simp] theorem settleTick_portU (s : State) : (s.settleTick).portU = s.portU := by simp [State.settleTick]
@[simp] theorem settleTick_portD (s : State) : (s.settleTick).portD = s.portD := by simp [State.settleTick]
@[simp] theorem settleTick_position (s : State) : (s.settleTick).position = s.position := by simp [State.settleTick]
@[simp] theorem settleTick_chainEnd (s : State) : (s.settleTick).chainEnd = s.chainEnd := by simp [State.settleTick]
@[simp] theorem settleTick_otq (s : State) : (s.settleTick).otq = s.otq := by simp [State.settleTick]
@[simp] theorem settleTick_htq (s : State) : (s.settleTick).htq = s.htq := by simp [State.settleTick]
@[simp] theorem settleTick_inbox (s : State) : (s.settleTick).inbox = s.inbox := by simp [State.settleTick]
@[simp] theorem settleTick_uTx (s : State) : (s.settleTick).uTx = s.uTx := by simp [State.settleTick]
@[simp] theorem settleTick_dTx (s : State) : (s.settleTick).dTx = s.dTx := by simp [State.settleTick]
@[simp] theorem settleTick_streak (s : State) : (s.settleTick).streak = s.streak := by simp [State.settleTick]
@[simp] theorem settleTick_notice (s : State) : (s.settleTick).notice = s.notice := by simp [State.settleTick]
@[simp] theorem settleTick_dlc (s : State) : (s.settleTick).dlc = s.dlc := by simp [State.settleTick]
@[simp] theorem settleTick_nodes (s : State) : (s.settleTick).nodes = s.nodes := by simp [State.settleTick]
@[simp] theorem settleTick_bank0 (s : State) : (s.settleTick).bank0 = s.bank0 := by simp [State.settleTick]
@[simp] theorem settleTick_bank1 (s : State) : (s.settleTick).bank1 = s.bank1 := by simp [State.settleTick]
@[simp] theorem settleTick_activeBank (s : State) : (s.settleTick).activeBank = s.activeBank := by simp [State.settleTick]
@[simp] theorem settleTick_epoch (s : State) : (s.settleTick).epoch = s.epoch := by simp [State.settleTick]
@[simp] theorem settleTick_commit (s : State) : (s.settleTick).commit = s.commit := by simp [State.settleTick]
@[simp] theorem settleTick_params (s : State) : (s.settleTick).params = s.params := by simp [State.settleTick]
@[simp] theorem settleTick_faults (s : State) : (s.settleTick).faults = s.faults := by simp [State.settleTick]
@[simp] theorem settleTick_timer (s : State) : (s.settleTick).timer = s.timer := by simp [State.settleTick]
@[simp] theorem settleTick_pending (s : State) : (s.settleTick).pending = s.pending := by simp [State.settleTick]


/-! ### Ticks.lean -/

@[simp] theorem nextDue_inReset (s : State) : (s.nextDue).inReset = s.inReset := by simp only [State.nextDue]; (repeat' split) <;> simp
@[simp] theorem nextDue_portU (s : State) : (s.nextDue).portU = s.portU := by simp only [State.nextDue]; (repeat' split) <;> simp
@[simp] theorem nextDue_portD (s : State) : (s.nextDue).portD = s.portD := by simp only [State.nextDue]; (repeat' split) <;> simp
@[simp] theorem nextDue_position (s : State) : (s.nextDue).position = s.position := by simp only [State.nextDue]; (repeat' split) <;> simp
@[simp] theorem nextDue_chainEnd (s : State) : (s.nextDue).chainEnd = s.chainEnd := by simp only [State.nextDue]; (repeat' split) <;> simp
@[simp] theorem nextDue_otq (s : State) : (s.nextDue).otq = s.otq := by simp only [State.nextDue]; (repeat' split) <;> simp
@[simp] theorem nextDue_htq (s : State) : (s.nextDue).htq = s.htq := by simp only [State.nextDue]; (repeat' split) <;> simp
@[simp] theorem nextDue_inbox (s : State) : (s.nextDue).inbox = s.inbox := by simp only [State.nextDue]; (repeat' split) <;> simp
@[simp] theorem nextDue_uTx (s : State) : (s.nextDue).uTx = s.uTx := by simp only [State.nextDue]; (repeat' split) <;> simp
@[simp] theorem nextDue_dTx (s : State) : (s.nextDue).dTx = s.dTx := by simp only [State.nextDue]; (repeat' split) <;> simp
@[simp] theorem nextDue_streak (s : State) : (s.nextDue).streak = s.streak := by simp only [State.nextDue]; (repeat' split) <;> simp
@[simp] theorem nextDue_notice (s : State) : (s.nextDue).notice = s.notice := by simp only [State.nextDue]; (repeat' split) <;> simp
@[simp] theorem nextDue_dlc (s : State) : (s.nextDue).dlc = s.dlc := by simp only [State.nextDue]; (repeat' split) <;> simp
@[simp] theorem nextDue_nodes (s : State) : (s.nextDue).nodes = s.nodes := by simp only [State.nextDue]; (repeat' split) <;> simp
@[simp] theorem nextDue_bank0 (s : State) : (s.nextDue).bank0 = s.bank0 := by simp only [State.nextDue]; (repeat' split) <;> simp
@[simp] theorem nextDue_bank1 (s : State) : (s.nextDue).bank1 = s.bank1 := by simp only [State.nextDue]; (repeat' split) <;> simp
@[simp] theorem nextDue_activeBank (s : State) : (s.nextDue).activeBank = s.activeBank := by simp only [State.nextDue]; (repeat' split) <;> simp
@[simp] theorem nextDue_epoch (s : State) : (s.nextDue).epoch = s.epoch := by simp only [State.nextDue]; (repeat' split) <;> simp
@[simp] theorem nextDue_commit (s : State) : (s.nextDue).commit = s.commit := by simp only [State.nextDue]; (repeat' split) <;> simp
@[simp] theorem nextDue_params (s : State) : (s.nextDue).params = s.params := by simp only [State.nextDue]; (repeat' split) <;> simp
@[simp] theorem nextDue_faults (s : State) : (s.nextDue).faults = s.faults := by simp only [State.nextDue]; (repeat' split) <;> simp
@[simp] theorem nextDue_timer (s : State) : (s.nextDue).timer = s.timer := by simp only [State.nextDue]; (repeat' split) <;> simp
@[simp] theorem nextDue_pending (s : State) : (s.nextDue).pending = s.pending := by simp only [State.nextDue]; (repeat' split) <;> simp


/-! ### Links.lean -/

@[simp] theorem enterUp_inReset (p : PortId) (s : State) : (s.enterUp p).inReset = s.inReset := by cases p <;> simp [State.enterUp]
@[simp] theorem enterUp_position (p : PortId) (s : State) : (s.enterUp p).position = s.position := by cases p <;> simp [State.enterUp]
@[simp] theorem enterUp_chainEnd (p : PortId) (s : State) : (s.enterUp p).chainEnd = s.chainEnd := by cases p <;> simp [State.enterUp]
@[simp] theorem enterUp_otq (p : PortId) (s : State) : (s.enterUp p).otq = s.otq := by cases p <;> simp [State.enterUp]
@[simp] theorem enterUp_htq (p : PortId) (s : State) : (s.enterUp p).htq = s.htq := by cases p <;> simp [State.enterUp]
@[simp] theorem enterUp_inbox (p : PortId) (s : State) : (s.enterUp p).inbox = s.inbox := by cases p <;> simp [State.enterUp]
@[simp] theorem enterUp_uTx (p : PortId) (s : State) : (s.enterUp p).uTx = s.uTx := by cases p <;> simp [State.enterUp]
@[simp] theorem enterUp_dTx (p : PortId) (s : State) : (s.enterUp p).dTx = s.dTx := by cases p <;> simp [State.enterUp]
@[simp] theorem enterUp_streak (p : PortId) (s : State) : (s.enterUp p).streak = s.streak := by cases p <;> simp [State.enterUp]
@[simp] theorem enterUp_loq (p : PortId) (s : State) : (s.enterUp p).loq = s.loq := by cases p <;> simp [State.enterUp]
@[simp] theorem enterUp_queue (p : PortId) (s : State) : (s.enterUp p).queue = s.queue := by cases p <;> simp [State.enterUp]
@[simp] theorem enterUp_dlc (p : PortId) (s : State) : (s.enterUp p).dlc = s.dlc := by cases p <;> simp [State.enterUp]
@[simp] theorem enterUp_nodes (p : PortId) (s : State) : (s.enterUp p).nodes = s.nodes := by cases p <;> simp [State.enterUp]
@[simp] theorem enterUp_bank0 (p : PortId) (s : State) : (s.enterUp p).bank0 = s.bank0 := by cases p <;> simp [State.enterUp]
@[simp] theorem enterUp_bank1 (p : PortId) (s : State) : (s.enterUp p).bank1 = s.bank1 := by cases p <;> simp [State.enterUp]
@[simp] theorem enterUp_activeBank (p : PortId) (s : State) : (s.enterUp p).activeBank = s.activeBank := by cases p <;> simp [State.enterUp]
@[simp] theorem enterUp_epoch (p : PortId) (s : State) : (s.enterUp p).epoch = s.epoch := by cases p <;> simp [State.enterUp]
@[simp] theorem enterUp_commit (p : PortId) (s : State) : (s.enterUp p).commit = s.commit := by cases p <;> simp [State.enterUp]
@[simp] theorem enterUp_params (p : PortId) (s : State) : (s.enterUp p).params = s.params := by cases p <;> simp [State.enterUp]
@[simp] theorem enterUp_faults (p : PortId) (s : State) : (s.enterUp p).faults = s.faults := by cases p <;> simp [State.enterUp]
@[simp] theorem enterUp_counters (p : PortId) (s : State) : (s.enterUp p).counters = s.counters := by cases p <;> simp [State.enterUp]
@[simp] theorem enterUp_timer (p : PortId) (s : State) : (s.enterUp p).timer = s.timer := by cases p <;> simp [State.enterUp]
@[simp] theorem enterUp_pending (p : PortId) (s : State) : (s.enterUp p).pending = s.pending := by cases p <;> simp [State.enterUp]

@[simp] theorem discardOutward_inReset (f : Frame) (s : State) : (s.discardOutward f).inReset = s.inReset := by simp only [State.discardOutward]; (repeat' split) <;> simp
@[simp] theorem discardOutward_portU (f : Frame) (s : State) : (s.discardOutward f).portU = s.portU := by simp only [State.discardOutward]; (repeat' split) <;> simp
@[simp] theorem discardOutward_portD (f : Frame) (s : State) : (s.discardOutward f).portD = s.portD := by simp only [State.discardOutward]; (repeat' split) <;> simp
@[simp] theorem discardOutward_position (f : Frame) (s : State) : (s.discardOutward f).position = s.position := by simp only [State.discardOutward]; (repeat' split) <;> simp
@[simp] theorem discardOutward_chainEnd (f : Frame) (s : State) : (s.discardOutward f).chainEnd = s.chainEnd := by simp only [State.discardOutward]; (repeat' split) <;> simp
@[simp] theorem discardOutward_otq (f : Frame) (s : State) : (s.discardOutward f).otq = s.otq := by simp only [State.discardOutward]; (repeat' split) <;> simp
@[simp] theorem discardOutward_htq (f : Frame) (s : State) : (s.discardOutward f).htq = s.htq := by simp only [State.discardOutward]; (repeat' split) <;> simp
@[simp] theorem discardOutward_inbox (f : Frame) (s : State) : (s.discardOutward f).inbox = s.inbox := by simp only [State.discardOutward]; (repeat' split) <;> simp
@[simp] theorem discardOutward_uTx (f : Frame) (s : State) : (s.discardOutward f).uTx = s.uTx := by simp only [State.discardOutward]; (repeat' split) <;> simp
@[simp] theorem discardOutward_dTx (f : Frame) (s : State) : (s.discardOutward f).dTx = s.dTx := by simp only [State.discardOutward]; (repeat' split) <;> simp
@[simp] theorem discardOutward_streak (f : Frame) (s : State) : (s.discardOutward f).streak = s.streak := by simp only [State.discardOutward]; (repeat' split) <;> simp
@[simp] theorem discardOutward_loq (f : Frame) (s : State) : (s.discardOutward f).loq = s.loq := by simp only [State.discardOutward]; (repeat' split) <;> simp
@[simp] theorem discardOutward_queue (f : Frame) (s : State) : (s.discardOutward f).queue = s.queue := by simp only [State.discardOutward]; (repeat' split) <;> simp
@[simp] theorem discardOutward_dlc (f : Frame) (s : State) : (s.discardOutward f).dlc = s.dlc := by simp only [State.discardOutward]; (repeat' split) <;> simp
@[simp] theorem discardOutward_nodes (f : Frame) (s : State) : (s.discardOutward f).nodes = s.nodes := by simp only [State.discardOutward]; (repeat' split) <;> simp
@[simp] theorem discardOutward_bank0 (f : Frame) (s : State) : (s.discardOutward f).bank0 = s.bank0 := by simp only [State.discardOutward]; (repeat' split) <;> simp
@[simp] theorem discardOutward_bank1 (f : Frame) (s : State) : (s.discardOutward f).bank1 = s.bank1 := by simp only [State.discardOutward]; (repeat' split) <;> simp
@[simp] theorem discardOutward_activeBank (f : Frame) (s : State) : (s.discardOutward f).activeBank = s.activeBank := by simp only [State.discardOutward]; (repeat' split) <;> simp
@[simp] theorem discardOutward_epoch (f : Frame) (s : State) : (s.discardOutward f).epoch = s.epoch := by simp only [State.discardOutward]; (repeat' split) <;> simp
@[simp] theorem discardOutward_commit (f : Frame) (s : State) : (s.discardOutward f).commit = s.commit := by simp only [State.discardOutward]; (repeat' split) <;> simp
@[simp] theorem discardOutward_scan (f : Frame) (s : State) : (s.discardOutward f).scan = s.scan := by simp only [State.discardOutward]; (repeat' split) <;> simp
@[simp] theorem discardOutward_params (f : Frame) (s : State) : (s.discardOutward f).params = s.params := by simp only [State.discardOutward]; (repeat' split) <;> simp
@[simp] theorem discardOutward_faults (f : Frame) (s : State) : (s.discardOutward f).faults = s.faults := by simp only [State.discardOutward]; (repeat' split) <;> simp
@[simp] theorem discardOutward_timer (f : Frame) (s : State) : (s.discardOutward f).timer = s.timer := by simp only [State.discardOutward]; (repeat' split) <;> simp
@[simp] theorem discardOutward_pending (f : Frame) (s : State) : (s.discardOutward f).pending = s.pending := by simp only [State.discardOutward]; (repeat' split) <;> simp

theorem fold_discardOutward_inReset (l : List Frame) (s : State) : (l.foldl (State.discardOutward) s).inReset = s.inReset := by
  induction l generalizing s with
  | nil => rfl
  | cons a l ih => rw [List.foldl_cons, ih]; exact discardOutward_inReset _ _
theorem fold_discardOutward_portU (l : List Frame) (s : State) : (l.foldl (State.discardOutward) s).portU = s.portU := by
  induction l generalizing s with
  | nil => rfl
  | cons a l ih => rw [List.foldl_cons, ih]; exact discardOutward_portU _ _
theorem fold_discardOutward_portD (l : List Frame) (s : State) : (l.foldl (State.discardOutward) s).portD = s.portD := by
  induction l generalizing s with
  | nil => rfl
  | cons a l ih => rw [List.foldl_cons, ih]; exact discardOutward_portD _ _
theorem fold_discardOutward_position (l : List Frame) (s : State) : (l.foldl (State.discardOutward) s).position = s.position := by
  induction l generalizing s with
  | nil => rfl
  | cons a l ih => rw [List.foldl_cons, ih]; exact discardOutward_position _ _
theorem fold_discardOutward_chainEnd (l : List Frame) (s : State) : (l.foldl (State.discardOutward) s).chainEnd = s.chainEnd := by
  induction l generalizing s with
  | nil => rfl
  | cons a l ih => rw [List.foldl_cons, ih]; exact discardOutward_chainEnd _ _
theorem fold_discardOutward_otq (l : List Frame) (s : State) : (l.foldl (State.discardOutward) s).otq = s.otq := by
  induction l generalizing s with
  | nil => rfl
  | cons a l ih => rw [List.foldl_cons, ih]; exact discardOutward_otq _ _
theorem fold_discardOutward_htq (l : List Frame) (s : State) : (l.foldl (State.discardOutward) s).htq = s.htq := by
  induction l generalizing s with
  | nil => rfl
  | cons a l ih => rw [List.foldl_cons, ih]; exact discardOutward_htq _ _
theorem fold_discardOutward_inbox (l : List Frame) (s : State) : (l.foldl (State.discardOutward) s).inbox = s.inbox := by
  induction l generalizing s with
  | nil => rfl
  | cons a l ih => rw [List.foldl_cons, ih]; exact discardOutward_inbox _ _
theorem fold_discardOutward_uTx (l : List Frame) (s : State) : (l.foldl (State.discardOutward) s).uTx = s.uTx := by
  induction l generalizing s with
  | nil => rfl
  | cons a l ih => rw [List.foldl_cons, ih]; exact discardOutward_uTx _ _
theorem fold_discardOutward_dTx (l : List Frame) (s : State) : (l.foldl (State.discardOutward) s).dTx = s.dTx := by
  induction l generalizing s with
  | nil => rfl
  | cons a l ih => rw [List.foldl_cons, ih]; exact discardOutward_dTx _ _
theorem fold_discardOutward_streak (l : List Frame) (s : State) : (l.foldl (State.discardOutward) s).streak = s.streak := by
  induction l generalizing s with
  | nil => rfl
  | cons a l ih => rw [List.foldl_cons, ih]; exact discardOutward_streak _ _
theorem fold_discardOutward_loq (l : List Frame) (s : State) : (l.foldl (State.discardOutward) s).loq = s.loq := by
  induction l generalizing s with
  | nil => rfl
  | cons a l ih => rw [List.foldl_cons, ih]; exact discardOutward_loq _ _
theorem fold_discardOutward_queue (l : List Frame) (s : State) : (l.foldl (State.discardOutward) s).queue = s.queue := by
  induction l generalizing s with
  | nil => rfl
  | cons a l ih => rw [List.foldl_cons, ih]; exact discardOutward_queue _ _
theorem fold_discardOutward_dlc (l : List Frame) (s : State) : (l.foldl (State.discardOutward) s).dlc = s.dlc := by
  induction l generalizing s with
  | nil => rfl
  | cons a l ih => rw [List.foldl_cons, ih]; exact discardOutward_dlc _ _
theorem fold_discardOutward_nodes (l : List Frame) (s : State) : (l.foldl (State.discardOutward) s).nodes = s.nodes := by
  induction l generalizing s with
  | nil => rfl
  | cons a l ih => rw [List.foldl_cons, ih]; exact discardOutward_nodes _ _
theorem fold_discardOutward_bank0 (l : List Frame) (s : State) : (l.foldl (State.discardOutward) s).bank0 = s.bank0 := by
  induction l generalizing s with
  | nil => rfl
  | cons a l ih => rw [List.foldl_cons, ih]; exact discardOutward_bank0 _ _
theorem fold_discardOutward_bank1 (l : List Frame) (s : State) : (l.foldl (State.discardOutward) s).bank1 = s.bank1 := by
  induction l generalizing s with
  | nil => rfl
  | cons a l ih => rw [List.foldl_cons, ih]; exact discardOutward_bank1 _ _
theorem fold_discardOutward_activeBank (l : List Frame) (s : State) : (l.foldl (State.discardOutward) s).activeBank = s.activeBank := by
  induction l generalizing s with
  | nil => rfl
  | cons a l ih => rw [List.foldl_cons, ih]; exact discardOutward_activeBank _ _
theorem fold_discardOutward_epoch (l : List Frame) (s : State) : (l.foldl (State.discardOutward) s).epoch = s.epoch := by
  induction l generalizing s with
  | nil => rfl
  | cons a l ih => rw [List.foldl_cons, ih]; exact discardOutward_epoch _ _
theorem fold_discardOutward_commit (l : List Frame) (s : State) : (l.foldl (State.discardOutward) s).commit = s.commit := by
  induction l generalizing s with
  | nil => rfl
  | cons a l ih => rw [List.foldl_cons, ih]; exact discardOutward_commit _ _
theorem fold_discardOutward_scan (l : List Frame) (s : State) : (l.foldl (State.discardOutward) s).scan = s.scan := by
  induction l generalizing s with
  | nil => rfl
  | cons a l ih => rw [List.foldl_cons, ih]; exact discardOutward_scan _ _
theorem fold_discardOutward_params (l : List Frame) (s : State) : (l.foldl (State.discardOutward) s).params = s.params := by
  induction l generalizing s with
  | nil => rfl
  | cons a l ih => rw [List.foldl_cons, ih]; exact discardOutward_params _ _
theorem fold_discardOutward_faults (l : List Frame) (s : State) : (l.foldl (State.discardOutward) s).faults = s.faults := by
  induction l generalizing s with
  | nil => rfl
  | cons a l ih => rw [List.foldl_cons, ih]; exact discardOutward_faults _ _
theorem fold_discardOutward_timer (l : List Frame) (s : State) : (l.foldl (State.discardOutward) s).timer = s.timer := by
  induction l generalizing s with
  | nil => rfl
  | cons a l ih => rw [List.foldl_cons, ih]; exact discardOutward_timer _ _
theorem fold_discardOutward_pending (l : List Frame) (s : State) : (l.foldl (State.discardOutward) s).pending = s.pending := by
  induction l generalizing s with
  | nil => rfl
  | cons a l ih => rw [List.foldl_cons, ih]; exact discardOutward_pending _ _

@[simp] theorem discardOtq_inReset (s : State) : (s.discardOtq).inReset = s.inReset := fold_discardOutward_inReset _ _
@[simp] theorem discardOtq_portU (s : State) : (s.discardOtq).portU = s.portU := fold_discardOutward_portU _ _
@[simp] theorem discardOtq_portD (s : State) : (s.discardOtq).portD = s.portD := fold_discardOutward_portD _ _
@[simp] theorem discardOtq_position (s : State) : (s.discardOtq).position = s.position := fold_discardOutward_position _ _
@[simp] theorem discardOtq_chainEnd (s : State) : (s.discardOtq).chainEnd = s.chainEnd := fold_discardOutward_chainEnd _ _
@[simp] theorem discardOtq_htq (s : State) : (s.discardOtq).htq = s.htq := fold_discardOutward_htq _ _
@[simp] theorem discardOtq_inbox (s : State) : (s.discardOtq).inbox = s.inbox := fold_discardOutward_inbox _ _
@[simp] theorem discardOtq_uTx (s : State) : (s.discardOtq).uTx = s.uTx := fold_discardOutward_uTx _ _
@[simp] theorem discardOtq_streak (s : State) : (s.discardOtq).streak = s.streak := fold_discardOutward_streak _ _
@[simp] theorem discardOtq_loq (s : State) : (s.discardOtq).loq = s.loq := fold_discardOutward_loq _ _
@[simp] theorem discardOtq_queue (s : State) : (s.discardOtq).queue = s.queue := fold_discardOutward_queue _ _
@[simp] theorem discardOtq_dlc (s : State) : (s.discardOtq).dlc = s.dlc := fold_discardOutward_dlc _ _
@[simp] theorem discardOtq_nodes (s : State) : (s.discardOtq).nodes = s.nodes := fold_discardOutward_nodes _ _
@[simp] theorem discardOtq_bank0 (s : State) : (s.discardOtq).bank0 = s.bank0 := fold_discardOutward_bank0 _ _
@[simp] theorem discardOtq_bank1 (s : State) : (s.discardOtq).bank1 = s.bank1 := fold_discardOutward_bank1 _ _
@[simp] theorem discardOtq_activeBank (s : State) : (s.discardOtq).activeBank = s.activeBank := fold_discardOutward_activeBank _ _
@[simp] theorem discardOtq_epoch (s : State) : (s.discardOtq).epoch = s.epoch := fold_discardOutward_epoch _ _
@[simp] theorem discardOtq_commit (s : State) : (s.discardOtq).commit = s.commit := fold_discardOutward_commit _ _
@[simp] theorem discardOtq_scan (s : State) : (s.discardOtq).scan = s.scan := fold_discardOutward_scan _ _
@[simp] theorem discardOtq_params (s : State) : (s.discardOtq).params = s.params := fold_discardOutward_params _ _
@[simp] theorem discardOtq_faults (s : State) : (s.discardOtq).faults = s.faults := fold_discardOutward_faults _ _
@[simp] theorem discardOtq_timer (s : State) : (s.discardOtq).timer = s.timer := fold_discardOutward_timer _ _
@[simp] theorem discardOtq_pending (s : State) : (s.discardOtq).pending = s.pending := fold_discardOutward_pending _ _

@[simp] theorem enterDown_inReset (p : PortId) (s : State) : (s.enterDown p).inReset = s.inReset := by cases p <;> simp [State.enterDown]
@[simp] theorem enterDown_position (p : PortId) (s : State) : (s.enterDown p).position = s.position := by cases p <;> simp [State.enterDown]
@[simp] theorem enterDown_nodes (p : PortId) (s : State) : (s.enterDown p).nodes = s.nodes := by cases p <;> simp [State.enterDown]
@[simp] theorem enterDown_bank0 (p : PortId) (s : State) : (s.enterDown p).bank0 = s.bank0 := by cases p <;> simp [State.enterDown]
@[simp] theorem enterDown_bank1 (p : PortId) (s : State) : (s.enterDown p).bank1 = s.bank1 := by cases p <;> simp [State.enterDown]
@[simp] theorem enterDown_activeBank (p : PortId) (s : State) : (s.enterDown p).activeBank = s.activeBank := by cases p <;> simp [State.enterDown]
@[simp] theorem enterDown_epoch (p : PortId) (s : State) : (s.enterDown p).epoch = s.epoch := by cases p <;> simp [State.enterDown]
@[simp] theorem enterDown_params (p : PortId) (s : State) : (s.enterDown p).params = s.params := by cases p <;> simp [State.enterDown]
@[simp] theorem enterDown_faults (p : PortId) (s : State) : (s.enterDown p).faults = s.faults := by cases p <;> simp [State.enterDown]
@[simp] theorem enterDown_timer (p : PortId) (s : State) : (s.enterDown p).timer = s.timer := by cases p <;> simp [State.enterDown]
@[simp] theorem enterDown_pending (p : PortId) (s : State) : (s.enterDown p).pending = s.pending := by cases p <;> simp [State.enterDown]

@[simp] theorem placeOtq_inReset (f : Frame) (s : State) : (s.placeOtq f).inReset = s.inReset := by simp only [State.placeOtq]; (repeat' split) <;> simp
@[simp] theorem placeOtq_portU (f : Frame) (s : State) : (s.placeOtq f).portU = s.portU := by simp only [State.placeOtq]; (repeat' split) <;> simp
@[simp] theorem placeOtq_portD (f : Frame) (s : State) : (s.placeOtq f).portD = s.portD := by simp only [State.placeOtq]; (repeat' split) <;> simp
@[simp] theorem placeOtq_position (f : Frame) (s : State) : (s.placeOtq f).position = s.position := by simp only [State.placeOtq]; (repeat' split) <;> simp
@[simp] theorem placeOtq_chainEnd (f : Frame) (s : State) : (s.placeOtq f).chainEnd = s.chainEnd := by simp only [State.placeOtq]; (repeat' split) <;> simp
@[simp] theorem placeOtq_htq (f : Frame) (s : State) : (s.placeOtq f).htq = s.htq := by simp only [State.placeOtq]; (repeat' split) <;> simp
@[simp] theorem placeOtq_inbox (f : Frame) (s : State) : (s.placeOtq f).inbox = s.inbox := by simp only [State.placeOtq]; (repeat' split) <;> simp
@[simp] theorem placeOtq_uTx (f : Frame) (s : State) : (s.placeOtq f).uTx = s.uTx := by simp only [State.placeOtq]; (repeat' split) <;> simp
@[simp] theorem placeOtq_dTx (f : Frame) (s : State) : (s.placeOtq f).dTx = s.dTx := by simp only [State.placeOtq]; (repeat' split) <;> simp
@[simp] theorem placeOtq_streak (f : Frame) (s : State) : (s.placeOtq f).streak = s.streak := by simp only [State.placeOtq]; (repeat' split) <;> simp
@[simp] theorem placeOtq_loq (f : Frame) (s : State) : (s.placeOtq f).loq = s.loq := by simp only [State.placeOtq]; (repeat' split) <;> simp
@[simp] theorem placeOtq_queue (f : Frame) (s : State) : (s.placeOtq f).queue = s.queue := by simp only [State.placeOtq]; (repeat' split) <;> simp
@[simp] theorem placeOtq_dlc (f : Frame) (s : State) : (s.placeOtq f).dlc = s.dlc := by simp only [State.placeOtq]; (repeat' split) <;> simp
@[simp] theorem placeOtq_nodes (f : Frame) (s : State) : (s.placeOtq f).nodes = s.nodes := by simp only [State.placeOtq]; (repeat' split) <;> simp
@[simp] theorem placeOtq_bank0 (f : Frame) (s : State) : (s.placeOtq f).bank0 = s.bank0 := by simp only [State.placeOtq]; (repeat' split) <;> simp
@[simp] theorem placeOtq_bank1 (f : Frame) (s : State) : (s.placeOtq f).bank1 = s.bank1 := by simp only [State.placeOtq]; (repeat' split) <;> simp
@[simp] theorem placeOtq_activeBank (f : Frame) (s : State) : (s.placeOtq f).activeBank = s.activeBank := by simp only [State.placeOtq]; (repeat' split) <;> simp
@[simp] theorem placeOtq_epoch (f : Frame) (s : State) : (s.placeOtq f).epoch = s.epoch := by simp only [State.placeOtq]; (repeat' split) <;> simp
@[simp] theorem placeOtq_commit (f : Frame) (s : State) : (s.placeOtq f).commit = s.commit := by simp only [State.placeOtq]; (repeat' split) <;> simp
@[simp] theorem placeOtq_scan (f : Frame) (s : State) : (s.placeOtq f).scan = s.scan := by simp only [State.placeOtq]; (repeat' split) <;> simp
@[simp] theorem placeOtq_params (f : Frame) (s : State) : (s.placeOtq f).params = s.params := by simp only [State.placeOtq]; (repeat' split) <;> simp
@[simp] theorem placeOtq_timer (f : Frame) (s : State) : (s.placeOtq f).timer = s.timer := by simp only [State.placeOtq]; (repeat' split) <;> simp
@[simp] theorem placeOtq_pending (f : Frame) (s : State) : (s.placeOtq f).pending = s.pending := by simp only [State.placeOtq]; (repeat' split) <;> simp

@[simp] theorem placeHtq_inReset (f : Frame) (s : State) : (s.placeHtq f).inReset = s.inReset := by simp only [State.placeHtq]; (repeat' split) <;> simp
@[simp] theorem placeHtq_portU (f : Frame) (s : State) : (s.placeHtq f).portU = s.portU := by simp only [State.placeHtq]; (repeat' split) <;> simp
@[simp] theorem placeHtq_portD (f : Frame) (s : State) : (s.placeHtq f).portD = s.portD := by simp only [State.placeHtq]; (repeat' split) <;> simp
@[simp] theorem placeHtq_position (f : Frame) (s : State) : (s.placeHtq f).position = s.position := by simp only [State.placeHtq]; (repeat' split) <;> simp
@[simp] theorem placeHtq_chainEnd (f : Frame) (s : State) : (s.placeHtq f).chainEnd = s.chainEnd := by simp only [State.placeHtq]; (repeat' split) <;> simp
@[simp] theorem placeHtq_otq (f : Frame) (s : State) : (s.placeHtq f).otq = s.otq := by simp only [State.placeHtq]; (repeat' split) <;> simp
@[simp] theorem placeHtq_inbox (f : Frame) (s : State) : (s.placeHtq f).inbox = s.inbox := by simp only [State.placeHtq]; (repeat' split) <;> simp
@[simp] theorem placeHtq_uTx (f : Frame) (s : State) : (s.placeHtq f).uTx = s.uTx := by simp only [State.placeHtq]; (repeat' split) <;> simp
@[simp] theorem placeHtq_dTx (f : Frame) (s : State) : (s.placeHtq f).dTx = s.dTx := by simp only [State.placeHtq]; (repeat' split) <;> simp
@[simp] theorem placeHtq_streak (f : Frame) (s : State) : (s.placeHtq f).streak = s.streak := by simp only [State.placeHtq]; (repeat' split) <;> simp
@[simp] theorem placeHtq_loq (f : Frame) (s : State) : (s.placeHtq f).loq = s.loq := by simp only [State.placeHtq]; (repeat' split) <;> simp
@[simp] theorem placeHtq_queue (f : Frame) (s : State) : (s.placeHtq f).queue = s.queue := by simp only [State.placeHtq]; (repeat' split) <;> simp
@[simp] theorem placeHtq_dlc (f : Frame) (s : State) : (s.placeHtq f).dlc = s.dlc := by simp only [State.placeHtq]; (repeat' split) <;> simp
@[simp] theorem placeHtq_nodes (f : Frame) (s : State) : (s.placeHtq f).nodes = s.nodes := by simp only [State.placeHtq]; (repeat' split) <;> simp
@[simp] theorem placeHtq_bank0 (f : Frame) (s : State) : (s.placeHtq f).bank0 = s.bank0 := by simp only [State.placeHtq]; (repeat' split) <;> simp
@[simp] theorem placeHtq_bank1 (f : Frame) (s : State) : (s.placeHtq f).bank1 = s.bank1 := by simp only [State.placeHtq]; (repeat' split) <;> simp
@[simp] theorem placeHtq_activeBank (f : Frame) (s : State) : (s.placeHtq f).activeBank = s.activeBank := by simp only [State.placeHtq]; (repeat' split) <;> simp
@[simp] theorem placeHtq_epoch (f : Frame) (s : State) : (s.placeHtq f).epoch = s.epoch := by simp only [State.placeHtq]; (repeat' split) <;> simp
@[simp] theorem placeHtq_commit (f : Frame) (s : State) : (s.placeHtq f).commit = s.commit := by simp only [State.placeHtq]; (repeat' split) <;> simp
@[simp] theorem placeHtq_scan (f : Frame) (s : State) : (s.placeHtq f).scan = s.scan := by simp only [State.placeHtq]; (repeat' split) <;> simp
@[simp] theorem placeHtq_params (f : Frame) (s : State) : (s.placeHtq f).params = s.params := by simp only [State.placeHtq]; (repeat' split) <;> simp
@[simp] theorem placeHtq_timer (f : Frame) (s : State) : (s.placeHtq f).timer = s.timer := by simp only [State.placeHtq]; (repeat' split) <;> simp
@[simp] theorem placeHtq_pending (f : Frame) (s : State) : (s.placeHtq f).pending = s.pending := by simp only [State.placeHtq]; (repeat' split) <;> simp

@[simp] theorem placeInbox_inReset (f : Frame) (s : State) : (s.placeInbox f).inReset = s.inReset := by simp only [State.placeInbox]; (repeat' split) <;> simp
@[simp] theorem placeInbox_portU (f : Frame) (s : State) : (s.placeInbox f).portU = s.portU := by simp only [State.placeInbox]; (repeat' split) <;> simp
@[simp] theorem placeInbox_portD (f : Frame) (s : State) : (s.placeInbox f).portD = s.portD := by simp only [State.placeInbox]; (repeat' split) <;> simp
@[simp] theorem placeInbox_position (f : Frame) (s : State) : (s.placeInbox f).position = s.position := by simp only [State.placeInbox]; (repeat' split) <;> simp
@[simp] theorem placeInbox_chainEnd (f : Frame) (s : State) : (s.placeInbox f).chainEnd = s.chainEnd := by simp only [State.placeInbox]; (repeat' split) <;> simp
@[simp] theorem placeInbox_otq (f : Frame) (s : State) : (s.placeInbox f).otq = s.otq := by simp only [State.placeInbox]; (repeat' split) <;> simp
@[simp] theorem placeInbox_htq (f : Frame) (s : State) : (s.placeInbox f).htq = s.htq := by simp only [State.placeInbox]; (repeat' split) <;> simp
@[simp] theorem placeInbox_uTx (f : Frame) (s : State) : (s.placeInbox f).uTx = s.uTx := by simp only [State.placeInbox]; (repeat' split) <;> simp
@[simp] theorem placeInbox_dTx (f : Frame) (s : State) : (s.placeInbox f).dTx = s.dTx := by simp only [State.placeInbox]; (repeat' split) <;> simp
@[simp] theorem placeInbox_streak (f : Frame) (s : State) : (s.placeInbox f).streak = s.streak := by simp only [State.placeInbox]; (repeat' split) <;> simp
@[simp] theorem placeInbox_loq (f : Frame) (s : State) : (s.placeInbox f).loq = s.loq := by simp only [State.placeInbox]; (repeat' split) <;> simp
@[simp] theorem placeInbox_queue (f : Frame) (s : State) : (s.placeInbox f).queue = s.queue := by simp only [State.placeInbox]; (repeat' split) <;> simp
@[simp] theorem placeInbox_dlc (f : Frame) (s : State) : (s.placeInbox f).dlc = s.dlc := by simp only [State.placeInbox]; (repeat' split) <;> simp
@[simp] theorem placeInbox_nodes (f : Frame) (s : State) : (s.placeInbox f).nodes = s.nodes := by simp only [State.placeInbox]; (repeat' split) <;> simp
@[simp] theorem placeInbox_bank0 (f : Frame) (s : State) : (s.placeInbox f).bank0 = s.bank0 := by simp only [State.placeInbox]; (repeat' split) <;> simp
@[simp] theorem placeInbox_bank1 (f : Frame) (s : State) : (s.placeInbox f).bank1 = s.bank1 := by simp only [State.placeInbox]; (repeat' split) <;> simp
@[simp] theorem placeInbox_activeBank (f : Frame) (s : State) : (s.placeInbox f).activeBank = s.activeBank := by simp only [State.placeInbox]; (repeat' split) <;> simp
@[simp] theorem placeInbox_epoch (f : Frame) (s : State) : (s.placeInbox f).epoch = s.epoch := by simp only [State.placeInbox]; (repeat' split) <;> simp
@[simp] theorem placeInbox_commit (f : Frame) (s : State) : (s.placeInbox f).commit = s.commit := by simp only [State.placeInbox]; (repeat' split) <;> simp
@[simp] theorem placeInbox_scan (f : Frame) (s : State) : (s.placeInbox f).scan = s.scan := by simp only [State.placeInbox]; (repeat' split) <;> simp
@[simp] theorem placeInbox_params (f : Frame) (s : State) : (s.placeInbox f).params = s.params := by simp only [State.placeInbox]; (repeat' split) <;> simp
@[simp] theorem placeInbox_timer (f : Frame) (s : State) : (s.placeInbox f).timer = s.timer := by simp only [State.placeInbox]; (repeat' split) <;> simp
@[simp] theorem placeInbox_pending (f : Frame) (s : State) : (s.placeInbox f).pending = s.pending := by simp only [State.placeInbox]; (repeat' split) <;> simp

@[simp] theorem enumerateAt_inReset (h : Header) (k : Byte) (s : State) : (s.enumerateAt h k).inReset = s.inReset := by simp only [State.enumerateAt]; (repeat' split) <;> simp
@[simp] theorem enumerateAt_portU (h : Header) (k : Byte) (s : State) : (s.enumerateAt h k).portU = s.portU := by simp only [State.enumerateAt]; (repeat' split) <;> simp
@[simp] theorem enumerateAt_portD (h : Header) (k : Byte) (s : State) : (s.enumerateAt h k).portD = s.portD := by simp only [State.enumerateAt]; (repeat' split) <;> simp
@[simp] theorem enumerateAt_htq (h : Header) (k : Byte) (s : State) : (s.enumerateAt h k).htq = s.htq := by simp only [State.enumerateAt]; (repeat' split) <;> simp
@[simp] theorem enumerateAt_inbox (h : Header) (k : Byte) (s : State) : (s.enumerateAt h k).inbox = s.inbox := by simp only [State.enumerateAt]; (repeat' split) <;> simp
@[simp] theorem enumerateAt_uTx (h : Header) (k : Byte) (s : State) : (s.enumerateAt h k).uTx = s.uTx := by simp only [State.enumerateAt]; (repeat' split) <;> simp
@[simp] theorem enumerateAt_dTx (h : Header) (k : Byte) (s : State) : (s.enumerateAt h k).dTx = s.dTx := by simp only [State.enumerateAt]; (repeat' split) <;> simp
@[simp] theorem enumerateAt_streak (h : Header) (k : Byte) (s : State) : (s.enumerateAt h k).streak = s.streak := by simp only [State.enumerateAt]; (repeat' split) <;> simp
@[simp] theorem enumerateAt_loq (h : Header) (k : Byte) (s : State) : (s.enumerateAt h k).loq = s.loq := by simp only [State.enumerateAt]; (repeat' split) <;> simp
@[simp] theorem enumerateAt_queue (h : Header) (k : Byte) (s : State) : (s.enumerateAt h k).queue = s.queue := by simp only [State.enumerateAt]; (repeat' split) <;> simp
@[simp] theorem enumerateAt_dlc (h : Header) (k : Byte) (s : State) : (s.enumerateAt h k).dlc = s.dlc := by simp only [State.enumerateAt]; (repeat' split) <;> simp
@[simp] theorem enumerateAt_nodes (h : Header) (k : Byte) (s : State) : (s.enumerateAt h k).nodes = s.nodes := by simp only [State.enumerateAt]; (repeat' split) <;> simp
@[simp] theorem enumerateAt_bank0 (h : Header) (k : Byte) (s : State) : (s.enumerateAt h k).bank0 = s.bank0 := by simp only [State.enumerateAt]; (repeat' split) <;> simp
@[simp] theorem enumerateAt_bank1 (h : Header) (k : Byte) (s : State) : (s.enumerateAt h k).bank1 = s.bank1 := by simp only [State.enumerateAt]; (repeat' split) <;> simp
@[simp] theorem enumerateAt_activeBank (h : Header) (k : Byte) (s : State) : (s.enumerateAt h k).activeBank = s.activeBank := by simp only [State.enumerateAt]; (repeat' split) <;> simp
@[simp] theorem enumerateAt_epoch (h : Header) (k : Byte) (s : State) : (s.enumerateAt h k).epoch = s.epoch := by simp only [State.enumerateAt]; (repeat' split) <;> simp
@[simp] theorem enumerateAt_commit (h : Header) (k : Byte) (s : State) : (s.enumerateAt h k).commit = s.commit := by simp only [State.enumerateAt]; (repeat' split) <;> simp
@[simp] theorem enumerateAt_scan (h : Header) (k : Byte) (s : State) : (s.enumerateAt h k).scan = s.scan := by simp only [State.enumerateAt]; (repeat' split) <;> simp
@[simp] theorem enumerateAt_params (h : Header) (k : Byte) (s : State) : (s.enumerateAt h k).params = s.params := by simp only [State.enumerateAt]; (repeat' split) <;> simp
@[simp] theorem enumerateAt_timer (h : Header) (k : Byte) (s : State) : (s.enumerateAt h k).timer = s.timer := by simp only [State.enumerateAt]; (repeat' split) <;> simp
@[simp] theorem enumerateAt_pending (h : Header) (k : Byte) (s : State) : (s.enumerateAt h k).pending = s.pending := by simp only [State.enumerateAt]; (repeat' split) <;> simp

@[simp] theorem forwardOutward_inReset (f : Frame) (s : State) : (s.forwardOutward f).inReset = s.inReset := by simp only [State.forwardOutward]; (repeat' split) <;> simp
@[simp] theorem forwardOutward_portU (f : Frame) (s : State) : (s.forwardOutward f).portU = s.portU := by simp only [State.forwardOutward]; (repeat' split) <;> simp
@[simp] theorem forwardOutward_portD (f : Frame) (s : State) : (s.forwardOutward f).portD = s.portD := by simp only [State.forwardOutward]; (repeat' split) <;> simp
@[simp] theorem forwardOutward_position (f : Frame) (s : State) : (s.forwardOutward f).position = s.position := by simp only [State.forwardOutward]; (repeat' split) <;> simp
@[simp] theorem forwardOutward_chainEnd (f : Frame) (s : State) : (s.forwardOutward f).chainEnd = s.chainEnd := by simp only [State.forwardOutward]; (repeat' split) <;> simp
@[simp] theorem forwardOutward_htq (f : Frame) (s : State) : (s.forwardOutward f).htq = s.htq := by simp only [State.forwardOutward]; (repeat' split) <;> simp
@[simp] theorem forwardOutward_inbox (f : Frame) (s : State) : (s.forwardOutward f).inbox = s.inbox := by simp only [State.forwardOutward]; (repeat' split) <;> simp
@[simp] theorem forwardOutward_uTx (f : Frame) (s : State) : (s.forwardOutward f).uTx = s.uTx := by simp only [State.forwardOutward]; (repeat' split) <;> simp
@[simp] theorem forwardOutward_dTx (f : Frame) (s : State) : (s.forwardOutward f).dTx = s.dTx := by simp only [State.forwardOutward]; (repeat' split) <;> simp
@[simp] theorem forwardOutward_streak (f : Frame) (s : State) : (s.forwardOutward f).streak = s.streak := by simp only [State.forwardOutward]; (repeat' split) <;> simp
@[simp] theorem forwardOutward_loq (f : Frame) (s : State) : (s.forwardOutward f).loq = s.loq := by simp only [State.forwardOutward]; (repeat' split) <;> simp
@[simp] theorem forwardOutward_queue (f : Frame) (s : State) : (s.forwardOutward f).queue = s.queue := by simp only [State.forwardOutward]; (repeat' split) <;> simp
@[simp] theorem forwardOutward_dlc (f : Frame) (s : State) : (s.forwardOutward f).dlc = s.dlc := by simp only [State.forwardOutward]; (repeat' split) <;> simp
@[simp] theorem forwardOutward_nodes (f : Frame) (s : State) : (s.forwardOutward f).nodes = s.nodes := by simp only [State.forwardOutward]; (repeat' split) <;> simp
@[simp] theorem forwardOutward_bank0 (f : Frame) (s : State) : (s.forwardOutward f).bank0 = s.bank0 := by simp only [State.forwardOutward]; (repeat' split) <;> simp
@[simp] theorem forwardOutward_bank1 (f : Frame) (s : State) : (s.forwardOutward f).bank1 = s.bank1 := by simp only [State.forwardOutward]; (repeat' split) <;> simp
@[simp] theorem forwardOutward_activeBank (f : Frame) (s : State) : (s.forwardOutward f).activeBank = s.activeBank := by simp only [State.forwardOutward]; (repeat' split) <;> simp
@[simp] theorem forwardOutward_epoch (f : Frame) (s : State) : (s.forwardOutward f).epoch = s.epoch := by simp only [State.forwardOutward]; (repeat' split) <;> simp
@[simp] theorem forwardOutward_commit (f : Frame) (s : State) : (s.forwardOutward f).commit = s.commit := by simp only [State.forwardOutward]; (repeat' split) <;> simp
@[simp] theorem forwardOutward_scan (f : Frame) (s : State) : (s.forwardOutward f).scan = s.scan := by simp only [State.forwardOutward]; (repeat' split) <;> simp
@[simp] theorem forwardOutward_params (f : Frame) (s : State) : (s.forwardOutward f).params = s.params := by simp only [State.forwardOutward]; (repeat' split) <;> simp
@[simp] theorem forwardOutward_timer (f : Frame) (s : State) : (s.forwardOutward f).timer = s.timer := by simp only [State.forwardOutward]; (repeat' split) <;> simp
@[simp] theorem forwardOutward_pending (f : Frame) (s : State) : (s.forwardOutward f).pending = s.pending := by simp only [State.forwardOutward]; (repeat' split) <;> simp

@[simp] theorem broadcastControl_inReset (f : Frame) (s : State) : (s.broadcastControl f).inReset = s.inReset := by simp only [State.broadcastControl]; (repeat' split) <;> simp
@[simp] theorem broadcastControl_portU (f : Frame) (s : State) : (s.broadcastControl f).portU = s.portU := by simp only [State.broadcastControl]; (repeat' split) <;> simp
@[simp] theorem broadcastControl_portD (f : Frame) (s : State) : (s.broadcastControl f).portD = s.portD := by simp only [State.broadcastControl]; (repeat' split) <;> simp
@[simp] theorem broadcastControl_position (f : Frame) (s : State) : (s.broadcastControl f).position = s.position := by simp only [State.broadcastControl]; (repeat' split) <;> simp
@[simp] theorem broadcastControl_chainEnd (f : Frame) (s : State) : (s.broadcastControl f).chainEnd = s.chainEnd := by simp only [State.broadcastControl]; (repeat' split) <;> simp
@[simp] theorem broadcastControl_htq (f : Frame) (s : State) : (s.broadcastControl f).htq = s.htq := by simp only [State.broadcastControl]; (repeat' split) <;> simp
@[simp] theorem broadcastControl_uTx (f : Frame) (s : State) : (s.broadcastControl f).uTx = s.uTx := by simp only [State.broadcastControl]; (repeat' split) <;> simp
@[simp] theorem broadcastControl_dTx (f : Frame) (s : State) : (s.broadcastControl f).dTx = s.dTx := by simp only [State.broadcastControl]; (repeat' split) <;> simp
@[simp] theorem broadcastControl_streak (f : Frame) (s : State) : (s.broadcastControl f).streak = s.streak := by simp only [State.broadcastControl]; (repeat' split) <;> simp
@[simp] theorem broadcastControl_loq (f : Frame) (s : State) : (s.broadcastControl f).loq = s.loq := by simp only [State.broadcastControl]; (repeat' split) <;> simp
@[simp] theorem broadcastControl_queue (f : Frame) (s : State) : (s.broadcastControl f).queue = s.queue := by simp only [State.broadcastControl]; (repeat' split) <;> simp
@[simp] theorem broadcastControl_dlc (f : Frame) (s : State) : (s.broadcastControl f).dlc = s.dlc := by simp only [State.broadcastControl]; (repeat' split) <;> simp
@[simp] theorem broadcastControl_nodes (f : Frame) (s : State) : (s.broadcastControl f).nodes = s.nodes := by simp only [State.broadcastControl]; (repeat' split) <;> simp
@[simp] theorem broadcastControl_bank0 (f : Frame) (s : State) : (s.broadcastControl f).bank0 = s.bank0 := by simp only [State.broadcastControl]; (repeat' split) <;> simp
@[simp] theorem broadcastControl_bank1 (f : Frame) (s : State) : (s.broadcastControl f).bank1 = s.bank1 := by simp only [State.broadcastControl]; (repeat' split) <;> simp
@[simp] theorem broadcastControl_activeBank (f : Frame) (s : State) : (s.broadcastControl f).activeBank = s.activeBank := by simp only [State.broadcastControl]; (repeat' split) <;> simp
@[simp] theorem broadcastControl_epoch (f : Frame) (s : State) : (s.broadcastControl f).epoch = s.epoch := by simp only [State.broadcastControl]; (repeat' split) <;> simp
@[simp] theorem broadcastControl_commit (f : Frame) (s : State) : (s.broadcastControl f).commit = s.commit := by simp only [State.broadcastControl]; (repeat' split) <;> simp
@[simp] theorem broadcastControl_scan (f : Frame) (s : State) : (s.broadcastControl f).scan = s.scan := by simp only [State.broadcastControl]; (repeat' split) <;> simp
@[simp] theorem broadcastControl_params (f : Frame) (s : State) : (s.broadcastControl f).params = s.params := by simp only [State.broadcastControl]; (repeat' split) <;> simp
@[simp] theorem broadcastControl_timer (f : Frame) (s : State) : (s.broadcastControl f).timer = s.timer := by simp only [State.broadcastControl]; (repeat' split) <;> simp
@[simp] theorem broadcastControl_pending (f : Frame) (s : State) : (s.broadcastControl f).pending = s.pending := by simp only [State.broadcastControl]; (repeat' split) <;> simp

@[simp] theorem outwardSwitch_inReset (f : Frame) (s : State) : (s.outwardSwitch f).inReset = s.inReset := by simp only [State.outwardSwitch]; (repeat' split) <;> simp
@[simp] theorem outwardSwitch_portU (f : Frame) (s : State) : (s.outwardSwitch f).portU = s.portU := by simp only [State.outwardSwitch]; (repeat' split) <;> simp
@[simp] theorem outwardSwitch_portD (f : Frame) (s : State) : (s.outwardSwitch f).portD = s.portD := by simp only [State.outwardSwitch]; (repeat' split) <;> simp
@[simp] theorem outwardSwitch_htq (f : Frame) (s : State) : (s.outwardSwitch f).htq = s.htq := by simp only [State.outwardSwitch]; (repeat' split) <;> simp
@[simp] theorem outwardSwitch_uTx (f : Frame) (s : State) : (s.outwardSwitch f).uTx = s.uTx := by simp only [State.outwardSwitch]; (repeat' split) <;> simp
@[simp] theorem outwardSwitch_dTx (f : Frame) (s : State) : (s.outwardSwitch f).dTx = s.dTx := by simp only [State.outwardSwitch]; (repeat' split) <;> simp
@[simp] theorem outwardSwitch_streak (f : Frame) (s : State) : (s.outwardSwitch f).streak = s.streak := by simp only [State.outwardSwitch]; (repeat' split) <;> simp
@[simp] theorem outwardSwitch_loq (f : Frame) (s : State) : (s.outwardSwitch f).loq = s.loq := by simp only [State.outwardSwitch]; (repeat' split) <;> simp
@[simp] theorem outwardSwitch_queue (f : Frame) (s : State) : (s.outwardSwitch f).queue = s.queue := by simp only [State.outwardSwitch]; (repeat' split) <;> simp
@[simp] theorem outwardSwitch_dlc (f : Frame) (s : State) : (s.outwardSwitch f).dlc = s.dlc := by simp only [State.outwardSwitch]; (repeat' split) <;> simp
@[simp] theorem outwardSwitch_nodes (f : Frame) (s : State) : (s.outwardSwitch f).nodes = s.nodes := by simp only [State.outwardSwitch]; (repeat' split) <;> simp
@[simp] theorem outwardSwitch_bank0 (f : Frame) (s : State) : (s.outwardSwitch f).bank0 = s.bank0 := by simp only [State.outwardSwitch]; (repeat' split) <;> simp
@[simp] theorem outwardSwitch_bank1 (f : Frame) (s : State) : (s.outwardSwitch f).bank1 = s.bank1 := by simp only [State.outwardSwitch]; (repeat' split) <;> simp
@[simp] theorem outwardSwitch_activeBank (f : Frame) (s : State) : (s.outwardSwitch f).activeBank = s.activeBank := by simp only [State.outwardSwitch]; (repeat' split) <;> simp
@[simp] theorem outwardSwitch_epoch (f : Frame) (s : State) : (s.outwardSwitch f).epoch = s.epoch := by simp only [State.outwardSwitch]; (repeat' split) <;> simp
@[simp] theorem outwardSwitch_commit (f : Frame) (s : State) : (s.outwardSwitch f).commit = s.commit := by simp only [State.outwardSwitch]; (repeat' split) <;> simp
@[simp] theorem outwardSwitch_scan (f : Frame) (s : State) : (s.outwardSwitch f).scan = s.scan := by simp only [State.outwardSwitch]; (repeat' split) <;> simp
@[simp] theorem outwardSwitch_params (f : Frame) (s : State) : (s.outwardSwitch f).params = s.params := by simp only [State.outwardSwitch]; (repeat' split) <;> simp
@[simp] theorem outwardSwitch_timer (f : Frame) (s : State) : (s.outwardSwitch f).timer = s.timer := by simp only [State.outwardSwitch]; (repeat' split) <;> simp
@[simp] theorem outwardSwitch_pending (f : Frame) (s : State) : (s.outwardSwitch f).pending = s.pending := by simp only [State.outwardSwitch]; (repeat' split) <;> simp

@[simp] theorem homewardSwitch_inReset (f : Frame) (s : State) : (s.homewardSwitch f).inReset = s.inReset := by simp only [State.homewardSwitch]; (repeat' split) <;> simp
@[simp] theorem homewardSwitch_portU (f : Frame) (s : State) : (s.homewardSwitch f).portU = s.portU := by simp only [State.homewardSwitch]; (repeat' split) <;> simp
@[simp] theorem homewardSwitch_portD (f : Frame) (s : State) : (s.homewardSwitch f).portD = s.portD := by simp only [State.homewardSwitch]; (repeat' split) <;> simp
@[simp] theorem homewardSwitch_position (f : Frame) (s : State) : (s.homewardSwitch f).position = s.position := by simp only [State.homewardSwitch]; (repeat' split) <;> simp
@[simp] theorem homewardSwitch_chainEnd (f : Frame) (s : State) : (s.homewardSwitch f).chainEnd = s.chainEnd := by simp only [State.homewardSwitch]; (repeat' split) <;> simp
@[simp] theorem homewardSwitch_otq (f : Frame) (s : State) : (s.homewardSwitch f).otq = s.otq := by simp only [State.homewardSwitch]; (repeat' split) <;> simp
@[simp] theorem homewardSwitch_inbox (f : Frame) (s : State) : (s.homewardSwitch f).inbox = s.inbox := by simp only [State.homewardSwitch]; (repeat' split) <;> simp
@[simp] theorem homewardSwitch_uTx (f : Frame) (s : State) : (s.homewardSwitch f).uTx = s.uTx := by simp only [State.homewardSwitch]; (repeat' split) <;> simp
@[simp] theorem homewardSwitch_dTx (f : Frame) (s : State) : (s.homewardSwitch f).dTx = s.dTx := by simp only [State.homewardSwitch]; (repeat' split) <;> simp
@[simp] theorem homewardSwitch_streak (f : Frame) (s : State) : (s.homewardSwitch f).streak = s.streak := by simp only [State.homewardSwitch]; (repeat' split) <;> simp
@[simp] theorem homewardSwitch_loq (f : Frame) (s : State) : (s.homewardSwitch f).loq = s.loq := by simp only [State.homewardSwitch]; (repeat' split) <;> simp
@[simp] theorem homewardSwitch_queue (f : Frame) (s : State) : (s.homewardSwitch f).queue = s.queue := by simp only [State.homewardSwitch]; (repeat' split) <;> simp
@[simp] theorem homewardSwitch_dlc (f : Frame) (s : State) : (s.homewardSwitch f).dlc = s.dlc := by simp only [State.homewardSwitch]; (repeat' split) <;> simp
@[simp] theorem homewardSwitch_nodes (f : Frame) (s : State) : (s.homewardSwitch f).nodes = s.nodes := by simp only [State.homewardSwitch]; (repeat' split) <;> simp
@[simp] theorem homewardSwitch_bank0 (f : Frame) (s : State) : (s.homewardSwitch f).bank0 = s.bank0 := by simp only [State.homewardSwitch]; (repeat' split) <;> simp
@[simp] theorem homewardSwitch_bank1 (f : Frame) (s : State) : (s.homewardSwitch f).bank1 = s.bank1 := by simp only [State.homewardSwitch]; (repeat' split) <;> simp
@[simp] theorem homewardSwitch_activeBank (f : Frame) (s : State) : (s.homewardSwitch f).activeBank = s.activeBank := by simp only [State.homewardSwitch]; (repeat' split) <;> simp
@[simp] theorem homewardSwitch_epoch (f : Frame) (s : State) : (s.homewardSwitch f).epoch = s.epoch := by simp only [State.homewardSwitch]; (repeat' split) <;> simp
@[simp] theorem homewardSwitch_commit (f : Frame) (s : State) : (s.homewardSwitch f).commit = s.commit := by simp only [State.homewardSwitch]; (repeat' split) <;> simp
@[simp] theorem homewardSwitch_scan (f : Frame) (s : State) : (s.homewardSwitch f).scan = s.scan := by simp only [State.homewardSwitch]; (repeat' split) <;> simp
@[simp] theorem homewardSwitch_params (f : Frame) (s : State) : (s.homewardSwitch f).params = s.params := by simp only [State.homewardSwitch]; (repeat' split) <;> simp
@[simp] theorem homewardSwitch_timer (f : Frame) (s : State) : (s.homewardSwitch f).timer = s.timer := by simp only [State.homewardSwitch]; (repeat' split) <;> simp
@[simp] theorem homewardSwitch_pending (f : Frame) (s : State) : (s.homewardSwitch f).pending = s.pending := by simp only [State.homewardSwitch]; (repeat' split) <;> simp


/-! ### Homeward.lean -/

@[simp] theorem grant_inReset (s : State) : (s.grant).inReset = s.inReset := by simp only [State.grant]; (repeat' split) <;> simp
@[simp] theorem grant_portU (s : State) : (s.grant).portU = s.portU := by simp only [State.grant]; (repeat' split) <;> simp
@[simp] theorem grant_portD (s : State) : (s.grant).portD = s.portD := by simp only [State.grant]; (repeat' split) <;> simp
@[simp] theorem grant_position (s : State) : (s.grant).position = s.position := by simp only [State.grant]; (repeat' split) <;> simp
@[simp] theorem grant_chainEnd (s : State) : (s.grant).chainEnd = s.chainEnd := by simp only [State.grant]; (repeat' split) <;> simp
@[simp] theorem grant_otq (s : State) : (s.grant).otq = s.otq := by simp only [State.grant]; (repeat' split) <;> simp
@[simp] theorem grant_htq (s : State) : (s.grant).htq = s.htq := by simp only [State.grant]; (repeat' split) <;> simp
@[simp] theorem grant_inbox (s : State) : (s.grant).inbox = s.inbox := by simp only [State.grant]; (repeat' split) <;> simp
@[simp] theorem grant_dTx (s : State) : (s.grant).dTx = s.dTx := by simp only [State.grant]; (repeat' split) <;> simp
@[simp] theorem grant_loq (s : State) : (s.grant).loq = s.loq := by simp only [State.grant]; (repeat' split) <;> simp
@[simp] theorem grant_notice (s : State) : (s.grant).notice = s.notice := by simp only [State.grant]; (repeat' split) <;> simp
@[simp] theorem grant_queue (s : State) : (s.grant).queue = s.queue := by simp only [State.grant]; (repeat' split) <;> simp
@[simp] theorem grant_dlc (s : State) : (s.grant).dlc = s.dlc := by simp only [State.grant]; (repeat' split) <;> simp
@[simp] theorem grant_nodes (s : State) : (s.grant).nodes = s.nodes := by simp only [State.grant]; (repeat' split) <;> simp
@[simp] theorem grant_bank0 (s : State) : (s.grant).bank0 = s.bank0 := by simp only [State.grant]; (repeat' split) <;> simp
@[simp] theorem grant_bank1 (s : State) : (s.grant).bank1 = s.bank1 := by simp only [State.grant]; (repeat' split) <;> simp
@[simp] theorem grant_activeBank (s : State) : (s.grant).activeBank = s.activeBank := by simp only [State.grant]; (repeat' split) <;> simp
@[simp] theorem grant_epoch (s : State) : (s.grant).epoch = s.epoch := by simp only [State.grant]; (repeat' split) <;> simp
@[simp] theorem grant_commit (s : State) : (s.grant).commit = s.commit := by simp only [State.grant]; (repeat' split) <;> simp
@[simp] theorem grant_scan (s : State) : (s.grant).scan = s.scan := by simp only [State.grant]; (repeat' split) <;> simp
@[simp] theorem grant_params (s : State) : (s.grant).params = s.params := by simp only [State.grant]; (repeat' split) <;> simp
@[simp] theorem grant_faults (s : State) : (s.grant).faults = s.faults := by simp only [State.grant]; (repeat' split) <;> simp
@[simp] theorem grant_counters (s : State) : (s.grant).counters = s.counters := by simp only [State.grant]; (repeat' split) <;> simp
@[simp] theorem grant_timer (s : State) : (s.grant).timer = s.timer := by simp only [State.grant]; (repeat' split) <;> simp
@[simp] theorem grant_pending (s : State) : (s.grant).pending = s.pending := by simp only [State.grant]; (repeat' split) <;> simp

@[simp] theorem endUTx_inReset (s : State) : (s.endUTx).inReset = s.inReset := by simp only [State.endUTx]; (repeat' split) <;> simp
@[simp] theorem endUTx_position (s : State) : (s.endUTx).position = s.position := by simp only [State.endUTx]; (repeat' split) <;> simp
@[simp] theorem endUTx_chainEnd (s : State) : (s.endUTx).chainEnd = s.chainEnd := by simp only [State.endUTx]; (repeat' split) <;> simp
@[simp] theorem endUTx_otq (s : State) : (s.endUTx).otq = s.otq := by simp only [State.endUTx]; (repeat' split) <;> simp
@[simp] theorem endUTx_inbox (s : State) : (s.endUTx).inbox = s.inbox := by simp only [State.endUTx]; (repeat' split) <;> simp
@[simp] theorem endUTx_dTx (s : State) : (s.endUTx).dTx = s.dTx := by simp only [State.endUTx]; (repeat' split) <;> simp
@[simp] theorem endUTx_streak (s : State) : (s.endUTx).streak = s.streak := by simp only [State.endUTx]; (repeat' split) <;> simp
@[simp] theorem endUTx_notice (s : State) : (s.endUTx).notice = s.notice := by simp only [State.endUTx]; (repeat' split) <;> simp
@[simp] theorem endUTx_queue (s : State) : (s.endUTx).queue = s.queue := by simp only [State.endUTx]; (repeat' split) <;> simp
@[simp] theorem endUTx_dlc (s : State) : (s.endUTx).dlc = s.dlc := by simp only [State.endUTx]; (repeat' split) <;> simp
@[simp] theorem endUTx_nodes (s : State) : (s.endUTx).nodes = s.nodes := by simp only [State.endUTx]; (repeat' split) <;> simp
@[simp] theorem endUTx_bank0 (s : State) : (s.endUTx).bank0 = s.bank0 := by simp only [State.endUTx]; (repeat' split) <;> simp
@[simp] theorem endUTx_bank1 (s : State) : (s.endUTx).bank1 = s.bank1 := by simp only [State.endUTx]; (repeat' split) <;> simp
@[simp] theorem endUTx_activeBank (s : State) : (s.endUTx).activeBank = s.activeBank := by simp only [State.endUTx]; (repeat' split) <;> simp
@[simp] theorem endUTx_epoch (s : State) : (s.endUTx).epoch = s.epoch := by simp only [State.endUTx]; (repeat' split) <;> simp
@[simp] theorem endUTx_commit (s : State) : (s.endUTx).commit = s.commit := by simp only [State.endUTx]; (repeat' split) <;> simp
@[simp] theorem endUTx_scan (s : State) : (s.endUTx).scan = s.scan := by simp only [State.endUTx]; (repeat' split) <;> simp
@[simp] theorem endUTx_params (s : State) : (s.endUTx).params = s.params := by simp only [State.endUTx]; (repeat' split) <;> simp
@[simp] theorem endUTx_faults (s : State) : (s.endUTx).faults = s.faults := by simp only [State.endUTx]; (repeat' split) <;> simp
@[simp] theorem endUTx_counters (s : State) : (s.endUTx).counters = s.counters := by simp only [State.endUTx]; (repeat' split) <;> simp
@[simp] theorem endUTx_timer (s : State) : (s.endUTx).timer = s.timer := by simp only [State.endUTx]; (repeat' split) <;> simp
@[simp] theorem endUTx_pending (s : State) : (s.endUTx).pending = s.pending := by simp only [State.endUTx]; (repeat' split) <;> simp

@[simp] theorem placeNotice_inReset (s : State) : (s.placeNotice).inReset = s.inReset := by simp [State.placeNotice]
@[simp] theorem placeNotice_portU (s : State) : (s.placeNotice).portU = s.portU := by simp [State.placeNotice]
@[simp] theorem placeNotice_portD (s : State) : (s.placeNotice).portD = s.portD := by simp [State.placeNotice]
@[simp] theorem placeNotice_position (s : State) : (s.placeNotice).position = s.position := by simp [State.placeNotice]
@[simp] theorem placeNotice_chainEnd (s : State) : (s.placeNotice).chainEnd = s.chainEnd := by simp [State.placeNotice]
@[simp] theorem placeNotice_otq (s : State) : (s.placeNotice).otq = s.otq := by simp [State.placeNotice]
@[simp] theorem placeNotice_htq (s : State) : (s.placeNotice).htq = s.htq := by simp [State.placeNotice]
@[simp] theorem placeNotice_inbox (s : State) : (s.placeNotice).inbox = s.inbox := by simp [State.placeNotice]
@[simp] theorem placeNotice_uTx (s : State) : (s.placeNotice).uTx = s.uTx := by simp [State.placeNotice]
@[simp] theorem placeNotice_dTx (s : State) : (s.placeNotice).dTx = s.dTx := by simp [State.placeNotice]
@[simp] theorem placeNotice_streak (s : State) : (s.placeNotice).streak = s.streak := by simp [State.placeNotice]
@[simp] theorem placeNotice_queue (s : State) : (s.placeNotice).queue = s.queue := by simp [State.placeNotice]
@[simp] theorem placeNotice_dlc (s : State) : (s.placeNotice).dlc = s.dlc := by simp [State.placeNotice]
@[simp] theorem placeNotice_nodes (s : State) : (s.placeNotice).nodes = s.nodes := by simp [State.placeNotice]
@[simp] theorem placeNotice_bank0 (s : State) : (s.placeNotice).bank0 = s.bank0 := by simp [State.placeNotice]
@[simp] theorem placeNotice_bank1 (s : State) : (s.placeNotice).bank1 = s.bank1 := by simp [State.placeNotice]
@[simp] theorem placeNotice_activeBank (s : State) : (s.placeNotice).activeBank = s.activeBank := by simp [State.placeNotice]
@[simp] theorem placeNotice_epoch (s : State) : (s.placeNotice).epoch = s.epoch := by simp [State.placeNotice]
@[simp] theorem placeNotice_commit (s : State) : (s.placeNotice).commit = s.commit := by simp [State.placeNotice]
@[simp] theorem placeNotice_scan (s : State) : (s.placeNotice).scan = s.scan := by simp [State.placeNotice]
@[simp] theorem placeNotice_params (s : State) : (s.placeNotice).params = s.params := by simp [State.placeNotice]
@[simp] theorem placeNotice_faults (s : State) : (s.placeNotice).faults = s.faults := by simp [State.placeNotice]
@[simp] theorem placeNotice_counters (s : State) : (s.placeNotice).counters = s.counters := by simp [State.placeNotice]
@[simp] theorem placeNotice_timer (s : State) : (s.placeNotice).timer = s.timer := by simp [State.placeNotice]
@[simp] theorem placeNotice_pending (s : State) : (s.placeNotice).pending = s.pending := by simp [State.placeNotice]


/-! ### Admission.lean -/

@[simp] theorem admitRequest_inReset (f : Frame) (n : Nat) (s : State) : (s.admitRequest f n).inReset = s.inReset := by simp only [State.admitRequest]; (repeat' split) <;> simp
@[simp] theorem admitRequest_portU (f : Frame) (n : Nat) (s : State) : (s.admitRequest f n).portU = s.portU := by simp only [State.admitRequest]; (repeat' split) <;> simp
@[simp] theorem admitRequest_portD (f : Frame) (n : Nat) (s : State) : (s.admitRequest f n).portD = s.portD := by simp only [State.admitRequest]; (repeat' split) <;> simp
@[simp] theorem admitRequest_position (f : Frame) (n : Nat) (s : State) : (s.admitRequest f n).position = s.position := by simp only [State.admitRequest]; (repeat' split) <;> simp
@[simp] theorem admitRequest_chainEnd (f : Frame) (n : Nat) (s : State) : (s.admitRequest f n).chainEnd = s.chainEnd := by simp only [State.admitRequest]; (repeat' split) <;> simp
@[simp] theorem admitRequest_otq (f : Frame) (n : Nat) (s : State) : (s.admitRequest f n).otq = s.otq := by simp only [State.admitRequest]; (repeat' split) <;> simp
@[simp] theorem admitRequest_htq (f : Frame) (n : Nat) (s : State) : (s.admitRequest f n).htq = s.htq := by simp only [State.admitRequest]; (repeat' split) <;> simp
@[simp] theorem admitRequest_inbox (f : Frame) (n : Nat) (s : State) : (s.admitRequest f n).inbox = s.inbox := by simp only [State.admitRequest]; (repeat' split) <;> simp
@[simp] theorem admitRequest_uTx (f : Frame) (n : Nat) (s : State) : (s.admitRequest f n).uTx = s.uTx := by simp only [State.admitRequest]; (repeat' split) <;> simp
@[simp] theorem admitRequest_dTx (f : Frame) (n : Nat) (s : State) : (s.admitRequest f n).dTx = s.dTx := by simp only [State.admitRequest]; (repeat' split) <;> simp
@[simp] theorem admitRequest_streak (f : Frame) (n : Nat) (s : State) : (s.admitRequest f n).streak = s.streak := by simp only [State.admitRequest]; (repeat' split) <;> simp
@[simp] theorem admitRequest_notice (f : Frame) (n : Nat) (s : State) : (s.admitRequest f n).notice = s.notice := by simp only [State.admitRequest]; (repeat' split) <;> simp
@[simp] theorem admitRequest_dlc (f : Frame) (n : Nat) (s : State) : (s.admitRequest f n).dlc = s.dlc := by simp only [State.admitRequest]; (repeat' split) <;> simp
@[simp] theorem admitRequest_nodes (f : Frame) (n : Nat) (s : State) : (s.admitRequest f n).nodes = s.nodes := by simp only [State.admitRequest]; (repeat' split) <;> simp
@[simp] theorem admitRequest_bank0 (f : Frame) (n : Nat) (s : State) : (s.admitRequest f n).bank0 = s.bank0 := by simp only [State.admitRequest]; (repeat' split) <;> simp
@[simp] theorem admitRequest_bank1 (f : Frame) (n : Nat) (s : State) : (s.admitRequest f n).bank1 = s.bank1 := by simp only [State.admitRequest]; (repeat' split) <;> simp
@[simp] theorem admitRequest_activeBank (f : Frame) (n : Nat) (s : State) : (s.admitRequest f n).activeBank = s.activeBank := by simp only [State.admitRequest]; (repeat' split) <;> simp
@[simp] theorem admitRequest_epoch (f : Frame) (n : Nat) (s : State) : (s.admitRequest f n).epoch = s.epoch := by simp only [State.admitRequest]; (repeat' split) <;> simp
@[simp] theorem admitRequest_commit (f : Frame) (n : Nat) (s : State) : (s.admitRequest f n).commit = s.commit := by simp only [State.admitRequest]; (repeat' split) <;> simp
@[simp] theorem admitRequest_scan (f : Frame) (n : Nat) (s : State) : (s.admitRequest f n).scan = s.scan := by simp only [State.admitRequest]; (repeat' split) <;> simp
@[simp] theorem admitRequest_params (f : Frame) (n : Nat) (s : State) : (s.admitRequest f n).params = s.params := by simp only [State.admitRequest]; (repeat' split) <;> simp
@[simp] theorem admitRequest_faults (f : Frame) (n : Nat) (s : State) : (s.admitRequest f n).faults = s.faults := by simp only [State.admitRequest]; (repeat' split) <;> simp
@[simp] theorem admitRequest_timer (f : Frame) (n : Nat) (s : State) : (s.admitRequest f n).timer = s.timer := by simp only [State.admitRequest]; (repeat' split) <;> simp
@[simp] theorem admitRequest_pending (f : Frame) (n : Nat) (s : State) : (s.admitRequest f n).pending = s.pending := by simp only [State.admitRequest]; (repeat' split) <;> simp


/-! ### Exchange.lean -/

@[simp] theorem beginAttempt_inReset (x : Exchange) (s : State) : (s.beginAttempt x).inReset = s.inReset := by simp only [State.beginAttempt]; (repeat' split) <;> simp
@[simp] theorem beginAttempt_portU (x : Exchange) (s : State) : (s.beginAttempt x).portU = s.portU := by simp only [State.beginAttempt]; (repeat' split) <;> simp
@[simp] theorem beginAttempt_portD (x : Exchange) (s : State) : (s.beginAttempt x).portD = s.portD := by simp only [State.beginAttempt]; (repeat' split) <;> simp
@[simp] theorem beginAttempt_position (x : Exchange) (s : State) : (s.beginAttempt x).position = s.position := by simp only [State.beginAttempt]; (repeat' split) <;> simp
@[simp] theorem beginAttempt_chainEnd (x : Exchange) (s : State) : (s.beginAttempt x).chainEnd = s.chainEnd := by simp only [State.beginAttempt]; (repeat' split) <;> simp
@[simp] theorem beginAttempt_otq (x : Exchange) (s : State) : (s.beginAttempt x).otq = s.otq := by simp only [State.beginAttempt]; (repeat' split) <;> simp
@[simp] theorem beginAttempt_htq (x : Exchange) (s : State) : (s.beginAttempt x).htq = s.htq := by simp only [State.beginAttempt]; (repeat' split) <;> simp
@[simp] theorem beginAttempt_inbox (x : Exchange) (s : State) : (s.beginAttempt x).inbox = s.inbox := by simp only [State.beginAttempt]; (repeat' split) <;> simp
@[simp] theorem beginAttempt_uTx (x : Exchange) (s : State) : (s.beginAttempt x).uTx = s.uTx := by simp only [State.beginAttempt]; (repeat' split) <;> simp
@[simp] theorem beginAttempt_dTx (x : Exchange) (s : State) : (s.beginAttempt x).dTx = s.dTx := by simp only [State.beginAttempt]; (repeat' split) <;> simp
@[simp] theorem beginAttempt_streak (x : Exchange) (s : State) : (s.beginAttempt x).streak = s.streak := by simp only [State.beginAttempt]; (repeat' split) <;> simp
@[simp] theorem beginAttempt_loq (x : Exchange) (s : State) : (s.beginAttempt x).loq = s.loq := by simp only [State.beginAttempt]; (repeat' split) <;> simp
@[simp] theorem beginAttempt_notice (x : Exchange) (s : State) : (s.beginAttempt x).notice = s.notice := by simp only [State.beginAttempt]; (repeat' split) <;> simp
@[simp] theorem beginAttempt_queue (x : Exchange) (s : State) : (s.beginAttempt x).queue = s.queue := by simp only [State.beginAttempt]; (repeat' split) <;> simp
@[simp] theorem beginAttempt_nodes (x : Exchange) (s : State) : (s.beginAttempt x).nodes = s.nodes := by simp only [State.beginAttempt]; (repeat' split) <;> simp
@[simp] theorem beginAttempt_bank0 (x : Exchange) (s : State) : (s.beginAttempt x).bank0 = s.bank0 := by simp only [State.beginAttempt]; (repeat' split) <;> simp
@[simp] theorem beginAttempt_bank1 (x : Exchange) (s : State) : (s.beginAttempt x).bank1 = s.bank1 := by simp only [State.beginAttempt]; (repeat' split) <;> simp
@[simp] theorem beginAttempt_activeBank (x : Exchange) (s : State) : (s.beginAttempt x).activeBank = s.activeBank := by simp only [State.beginAttempt]; (repeat' split) <;> simp
@[simp] theorem beginAttempt_epoch (x : Exchange) (s : State) : (s.beginAttempt x).epoch = s.epoch := by simp only [State.beginAttempt]; (repeat' split) <;> simp
@[simp] theorem beginAttempt_commit (x : Exchange) (s : State) : (s.beginAttempt x).commit = s.commit := by simp only [State.beginAttempt]; (repeat' split) <;> simp
@[simp] theorem beginAttempt_scan (x : Exchange) (s : State) : (s.beginAttempt x).scan = s.scan := by simp only [State.beginAttempt]; (repeat' split) <;> simp
@[simp] theorem beginAttempt_params (x : Exchange) (s : State) : (s.beginAttempt x).params = s.params := by simp only [State.beginAttempt]; (repeat' split) <;> simp
@[simp] theorem beginAttempt_faults (x : Exchange) (s : State) : (s.beginAttempt x).faults = s.faults := by simp only [State.beginAttempt]; (repeat' split) <;> simp
@[simp] theorem beginAttempt_timer (x : Exchange) (s : State) : (s.beginAttempt x).timer = s.timer := by simp only [State.beginAttempt]; (repeat' split) <;> simp
@[simp] theorem beginAttempt_pending (x : Exchange) (s : State) : (s.beginAttempt x).pending = s.pending := by simp only [State.beginAttempt]; (repeat' split) <;> simp

@[simp] theorem startExchange_inReset (r : ExRecord) (s : State) : (s.startExchange r).inReset = s.inReset := by simp [State.startExchange]
@[simp] theorem startExchange_portU (r : ExRecord) (s : State) : (s.startExchange r).portU = s.portU := by simp [State.startExchange]
@[simp] theorem startExchange_portD (r : ExRecord) (s : State) : (s.startExchange r).portD = s.portD := by simp [State.startExchange]
@[simp] theorem startExchange_position (r : ExRecord) (s : State) : (s.startExchange r).position = s.position := by simp [State.startExchange]
@[simp] theorem startExchange_chainEnd (r : ExRecord) (s : State) : (s.startExchange r).chainEnd = s.chainEnd := by simp [State.startExchange]
@[simp] theorem startExchange_otq (r : ExRecord) (s : State) : (s.startExchange r).otq = s.otq := by simp [State.startExchange]
@[simp] theorem startExchange_htq (r : ExRecord) (s : State) : (s.startExchange r).htq = s.htq := by simp [State.startExchange]
@[simp] theorem startExchange_inbox (r : ExRecord) (s : State) : (s.startExchange r).inbox = s.inbox := by simp [State.startExchange]
@[simp] theorem startExchange_uTx (r : ExRecord) (s : State) : (s.startExchange r).uTx = s.uTx := by simp [State.startExchange]
@[simp] theorem startExchange_dTx (r : ExRecord) (s : State) : (s.startExchange r).dTx = s.dTx := by simp [State.startExchange]
@[simp] theorem startExchange_streak (r : ExRecord) (s : State) : (s.startExchange r).streak = s.streak := by simp [State.startExchange]
@[simp] theorem startExchange_loq (r : ExRecord) (s : State) : (s.startExchange r).loq = s.loq := by simp [State.startExchange]
@[simp] theorem startExchange_notice (r : ExRecord) (s : State) : (s.startExchange r).notice = s.notice := by simp [State.startExchange]
@[simp] theorem startExchange_queue (r : ExRecord) (s : State) : (s.startExchange r).queue = s.queue := by simp [State.startExchange]
@[simp] theorem startExchange_nodes (r : ExRecord) (s : State) : (s.startExchange r).nodes = s.nodes := by simp [State.startExchange]
@[simp] theorem startExchange_bank0 (r : ExRecord) (s : State) : (s.startExchange r).bank0 = s.bank0 := by simp [State.startExchange]
@[simp] theorem startExchange_bank1 (r : ExRecord) (s : State) : (s.startExchange r).bank1 = s.bank1 := by simp [State.startExchange]
@[simp] theorem startExchange_activeBank (r : ExRecord) (s : State) : (s.startExchange r).activeBank = s.activeBank := by simp [State.startExchange]
@[simp] theorem startExchange_epoch (r : ExRecord) (s : State) : (s.startExchange r).epoch = s.epoch := by simp [State.startExchange]
@[simp] theorem startExchange_commit (r : ExRecord) (s : State) : (s.startExchange r).commit = s.commit := by simp [State.startExchange]
@[simp] theorem startExchange_scan (r : ExRecord) (s : State) : (s.startExchange r).scan = s.scan := by simp [State.startExchange]
@[simp] theorem startExchange_params (r : ExRecord) (s : State) : (s.startExchange r).params = s.params := by simp [State.startExchange]
@[simp] theorem startExchange_faults (r : ExRecord) (s : State) : (s.startExchange r).faults = s.faults := by simp [State.startExchange]
@[simp] theorem startExchange_timer (r : ExRecord) (s : State) : (s.startExchange r).timer = s.timer := by simp [State.startExchange]
@[simp] theorem startExchange_pending (r : ExRecord) (s : State) : (s.startExchange r).pending = s.pending := by simp [State.startExchange]

@[simp] theorem completeOffline_inReset (r : ExRecord) (s : State) : (s.completeOffline r).inReset = s.inReset := by cases r <;> simp [State.completeOffline]
@[simp] theorem completeOffline_portU (r : ExRecord) (s : State) : (s.completeOffline r).portU = s.portU := by cases r <;> simp [State.completeOffline]
@[simp] theorem completeOffline_portD (r : ExRecord) (s : State) : (s.completeOffline r).portD = s.portD := by cases r <;> simp [State.completeOffline]
@[simp] theorem completeOffline_position (r : ExRecord) (s : State) : (s.completeOffline r).position = s.position := by cases r <;> simp [State.completeOffline]
@[simp] theorem completeOffline_chainEnd (r : ExRecord) (s : State) : (s.completeOffline r).chainEnd = s.chainEnd := by cases r <;> simp [State.completeOffline]
@[simp] theorem completeOffline_otq (r : ExRecord) (s : State) : (s.completeOffline r).otq = s.otq := by cases r <;> simp [State.completeOffline]
@[simp] theorem completeOffline_htq (r : ExRecord) (s : State) : (s.completeOffline r).htq = s.htq := by cases r <;> simp [State.completeOffline]
@[simp] theorem completeOffline_inbox (r : ExRecord) (s : State) : (s.completeOffline r).inbox = s.inbox := by cases r <;> simp [State.completeOffline]
@[simp] theorem completeOffline_uTx (r : ExRecord) (s : State) : (s.completeOffline r).uTx = s.uTx := by cases r <;> simp [State.completeOffline]
@[simp] theorem completeOffline_dTx (r : ExRecord) (s : State) : (s.completeOffline r).dTx = s.dTx := by cases r <;> simp [State.completeOffline]
@[simp] theorem completeOffline_streak (r : ExRecord) (s : State) : (s.completeOffline r).streak = s.streak := by cases r <;> simp [State.completeOffline]
@[simp] theorem completeOffline_notice (r : ExRecord) (s : State) : (s.completeOffline r).notice = s.notice := by cases r <;> simp [State.completeOffline]
@[simp] theorem completeOffline_queue (r : ExRecord) (s : State) : (s.completeOffline r).queue = s.queue := by cases r <;> simp [State.completeOffline]
@[simp] theorem completeOffline_dlc (r : ExRecord) (s : State) : (s.completeOffline r).dlc = s.dlc := by cases r <;> simp [State.completeOffline]
@[simp] theorem completeOffline_nodes (r : ExRecord) (s : State) : (s.completeOffline r).nodes = s.nodes := by cases r <;> simp [State.completeOffline]
@[simp] theorem completeOffline_bank0 (r : ExRecord) (s : State) : (s.completeOffline r).bank0 = s.bank0 := by cases r <;> simp [State.completeOffline]
@[simp] theorem completeOffline_bank1 (r : ExRecord) (s : State) : (s.completeOffline r).bank1 = s.bank1 := by cases r <;> simp [State.completeOffline]
@[simp] theorem completeOffline_activeBank (r : ExRecord) (s : State) : (s.completeOffline r).activeBank = s.activeBank := by cases r <;> simp [State.completeOffline]
@[simp] theorem completeOffline_epoch (r : ExRecord) (s : State) : (s.completeOffline r).epoch = s.epoch := by cases r <;> simp [State.completeOffline]
@[simp] theorem completeOffline_commit (r : ExRecord) (s : State) : (s.completeOffline r).commit = s.commit := by cases r <;> simp [State.completeOffline]
@[simp] theorem completeOffline_params (r : ExRecord) (s : State) : (s.completeOffline r).params = s.params := by cases r <;> simp [State.completeOffline]
@[simp] theorem completeOffline_faults (r : ExRecord) (s : State) : (s.completeOffline r).faults = s.faults := by cases r <;> simp [State.completeOffline]
@[simp] theorem completeOffline_timer (r : ExRecord) (s : State) : (s.completeOffline r).timer = s.timer := by cases r <;> simp [State.completeOffline]
@[simp] theorem completeOffline_pending (r : ExRecord) (s : State) : (s.completeOffline r).pending = s.pending := by cases r <;> simp [State.completeOffline]

@[simp] theorem runRecord_inReset (r : ExRecord) (s : State) : (s.runRecord r).inReset = s.inReset := by simp only [State.runRecord]; (repeat' split) <;> simp
@[simp] theorem runRecord_portU (r : ExRecord) (s : State) : (s.runRecord r).portU = s.portU := by simp only [State.runRecord]; (repeat' split) <;> simp
@[simp] theorem runRecord_portD (r : ExRecord) (s : State) : (s.runRecord r).portD = s.portD := by simp only [State.runRecord]; (repeat' split) <;> simp
@[simp] theorem runRecord_position (r : ExRecord) (s : State) : (s.runRecord r).position = s.position := by simp only [State.runRecord]; (repeat' split) <;> simp
@[simp] theorem runRecord_chainEnd (r : ExRecord) (s : State) : (s.runRecord r).chainEnd = s.chainEnd := by simp only [State.runRecord]; (repeat' split) <;> simp
@[simp] theorem runRecord_otq (r : ExRecord) (s : State) : (s.runRecord r).otq = s.otq := by simp only [State.runRecord]; (repeat' split) <;> simp
@[simp] theorem runRecord_htq (r : ExRecord) (s : State) : (s.runRecord r).htq = s.htq := by simp only [State.runRecord]; (repeat' split) <;> simp
@[simp] theorem runRecord_inbox (r : ExRecord) (s : State) : (s.runRecord r).inbox = s.inbox := by simp only [State.runRecord]; (repeat' split) <;> simp
@[simp] theorem runRecord_uTx (r : ExRecord) (s : State) : (s.runRecord r).uTx = s.uTx := by simp only [State.runRecord]; (repeat' split) <;> simp
@[simp] theorem runRecord_dTx (r : ExRecord) (s : State) : (s.runRecord r).dTx = s.dTx := by simp only [State.runRecord]; (repeat' split) <;> simp
@[simp] theorem runRecord_streak (r : ExRecord) (s : State) : (s.runRecord r).streak = s.streak := by simp only [State.runRecord]; (repeat' split) <;> simp
@[simp] theorem runRecord_notice (r : ExRecord) (s : State) : (s.runRecord r).notice = s.notice := by simp only [State.runRecord]; (repeat' split) <;> simp
@[simp] theorem runRecord_queue (r : ExRecord) (s : State) : (s.runRecord r).queue = s.queue := by simp only [State.runRecord]; (repeat' split) <;> simp
@[simp] theorem runRecord_nodes (r : ExRecord) (s : State) : (s.runRecord r).nodes = s.nodes := by simp only [State.runRecord]; (repeat' split) <;> simp
@[simp] theorem runRecord_bank0 (r : ExRecord) (s : State) : (s.runRecord r).bank0 = s.bank0 := by simp only [State.runRecord]; (repeat' split) <;> simp
@[simp] theorem runRecord_bank1 (r : ExRecord) (s : State) : (s.runRecord r).bank1 = s.bank1 := by simp only [State.runRecord]; (repeat' split) <;> simp
@[simp] theorem runRecord_activeBank (r : ExRecord) (s : State) : (s.runRecord r).activeBank = s.activeBank := by simp only [State.runRecord]; (repeat' split) <;> simp
@[simp] theorem runRecord_epoch (r : ExRecord) (s : State) : (s.runRecord r).epoch = s.epoch := by simp only [State.runRecord]; (repeat' split) <;> simp
@[simp] theorem runRecord_commit (r : ExRecord) (s : State) : (s.runRecord r).commit = s.commit := by simp only [State.runRecord]; (repeat' split) <;> simp
@[simp] theorem runRecord_params (r : ExRecord) (s : State) : (s.runRecord r).params = s.params := by simp only [State.runRecord]; (repeat' split) <;> simp
@[simp] theorem runRecord_faults (r : ExRecord) (s : State) : (s.runRecord r).faults = s.faults := by simp only [State.runRecord]; (repeat' split) <;> simp
@[simp] theorem runRecord_timer (r : ExRecord) (s : State) : (s.runRecord r).timer = s.timer := by simp only [State.runRecord]; (repeat' split) <;> simp
@[simp] theorem runRecord_pending (r : ExRecord) (s : State) : (s.runRecord r).pending = s.pending := by simp only [State.runRecord]; (repeat' split) <;> simp

@[simp] theorem claimScanSlot_inReset (r : ExRecord) (s : State) : (s.claimScanSlot r).2.inReset = s.inReset := by
  simp only [State.claimScanSlot]; (repeat' split) <;> simp
@[simp] theorem claimScanSlot_portU (r : ExRecord) (s : State) : (s.claimScanSlot r).2.portU = s.portU := by
  simp only [State.claimScanSlot]; (repeat' split) <;> simp
@[simp] theorem claimScanSlot_portD (r : ExRecord) (s : State) : (s.claimScanSlot r).2.portD = s.portD := by
  simp only [State.claimScanSlot]; (repeat' split) <;> simp
@[simp] theorem claimScanSlot_position (r : ExRecord) (s : State) : (s.claimScanSlot r).2.position = s.position := by
  simp only [State.claimScanSlot]; (repeat' split) <;> simp
@[simp] theorem claimScanSlot_chainEnd (r : ExRecord) (s : State) : (s.claimScanSlot r).2.chainEnd = s.chainEnd := by
  simp only [State.claimScanSlot]; (repeat' split) <;> simp
@[simp] theorem claimScanSlot_otq (r : ExRecord) (s : State) : (s.claimScanSlot r).2.otq = s.otq := by
  simp only [State.claimScanSlot]; (repeat' split) <;> simp
@[simp] theorem claimScanSlot_htq (r : ExRecord) (s : State) : (s.claimScanSlot r).2.htq = s.htq := by
  simp only [State.claimScanSlot]; (repeat' split) <;> simp
@[simp] theorem claimScanSlot_inbox (r : ExRecord) (s : State) : (s.claimScanSlot r).2.inbox = s.inbox := by
  simp only [State.claimScanSlot]; (repeat' split) <;> simp
@[simp] theorem claimScanSlot_uTx (r : ExRecord) (s : State) : (s.claimScanSlot r).2.uTx = s.uTx := by
  simp only [State.claimScanSlot]; (repeat' split) <;> simp
@[simp] theorem claimScanSlot_dTx (r : ExRecord) (s : State) : (s.claimScanSlot r).2.dTx = s.dTx := by
  simp only [State.claimScanSlot]; (repeat' split) <;> simp
@[simp] theorem claimScanSlot_streak (r : ExRecord) (s : State) : (s.claimScanSlot r).2.streak = s.streak := by
  simp only [State.claimScanSlot]; (repeat' split) <;> simp
@[simp] theorem claimScanSlot_notice (r : ExRecord) (s : State) : (s.claimScanSlot r).2.notice = s.notice := by
  simp only [State.claimScanSlot]; (repeat' split) <;> simp
@[simp] theorem claimScanSlot_queue (r : ExRecord) (s : State) : (s.claimScanSlot r).2.queue = s.queue := by
  simp only [State.claimScanSlot]; (repeat' split) <;> simp
@[simp] theorem claimScanSlot_dlc (r : ExRecord) (s : State) : (s.claimScanSlot r).2.dlc = s.dlc := by
  simp only [State.claimScanSlot]; (repeat' split) <;> simp
@[simp] theorem claimScanSlot_nodes (r : ExRecord) (s : State) : (s.claimScanSlot r).2.nodes = s.nodes := by
  simp only [State.claimScanSlot]; (repeat' split) <;> simp
@[simp] theorem claimScanSlot_bank0 (r : ExRecord) (s : State) : (s.claimScanSlot r).2.bank0 = s.bank0 := by
  simp only [State.claimScanSlot]; (repeat' split) <;> simp
@[simp] theorem claimScanSlot_bank1 (r : ExRecord) (s : State) : (s.claimScanSlot r).2.bank1 = s.bank1 := by
  simp only [State.claimScanSlot]; (repeat' split) <;> simp
@[simp] theorem claimScanSlot_activeBank (r : ExRecord) (s : State) : (s.claimScanSlot r).2.activeBank = s.activeBank := by
  simp only [State.claimScanSlot]; (repeat' split) <;> simp
@[simp] theorem claimScanSlot_epoch (r : ExRecord) (s : State) : (s.claimScanSlot r).2.epoch = s.epoch := by
  simp only [State.claimScanSlot]; (repeat' split) <;> simp
@[simp] theorem claimScanSlot_commit (r : ExRecord) (s : State) : (s.claimScanSlot r).2.commit = s.commit := by
  simp only [State.claimScanSlot]; (repeat' split) <;> simp
@[simp] theorem claimScanSlot_scan (r : ExRecord) (s : State) : (s.claimScanSlot r).2.scan = s.scan := by
  simp only [State.claimScanSlot]; (repeat' split) <;> simp
@[simp] theorem claimScanSlot_params (r : ExRecord) (s : State) : (s.claimScanSlot r).2.params = s.params := by
  simp only [State.claimScanSlot]; (repeat' split) <;> simp
@[simp] theorem claimScanSlot_faults (r : ExRecord) (s : State) : (s.claimScanSlot r).2.faults = s.faults := by
  simp only [State.claimScanSlot]; (repeat' split) <;> simp
@[simp] theorem claimScanSlot_counters (r : ExRecord) (s : State) : (s.claimScanSlot r).2.counters = s.counters := by
  simp only [State.claimScanSlot]; (repeat' split) <;> simp
@[simp] theorem claimScanSlot_timer (r : ExRecord) (s : State) : (s.claimScanSlot r).2.timer = s.timer := by
  simp only [State.claimScanSlot]; (repeat' split) <;> simp
@[simp] theorem claimScanSlot_pending (r : ExRecord) (s : State) : (s.claimScanSlot r).2.pending = s.pending := by
  simp only [State.claimScanSlot]; (repeat' split) <;> simp

@[simp] theorem select_inReset (s : State) : s.select.inReset = s.inReset := by
  simp only [State.select]; split <;> simp
@[simp] theorem select_portU (s : State) : s.select.portU = s.portU := by
  simp only [State.select]; split <;> simp
@[simp] theorem select_portD (s : State) : s.select.portD = s.portD := by
  simp only [State.select]; split <;> simp
@[simp] theorem select_position (s : State) : s.select.position = s.position := by
  simp only [State.select]; split <;> simp
@[simp] theorem select_chainEnd (s : State) : s.select.chainEnd = s.chainEnd := by
  simp only [State.select]; split <;> simp
@[simp] theorem select_otq (s : State) : s.select.otq = s.otq := by
  simp only [State.select]; split <;> simp
@[simp] theorem select_htq (s : State) : s.select.htq = s.htq := by
  simp only [State.select]; split <;> simp
@[simp] theorem select_inbox (s : State) : s.select.inbox = s.inbox := by
  simp only [State.select]; split <;> simp
@[simp] theorem select_uTx (s : State) : s.select.uTx = s.uTx := by
  simp only [State.select]; split <;> simp
@[simp] theorem select_dTx (s : State) : s.select.dTx = s.dTx := by
  simp only [State.select]; split <;> simp
@[simp] theorem select_streak (s : State) : s.select.streak = s.streak := by
  simp only [State.select]; split <;> simp
@[simp] theorem select_notice (s : State) : s.select.notice = s.notice := by
  simp only [State.select]; split <;> simp
@[simp] theorem select_nodes (s : State) : s.select.nodes = s.nodes := by
  simp only [State.select]; split <;> simp
@[simp] theorem select_bank0 (s : State) : s.select.bank0 = s.bank0 := by
  simp only [State.select]; split <;> simp
@[simp] theorem select_bank1 (s : State) : s.select.bank1 = s.bank1 := by
  simp only [State.select]; split <;> simp
@[simp] theorem select_activeBank (s : State) : s.select.activeBank = s.activeBank := by
  simp only [State.select]; split <;> simp
@[simp] theorem select_epoch (s : State) : s.select.epoch = s.epoch := by
  simp only [State.select]; split <;> simp
@[simp] theorem select_commit (s : State) : s.select.commit = s.commit := by
  simp only [State.select]; split <;> simp
@[simp] theorem select_params (s : State) : s.select.params = s.params := by
  simp only [State.select]; split <;> simp
@[simp] theorem select_faults (s : State) : s.select.faults = s.faults := by
  simp only [State.select]; split <;> simp
@[simp] theorem select_timer (s : State) : s.select.timer = s.timer := by
  simp only [State.select]; split <;> simp
@[simp] theorem select_pending (s : State) : s.select.pending = s.pending := by
  simp only [State.select]; split <;> simp

@[simp] theorem handVerdict_inReset (x : Exchange) (o : Option OutcomeCode) (s : State) : (s.handVerdict x o).inReset = s.inReset := by simp only [State.handVerdict]; (repeat' split) <;> simp
@[simp] theorem handVerdict_portU (x : Exchange) (o : Option OutcomeCode) (s : State) : (s.handVerdict x o).portU = s.portU := by simp only [State.handVerdict]; (repeat' split) <;> simp
@[simp] theorem handVerdict_portD (x : Exchange) (o : Option OutcomeCode) (s : State) : (s.handVerdict x o).portD = s.portD := by simp only [State.handVerdict]; (repeat' split) <;> simp
@[simp] theorem handVerdict_position (x : Exchange) (o : Option OutcomeCode) (s : State) : (s.handVerdict x o).position = s.position := by simp only [State.handVerdict]; (repeat' split) <;> simp
@[simp] theorem handVerdict_chainEnd (x : Exchange) (o : Option OutcomeCode) (s : State) : (s.handVerdict x o).chainEnd = s.chainEnd := by simp only [State.handVerdict]; (repeat' split) <;> simp
@[simp] theorem handVerdict_otq (x : Exchange) (o : Option OutcomeCode) (s : State) : (s.handVerdict x o).otq = s.otq := by simp only [State.handVerdict]; (repeat' split) <;> simp
@[simp] theorem handVerdict_htq (x : Exchange) (o : Option OutcomeCode) (s : State) : (s.handVerdict x o).htq = s.htq := by simp only [State.handVerdict]; (repeat' split) <;> simp
@[simp] theorem handVerdict_inbox (x : Exchange) (o : Option OutcomeCode) (s : State) : (s.handVerdict x o).inbox = s.inbox := by simp only [State.handVerdict]; (repeat' split) <;> simp
@[simp] theorem handVerdict_uTx (x : Exchange) (o : Option OutcomeCode) (s : State) : (s.handVerdict x o).uTx = s.uTx := by simp only [State.handVerdict]; (repeat' split) <;> simp
@[simp] theorem handVerdict_dTx (x : Exchange) (o : Option OutcomeCode) (s : State) : (s.handVerdict x o).dTx = s.dTx := by simp only [State.handVerdict]; (repeat' split) <;> simp
@[simp] theorem handVerdict_streak (x : Exchange) (o : Option OutcomeCode) (s : State) : (s.handVerdict x o).streak = s.streak := by simp only [State.handVerdict]; (repeat' split) <;> simp
@[simp] theorem handVerdict_loq (x : Exchange) (o : Option OutcomeCode) (s : State) : (s.handVerdict x o).loq = s.loq := by simp only [State.handVerdict]; (repeat' split) <;> simp
@[simp] theorem handVerdict_queue (x : Exchange) (o : Option OutcomeCode) (s : State) : (s.handVerdict x o).queue = s.queue := by simp only [State.handVerdict]; (repeat' split) <;> simp
@[simp] theorem handVerdict_dlc (x : Exchange) (o : Option OutcomeCode) (s : State) : (s.handVerdict x o).dlc = s.dlc := by simp only [State.handVerdict]; (repeat' split) <;> simp
@[simp] theorem handVerdict_bank0 (x : Exchange) (o : Option OutcomeCode) (s : State) : (s.handVerdict x o).bank0 = s.bank0 := by simp only [State.handVerdict]; (repeat' split) <;> simp
@[simp] theorem handVerdict_bank1 (x : Exchange) (o : Option OutcomeCode) (s : State) : (s.handVerdict x o).bank1 = s.bank1 := by simp only [State.handVerdict]; (repeat' split) <;> simp
@[simp] theorem handVerdict_activeBank (x : Exchange) (o : Option OutcomeCode) (s : State) : (s.handVerdict x o).activeBank = s.activeBank := by simp only [State.handVerdict]; (repeat' split) <;> simp
@[simp] theorem handVerdict_epoch (x : Exchange) (o : Option OutcomeCode) (s : State) : (s.handVerdict x o).epoch = s.epoch := by simp only [State.handVerdict]; (repeat' split) <;> simp
@[simp] theorem handVerdict_commit (x : Exchange) (o : Option OutcomeCode) (s : State) : (s.handVerdict x o).commit = s.commit := by simp only [State.handVerdict]; (repeat' split) <;> simp
@[simp] theorem handVerdict_scan (x : Exchange) (o : Option OutcomeCode) (s : State) : (s.handVerdict x o).scan = s.scan := by simp only [State.handVerdict]; (repeat' split) <;> simp
@[simp] theorem handVerdict_params (x : Exchange) (o : Option OutcomeCode) (s : State) : (s.handVerdict x o).params = s.params := by simp only [State.handVerdict]; (repeat' split) <;> simp
@[simp] theorem handVerdict_faults (x : Exchange) (o : Option OutcomeCode) (s : State) : (s.handVerdict x o).faults = s.faults := by simp only [State.handVerdict]; (repeat' split) <;> simp
@[simp] theorem handVerdict_counters (x : Exchange) (o : Option OutcomeCode) (s : State) : (s.handVerdict x o).counters = s.counters := by simp only [State.handVerdict]; (repeat' split) <;> simp
@[simp] theorem handVerdict_timer (x : Exchange) (o : Option OutcomeCode) (s : State) : (s.handVerdict x o).timer = s.timer := by simp only [State.handVerdict]; (repeat' split) <;> simp
@[simp] theorem handVerdict_pending (x : Exchange) (o : Option OutcomeCode) (s : State) : (s.handVerdict x o).pending = s.pending := by simp only [State.handVerdict]; (repeat' split) <;> simp

@[simp] theorem handResult_inReset (x : Exchange) (o : Option OutcomeCode) (d : List Byte) (s : State) : (s.handResult x o d).inReset = s.inReset := by simp only [State.handResult]; (repeat' split) <;> simp
@[simp] theorem handResult_portU (x : Exchange) (o : Option OutcomeCode) (d : List Byte) (s : State) : (s.handResult x o d).portU = s.portU := by simp only [State.handResult]; (repeat' split) <;> simp
@[simp] theorem handResult_portD (x : Exchange) (o : Option OutcomeCode) (d : List Byte) (s : State) : (s.handResult x o d).portD = s.portD := by simp only [State.handResult]; (repeat' split) <;> simp
@[simp] theorem handResult_position (x : Exchange) (o : Option OutcomeCode) (d : List Byte) (s : State) : (s.handResult x o d).position = s.position := by simp only [State.handResult]; (repeat' split) <;> simp
@[simp] theorem handResult_chainEnd (x : Exchange) (o : Option OutcomeCode) (d : List Byte) (s : State) : (s.handResult x o d).chainEnd = s.chainEnd := by simp only [State.handResult]; (repeat' split) <;> simp
@[simp] theorem handResult_otq (x : Exchange) (o : Option OutcomeCode) (d : List Byte) (s : State) : (s.handResult x o d).otq = s.otq := by simp only [State.handResult]; (repeat' split) <;> simp
@[simp] theorem handResult_htq (x : Exchange) (o : Option OutcomeCode) (d : List Byte) (s : State) : (s.handResult x o d).htq = s.htq := by simp only [State.handResult]; (repeat' split) <;> simp
@[simp] theorem handResult_inbox (x : Exchange) (o : Option OutcomeCode) (d : List Byte) (s : State) : (s.handResult x o d).inbox = s.inbox := by simp only [State.handResult]; (repeat' split) <;> simp
@[simp] theorem handResult_uTx (x : Exchange) (o : Option OutcomeCode) (d : List Byte) (s : State) : (s.handResult x o d).uTx = s.uTx := by simp only [State.handResult]; (repeat' split) <;> simp
@[simp] theorem handResult_dTx (x : Exchange) (o : Option OutcomeCode) (d : List Byte) (s : State) : (s.handResult x o d).dTx = s.dTx := by simp only [State.handResult]; (repeat' split) <;> simp
@[simp] theorem handResult_streak (x : Exchange) (o : Option OutcomeCode) (d : List Byte) (s : State) : (s.handResult x o d).streak = s.streak := by simp only [State.handResult]; (repeat' split) <;> simp
@[simp] theorem handResult_notice (x : Exchange) (o : Option OutcomeCode) (d : List Byte) (s : State) : (s.handResult x o d).notice = s.notice := by simp only [State.handResult]; (repeat' split) <;> simp
@[simp] theorem handResult_queue (x : Exchange) (o : Option OutcomeCode) (d : List Byte) (s : State) : (s.handResult x o d).queue = s.queue := by simp only [State.handResult]; (repeat' split) <;> simp
@[simp] theorem handResult_dlc (x : Exchange) (o : Option OutcomeCode) (d : List Byte) (s : State) : (s.handResult x o d).dlc = s.dlc := by simp only [State.handResult]; (repeat' split) <;> simp
@[simp] theorem handResult_nodes (x : Exchange) (o : Option OutcomeCode) (d : List Byte) (s : State) : (s.handResult x o d).nodes = s.nodes := by simp only [State.handResult]; (repeat' split) <;> simp
@[simp] theorem handResult_bank0 (x : Exchange) (o : Option OutcomeCode) (d : List Byte) (s : State) : (s.handResult x o d).bank0 = s.bank0 := by simp only [State.handResult]; (repeat' split) <;> simp
@[simp] theorem handResult_bank1 (x : Exchange) (o : Option OutcomeCode) (d : List Byte) (s : State) : (s.handResult x o d).bank1 = s.bank1 := by simp only [State.handResult]; (repeat' split) <;> simp
@[simp] theorem handResult_activeBank (x : Exchange) (o : Option OutcomeCode) (d : List Byte) (s : State) : (s.handResult x o d).activeBank = s.activeBank := by simp only [State.handResult]; (repeat' split) <;> simp
@[simp] theorem handResult_epoch (x : Exchange) (o : Option OutcomeCode) (d : List Byte) (s : State) : (s.handResult x o d).epoch = s.epoch := by simp only [State.handResult]; (repeat' split) <;> simp
@[simp] theorem handResult_commit (x : Exchange) (o : Option OutcomeCode) (d : List Byte) (s : State) : (s.handResult x o d).commit = s.commit := by simp only [State.handResult]; (repeat' split) <;> simp
@[simp] theorem handResult_params (x : Exchange) (o : Option OutcomeCode) (d : List Byte) (s : State) : (s.handResult x o d).params = s.params := by simp only [State.handResult]; (repeat' split) <;> simp
@[simp] theorem handResult_faults (x : Exchange) (o : Option OutcomeCode) (d : List Byte) (s : State) : (s.handResult x o d).faults = s.faults := by simp only [State.handResult]; (repeat' split) <;> simp
@[simp] theorem handResult_counters (x : Exchange) (o : Option OutcomeCode) (d : List Byte) (s : State) : (s.handResult x o d).counters = s.counters := by simp only [State.handResult]; (repeat' split) <;> simp
@[simp] theorem handResult_timer (x : Exchange) (o : Option OutcomeCode) (d : List Byte) (s : State) : (s.handResult x o d).timer = s.timer := by simp only [State.handResult]; (repeat' split) <;> simp
@[simp] theorem handResult_pending (x : Exchange) (o : Option OutcomeCode) (d : List Byte) (s : State) : (s.handResult x o d).pending = s.pending := by simp only [State.handResult]; (repeat' split) <;> simp

@[simp] theorem countOutcome_inReset (o : Option OutcomeCode) (s : State) : (s.countOutcome o).inReset = s.inReset := by
  cases o with
  | none => rfl
  | some o => cases o <;> simp [State.countOutcome]
@[simp] theorem countOutcome_portU (o : Option OutcomeCode) (s : State) : (s.countOutcome o).portU = s.portU := by
  cases o with
  | none => rfl
  | some o => cases o <;> simp [State.countOutcome]
@[simp] theorem countOutcome_portD (o : Option OutcomeCode) (s : State) : (s.countOutcome o).portD = s.portD := by
  cases o with
  | none => rfl
  | some o => cases o <;> simp [State.countOutcome]
@[simp] theorem countOutcome_position (o : Option OutcomeCode) (s : State) : (s.countOutcome o).position = s.position := by
  cases o with
  | none => rfl
  | some o => cases o <;> simp [State.countOutcome]
@[simp] theorem countOutcome_chainEnd (o : Option OutcomeCode) (s : State) : (s.countOutcome o).chainEnd = s.chainEnd := by
  cases o with
  | none => rfl
  | some o => cases o <;> simp [State.countOutcome]
@[simp] theorem countOutcome_otq (o : Option OutcomeCode) (s : State) : (s.countOutcome o).otq = s.otq := by
  cases o with
  | none => rfl
  | some o => cases o <;> simp [State.countOutcome]
@[simp] theorem countOutcome_htq (o : Option OutcomeCode) (s : State) : (s.countOutcome o).htq = s.htq := by
  cases o with
  | none => rfl
  | some o => cases o <;> simp [State.countOutcome]
@[simp] theorem countOutcome_inbox (o : Option OutcomeCode) (s : State) : (s.countOutcome o).inbox = s.inbox := by
  cases o with
  | none => rfl
  | some o => cases o <;> simp [State.countOutcome]
@[simp] theorem countOutcome_uTx (o : Option OutcomeCode) (s : State) : (s.countOutcome o).uTx = s.uTx := by
  cases o with
  | none => rfl
  | some o => cases o <;> simp [State.countOutcome]
@[simp] theorem countOutcome_dTx (o : Option OutcomeCode) (s : State) : (s.countOutcome o).dTx = s.dTx := by
  cases o with
  | none => rfl
  | some o => cases o <;> simp [State.countOutcome]
@[simp] theorem countOutcome_streak (o : Option OutcomeCode) (s : State) : (s.countOutcome o).streak = s.streak := by
  cases o with
  | none => rfl
  | some o => cases o <;> simp [State.countOutcome]
@[simp] theorem countOutcome_loq (o : Option OutcomeCode) (s : State) : (s.countOutcome o).loq = s.loq := by
  cases o with
  | none => rfl
  | some o => cases o <;> simp [State.countOutcome]
@[simp] theorem countOutcome_notice (o : Option OutcomeCode) (s : State) : (s.countOutcome o).notice = s.notice := by
  cases o with
  | none => rfl
  | some o => cases o <;> simp [State.countOutcome]
@[simp] theorem countOutcome_queue (o : Option OutcomeCode) (s : State) : (s.countOutcome o).queue = s.queue := by
  cases o with
  | none => rfl
  | some o => cases o <;> simp [State.countOutcome]
@[simp] theorem countOutcome_dlc (o : Option OutcomeCode) (s : State) : (s.countOutcome o).dlc = s.dlc := by
  cases o with
  | none => rfl
  | some o => cases o <;> simp [State.countOutcome]
@[simp] theorem countOutcome_nodes (o : Option OutcomeCode) (s : State) : (s.countOutcome o).nodes = s.nodes := by
  cases o with
  | none => rfl
  | some o => cases o <;> simp [State.countOutcome]
@[simp] theorem countOutcome_bank0 (o : Option OutcomeCode) (s : State) : (s.countOutcome o).bank0 = s.bank0 := by
  cases o with
  | none => rfl
  | some o => cases o <;> simp [State.countOutcome]
@[simp] theorem countOutcome_bank1 (o : Option OutcomeCode) (s : State) : (s.countOutcome o).bank1 = s.bank1 := by
  cases o with
  | none => rfl
  | some o => cases o <;> simp [State.countOutcome]
@[simp] theorem countOutcome_activeBank (o : Option OutcomeCode) (s : State) : (s.countOutcome o).activeBank = s.activeBank := by
  cases o with
  | none => rfl
  | some o => cases o <;> simp [State.countOutcome]
@[simp] theorem countOutcome_epoch (o : Option OutcomeCode) (s : State) : (s.countOutcome o).epoch = s.epoch := by
  cases o with
  | none => rfl
  | some o => cases o <;> simp [State.countOutcome]
@[simp] theorem countOutcome_commit (o : Option OutcomeCode) (s : State) : (s.countOutcome o).commit = s.commit := by
  cases o with
  | none => rfl
  | some o => cases o <;> simp [State.countOutcome]
@[simp] theorem countOutcome_scan (o : Option OutcomeCode) (s : State) : (s.countOutcome o).scan = s.scan := by
  cases o with
  | none => rfl
  | some o => cases o <;> simp [State.countOutcome]
@[simp] theorem countOutcome_params (o : Option OutcomeCode) (s : State) : (s.countOutcome o).params = s.params := by
  cases o with
  | none => rfl
  | some o => cases o <;> simp [State.countOutcome]
@[simp] theorem countOutcome_faults (o : Option OutcomeCode) (s : State) : (s.countOutcome o).faults = s.faults := by
  cases o with
  | none => rfl
  | some o => cases o <;> simp [State.countOutcome]
@[simp] theorem countOutcome_timer (o : Option OutcomeCode) (s : State) : (s.countOutcome o).timer = s.timer := by
  cases o with
  | none => rfl
  | some o => cases o <;> simp [State.countOutcome]
@[simp] theorem countOutcome_pending (o : Option OutcomeCode) (s : State) : (s.countOutcome o).pending = s.pending := by
  cases o with
  | none => rfl
  | some o => cases o <;> simp [State.countOutcome]

@[simp] theorem complete_inReset (x : Exchange) (o : Option OutcomeCode) (d : List Byte) (s : State) : (s.complete x o d).inReset = s.inReset := by simp [State.complete]
@[simp] theorem complete_portU (x : Exchange) (o : Option OutcomeCode) (d : List Byte) (s : State) : (s.complete x o d).portU = s.portU := by simp [State.complete]
@[simp] theorem complete_portD (x : Exchange) (o : Option OutcomeCode) (d : List Byte) (s : State) : (s.complete x o d).portD = s.portD := by simp [State.complete]
@[simp] theorem complete_position (x : Exchange) (o : Option OutcomeCode) (d : List Byte) (s : State) : (s.complete x o d).position = s.position := by simp [State.complete]
@[simp] theorem complete_chainEnd (x : Exchange) (o : Option OutcomeCode) (d : List Byte) (s : State) : (s.complete x o d).chainEnd = s.chainEnd := by simp [State.complete]
@[simp] theorem complete_otq (x : Exchange) (o : Option OutcomeCode) (d : List Byte) (s : State) : (s.complete x o d).otq = s.otq := by simp [State.complete]
@[simp] theorem complete_htq (x : Exchange) (o : Option OutcomeCode) (d : List Byte) (s : State) : (s.complete x o d).htq = s.htq := by simp [State.complete]
@[simp] theorem complete_inbox (x : Exchange) (o : Option OutcomeCode) (d : List Byte) (s : State) : (s.complete x o d).inbox = s.inbox := by simp [State.complete]
@[simp] theorem complete_uTx (x : Exchange) (o : Option OutcomeCode) (d : List Byte) (s : State) : (s.complete x o d).uTx = s.uTx := by simp [State.complete]
@[simp] theorem complete_dTx (x : Exchange) (o : Option OutcomeCode) (d : List Byte) (s : State) : (s.complete x o d).dTx = s.dTx := by simp [State.complete]
@[simp] theorem complete_streak (x : Exchange) (o : Option OutcomeCode) (d : List Byte) (s : State) : (s.complete x o d).streak = s.streak := by simp [State.complete]
@[simp] theorem complete_queue (x : Exchange) (o : Option OutcomeCode) (d : List Byte) (s : State) : (s.complete x o d).queue = s.queue := by simp [State.complete]
@[simp] theorem complete_bank0 (x : Exchange) (o : Option OutcomeCode) (d : List Byte) (s : State) : (s.complete x o d).bank0 = s.bank0 := by simp [State.complete]
@[simp] theorem complete_bank1 (x : Exchange) (o : Option OutcomeCode) (d : List Byte) (s : State) : (s.complete x o d).bank1 = s.bank1 := by simp [State.complete]
@[simp] theorem complete_activeBank (x : Exchange) (o : Option OutcomeCode) (d : List Byte) (s : State) : (s.complete x o d).activeBank = s.activeBank := by simp [State.complete]
@[simp] theorem complete_epoch (x : Exchange) (o : Option OutcomeCode) (d : List Byte) (s : State) : (s.complete x o d).epoch = s.epoch := by simp [State.complete]
@[simp] theorem complete_commit (x : Exchange) (o : Option OutcomeCode) (d : List Byte) (s : State) : (s.complete x o d).commit = s.commit := by simp [State.complete]
@[simp] theorem complete_params (x : Exchange) (o : Option OutcomeCode) (d : List Byte) (s : State) : (s.complete x o d).params = s.params := by simp [State.complete]
@[simp] theorem complete_faults (x : Exchange) (o : Option OutcomeCode) (d : List Byte) (s : State) : (s.complete x o d).faults = s.faults := by simp [State.complete]
@[simp] theorem complete_timer (x : Exchange) (o : Option OutcomeCode) (d : List Byte) (s : State) : (s.complete x o d).timer = s.timer := by simp [State.complete]
@[simp] theorem complete_pending (x : Exchange) (o : Option OutcomeCode) (d : List Byte) (s : State) : (s.complete x o d).pending = s.pending := by simp [State.complete]

@[simp] theorem recordAttempt_inReset (x : Exchange) (o : OutcomeCode) (d : List Byte) (s : State) : (s.recordAttempt x o d).inReset = s.inReset := by simp only [State.recordAttempt]; (repeat' split) <;> simp
@[simp] theorem recordAttempt_portU (x : Exchange) (o : OutcomeCode) (d : List Byte) (s : State) : (s.recordAttempt x o d).portU = s.portU := by simp only [State.recordAttempt]; (repeat' split) <;> simp
@[simp] theorem recordAttempt_portD (x : Exchange) (o : OutcomeCode) (d : List Byte) (s : State) : (s.recordAttempt x o d).portD = s.portD := by simp only [State.recordAttempt]; (repeat' split) <;> simp
@[simp] theorem recordAttempt_position (x : Exchange) (o : OutcomeCode) (d : List Byte) (s : State) : (s.recordAttempt x o d).position = s.position := by simp only [State.recordAttempt]; (repeat' split) <;> simp
@[simp] theorem recordAttempt_chainEnd (x : Exchange) (o : OutcomeCode) (d : List Byte) (s : State) : (s.recordAttempt x o d).chainEnd = s.chainEnd := by simp only [State.recordAttempt]; (repeat' split) <;> simp
@[simp] theorem recordAttempt_otq (x : Exchange) (o : OutcomeCode) (d : List Byte) (s : State) : (s.recordAttempt x o d).otq = s.otq := by simp only [State.recordAttempt]; (repeat' split) <;> simp
@[simp] theorem recordAttempt_htq (x : Exchange) (o : OutcomeCode) (d : List Byte) (s : State) : (s.recordAttempt x o d).htq = s.htq := by simp only [State.recordAttempt]; (repeat' split) <;> simp
@[simp] theorem recordAttempt_inbox (x : Exchange) (o : OutcomeCode) (d : List Byte) (s : State) : (s.recordAttempt x o d).inbox = s.inbox := by simp only [State.recordAttempt]; (repeat' split) <;> simp
@[simp] theorem recordAttempt_uTx (x : Exchange) (o : OutcomeCode) (d : List Byte) (s : State) : (s.recordAttempt x o d).uTx = s.uTx := by simp only [State.recordAttempt]; (repeat' split) <;> simp
@[simp] theorem recordAttempt_dTx (x : Exchange) (o : OutcomeCode) (d : List Byte) (s : State) : (s.recordAttempt x o d).dTx = s.dTx := by simp only [State.recordAttempt]; (repeat' split) <;> simp
@[simp] theorem recordAttempt_streak (x : Exchange) (o : OutcomeCode) (d : List Byte) (s : State) : (s.recordAttempt x o d).streak = s.streak := by simp only [State.recordAttempt]; (repeat' split) <;> simp
@[simp] theorem recordAttempt_queue (x : Exchange) (o : OutcomeCode) (d : List Byte) (s : State) : (s.recordAttempt x o d).queue = s.queue := by simp only [State.recordAttempt]; (repeat' split) <;> simp
@[simp] theorem recordAttempt_bank0 (x : Exchange) (o : OutcomeCode) (d : List Byte) (s : State) : (s.recordAttempt x o d).bank0 = s.bank0 := by simp only [State.recordAttempt]; (repeat' split) <;> simp
@[simp] theorem recordAttempt_bank1 (x : Exchange) (o : OutcomeCode) (d : List Byte) (s : State) : (s.recordAttempt x o d).bank1 = s.bank1 := by simp only [State.recordAttempt]; (repeat' split) <;> simp
@[simp] theorem recordAttempt_activeBank (x : Exchange) (o : OutcomeCode) (d : List Byte) (s : State) : (s.recordAttempt x o d).activeBank = s.activeBank := by simp only [State.recordAttempt]; (repeat' split) <;> simp
@[simp] theorem recordAttempt_epoch (x : Exchange) (o : OutcomeCode) (d : List Byte) (s : State) : (s.recordAttempt x o d).epoch = s.epoch := by simp only [State.recordAttempt]; (repeat' split) <;> simp
@[simp] theorem recordAttempt_commit (x : Exchange) (o : OutcomeCode) (d : List Byte) (s : State) : (s.recordAttempt x o d).commit = s.commit := by simp only [State.recordAttempt]; (repeat' split) <;> simp
@[simp] theorem recordAttempt_params (x : Exchange) (o : OutcomeCode) (d : List Byte) (s : State) : (s.recordAttempt x o d).params = s.params := by simp only [State.recordAttempt]; (repeat' split) <;> simp
@[simp] theorem recordAttempt_faults (x : Exchange) (o : OutcomeCode) (d : List Byte) (s : State) : (s.recordAttempt x o d).faults = s.faults := by simp only [State.recordAttempt]; (repeat' split) <;> simp
@[simp] theorem recordAttempt_timer (x : Exchange) (o : OutcomeCode) (d : List Byte) (s : State) : (s.recordAttempt x o d).timer = s.timer := by simp only [State.recordAttempt]; (repeat' split) <;> simp
@[simp] theorem recordAttempt_pending (x : Exchange) (o : OutcomeCode) (d : List Byte) (s : State) : (s.recordAttempt x o d).pending = s.pending := by simp only [State.recordAttempt]; (repeat' split) <;> simp

@[simp] theorem endAttempt_inReset (x : Exchange) (o : OutcomeCode) (d : List Byte) (s : State) : (s.endAttempt x o d).inReset = s.inReset := by simp [State.endAttempt]
@[simp] theorem endAttempt_portU (x : Exchange) (o : OutcomeCode) (d : List Byte) (s : State) : (s.endAttempt x o d).portU = s.portU := by simp [State.endAttempt]
@[simp] theorem endAttempt_portD (x : Exchange) (o : OutcomeCode) (d : List Byte) (s : State) : (s.endAttempt x o d).portD = s.portD := by simp [State.endAttempt]
@[simp] theorem endAttempt_position (x : Exchange) (o : OutcomeCode) (d : List Byte) (s : State) : (s.endAttempt x o d).position = s.position := by simp [State.endAttempt]
@[simp] theorem endAttempt_chainEnd (x : Exchange) (o : OutcomeCode) (d : List Byte) (s : State) : (s.endAttempt x o d).chainEnd = s.chainEnd := by simp [State.endAttempt]
@[simp] theorem endAttempt_otq (x : Exchange) (o : OutcomeCode) (d : List Byte) (s : State) : (s.endAttempt x o d).otq = s.otq := by simp [State.endAttempt]
@[simp] theorem endAttempt_htq (x : Exchange) (o : OutcomeCode) (d : List Byte) (s : State) : (s.endAttempt x o d).htq = s.htq := by simp [State.endAttempt]
@[simp] theorem endAttempt_inbox (x : Exchange) (o : OutcomeCode) (d : List Byte) (s : State) : (s.endAttempt x o d).inbox = s.inbox := by simp [State.endAttempt]
@[simp] theorem endAttempt_uTx (x : Exchange) (o : OutcomeCode) (d : List Byte) (s : State) : (s.endAttempt x o d).uTx = s.uTx := by simp [State.endAttempt]
@[simp] theorem endAttempt_dTx (x : Exchange) (o : OutcomeCode) (d : List Byte) (s : State) : (s.endAttempt x o d).dTx = s.dTx := by simp [State.endAttempt]
@[simp] theorem endAttempt_streak (x : Exchange) (o : OutcomeCode) (d : List Byte) (s : State) : (s.endAttempt x o d).streak = s.streak := by simp [State.endAttempt]
@[simp] theorem endAttempt_queue (x : Exchange) (o : OutcomeCode) (d : List Byte) (s : State) : (s.endAttempt x o d).queue = s.queue := by simp [State.endAttempt]
@[simp] theorem endAttempt_bank0 (x : Exchange) (o : OutcomeCode) (d : List Byte) (s : State) : (s.endAttempt x o d).bank0 = s.bank0 := by simp [State.endAttempt]
@[simp] theorem endAttempt_bank1 (x : Exchange) (o : OutcomeCode) (d : List Byte) (s : State) : (s.endAttempt x o d).bank1 = s.bank1 := by simp [State.endAttempt]
@[simp] theorem endAttempt_activeBank (x : Exchange) (o : OutcomeCode) (d : List Byte) (s : State) : (s.endAttempt x o d).activeBank = s.activeBank := by simp [State.endAttempt]
@[simp] theorem endAttempt_epoch (x : Exchange) (o : OutcomeCode) (d : List Byte) (s : State) : (s.endAttempt x o d).epoch = s.epoch := by simp [State.endAttempt]
@[simp] theorem endAttempt_commit (x : Exchange) (o : OutcomeCode) (d : List Byte) (s : State) : (s.endAttempt x o d).commit = s.commit := by simp [State.endAttempt]
@[simp] theorem endAttempt_params (x : Exchange) (o : OutcomeCode) (d : List Byte) (s : State) : (s.endAttempt x o d).params = s.params := by simp [State.endAttempt]
@[simp] theorem endAttempt_faults (x : Exchange) (o : OutcomeCode) (d : List Byte) (s : State) : (s.endAttempt x o d).faults = s.faults := by simp [State.endAttempt]
@[simp] theorem endAttempt_timer (x : Exchange) (o : OutcomeCode) (d : List Byte) (s : State) : (s.endAttempt x o d).timer = s.timer := by simp [State.endAttempt]
@[simp] theorem endAttempt_pending (x : Exchange) (o : OutcomeCode) (d : List Byte) (s : State) : (s.endAttempt x o d).pending = s.pending := by simp [State.endAttempt]

@[simp] theorem endResponse_inReset (x : Exchange) (s : State) : (s.endResponse x).inReset = s.inReset := by simp [State.endResponse]
@[simp] theorem endResponse_portU (x : Exchange) (s : State) : (s.endResponse x).portU = s.portU := by simp [State.endResponse]
@[simp] theorem endResponse_portD (x : Exchange) (s : State) : (s.endResponse x).portD = s.portD := by simp [State.endResponse]
@[simp] theorem endResponse_position (x : Exchange) (s : State) : (s.endResponse x).position = s.position := by simp [State.endResponse]
@[simp] theorem endResponse_chainEnd (x : Exchange) (s : State) : (s.endResponse x).chainEnd = s.chainEnd := by simp [State.endResponse]
@[simp] theorem endResponse_otq (x : Exchange) (s : State) : (s.endResponse x).otq = s.otq := by simp [State.endResponse]
@[simp] theorem endResponse_htq (x : Exchange) (s : State) : (s.endResponse x).htq = s.htq := by simp [State.endResponse]
@[simp] theorem endResponse_inbox (x : Exchange) (s : State) : (s.endResponse x).inbox = s.inbox := by simp [State.endResponse]
@[simp] theorem endResponse_uTx (x : Exchange) (s : State) : (s.endResponse x).uTx = s.uTx := by simp [State.endResponse]
@[simp] theorem endResponse_dTx (x : Exchange) (s : State) : (s.endResponse x).dTx = s.dTx := by simp [State.endResponse]
@[simp] theorem endResponse_streak (x : Exchange) (s : State) : (s.endResponse x).streak = s.streak := by simp [State.endResponse]
@[simp] theorem endResponse_queue (x : Exchange) (s : State) : (s.endResponse x).queue = s.queue := by simp [State.endResponse]
@[simp] theorem endResponse_bank0 (x : Exchange) (s : State) : (s.endResponse x).bank0 = s.bank0 := by simp [State.endResponse]
@[simp] theorem endResponse_bank1 (x : Exchange) (s : State) : (s.endResponse x).bank1 = s.bank1 := by simp [State.endResponse]
@[simp] theorem endResponse_activeBank (x : Exchange) (s : State) : (s.endResponse x).activeBank = s.activeBank := by simp [State.endResponse]
@[simp] theorem endResponse_epoch (x : Exchange) (s : State) : (s.endResponse x).epoch = s.epoch := by simp [State.endResponse]
@[simp] theorem endResponse_commit (x : Exchange) (s : State) : (s.endResponse x).commit = s.commit := by simp [State.endResponse]
@[simp] theorem endResponse_params (x : Exchange) (s : State) : (s.endResponse x).params = s.params := by simp [State.endResponse]
@[simp] theorem endResponse_faults (x : Exchange) (s : State) : (s.endResponse x).faults = s.faults := by simp [State.endResponse]
@[simp] theorem endResponse_timer (x : Exchange) (s : State) : (s.endResponse x).timer = s.timer := by simp [State.endResponse]
@[simp] theorem endResponse_pending (x : Exchange) (s : State) : (s.endResponse x).pending = s.pending := by simp [State.endResponse]

@[simp] theorem receiveChar_inReset (k : DropChar) (s : State) : (s.receiveChar k).inReset = s.inReset := by simp only [State.receiveChar]; (repeat' split) <;> simp
@[simp] theorem receiveChar_portU (k : DropChar) (s : State) : (s.receiveChar k).portU = s.portU := by simp only [State.receiveChar]; (repeat' split) <;> simp
@[simp] theorem receiveChar_portD (k : DropChar) (s : State) : (s.receiveChar k).portD = s.portD := by simp only [State.receiveChar]; (repeat' split) <;> simp
@[simp] theorem receiveChar_position (k : DropChar) (s : State) : (s.receiveChar k).position = s.position := by simp only [State.receiveChar]; (repeat' split) <;> simp
@[simp] theorem receiveChar_chainEnd (k : DropChar) (s : State) : (s.receiveChar k).chainEnd = s.chainEnd := by simp only [State.receiveChar]; (repeat' split) <;> simp
@[simp] theorem receiveChar_otq (k : DropChar) (s : State) : (s.receiveChar k).otq = s.otq := by simp only [State.receiveChar]; (repeat' split) <;> simp
@[simp] theorem receiveChar_htq (k : DropChar) (s : State) : (s.receiveChar k).htq = s.htq := by simp only [State.receiveChar]; (repeat' split) <;> simp
@[simp] theorem receiveChar_inbox (k : DropChar) (s : State) : (s.receiveChar k).inbox = s.inbox := by simp only [State.receiveChar]; (repeat' split) <;> simp
@[simp] theorem receiveChar_uTx (k : DropChar) (s : State) : (s.receiveChar k).uTx = s.uTx := by simp only [State.receiveChar]; (repeat' split) <;> simp
@[simp] theorem receiveChar_dTx (k : DropChar) (s : State) : (s.receiveChar k).dTx = s.dTx := by simp only [State.receiveChar]; (repeat' split) <;> simp
@[simp] theorem receiveChar_streak (k : DropChar) (s : State) : (s.receiveChar k).streak = s.streak := by simp only [State.receiveChar]; (repeat' split) <;> simp
@[simp] theorem receiveChar_queue (k : DropChar) (s : State) : (s.receiveChar k).queue = s.queue := by simp only [State.receiveChar]; (repeat' split) <;> simp
@[simp] theorem receiveChar_bank0 (k : DropChar) (s : State) : (s.receiveChar k).bank0 = s.bank0 := by simp only [State.receiveChar]; (repeat' split) <;> simp
@[simp] theorem receiveChar_bank1 (k : DropChar) (s : State) : (s.receiveChar k).bank1 = s.bank1 := by simp only [State.receiveChar]; (repeat' split) <;> simp
@[simp] theorem receiveChar_activeBank (k : DropChar) (s : State) : (s.receiveChar k).activeBank = s.activeBank := by simp only [State.receiveChar]; (repeat' split) <;> simp
@[simp] theorem receiveChar_epoch (k : DropChar) (s : State) : (s.receiveChar k).epoch = s.epoch := by simp only [State.receiveChar]; (repeat' split) <;> simp
@[simp] theorem receiveChar_commit (k : DropChar) (s : State) : (s.receiveChar k).commit = s.commit := by simp only [State.receiveChar]; (repeat' split) <;> simp
@[simp] theorem receiveChar_params (k : DropChar) (s : State) : (s.receiveChar k).params = s.params := by simp only [State.receiveChar]; (repeat' split) <;> simp
@[simp] theorem receiveChar_timer (k : DropChar) (s : State) : (s.receiveChar k).timer = s.timer := by simp only [State.receiveChar]; (repeat' split) <;> simp
@[simp] theorem receiveChar_pending (k : DropChar) (s : State) : (s.receiveChar k).pending = s.pending := by simp only [State.receiveChar]; (repeat' split) <;> simp

@[simp] theorem continueExchange_inReset (x : Exchange) (s : State) : (s.continueExchange x).inReset = s.inReset := by simp only [State.continueExchange]; (repeat' split) <;> simp
@[simp] theorem continueExchange_portU (x : Exchange) (s : State) : (s.continueExchange x).portU = s.portU := by simp only [State.continueExchange]; (repeat' split) <;> simp
@[simp] theorem continueExchange_portD (x : Exchange) (s : State) : (s.continueExchange x).portD = s.portD := by simp only [State.continueExchange]; (repeat' split) <;> simp
@[simp] theorem continueExchange_position (x : Exchange) (s : State) : (s.continueExchange x).position = s.position := by simp only [State.continueExchange]; (repeat' split) <;> simp
@[simp] theorem continueExchange_chainEnd (x : Exchange) (s : State) : (s.continueExchange x).chainEnd = s.chainEnd := by simp only [State.continueExchange]; (repeat' split) <;> simp
@[simp] theorem continueExchange_otq (x : Exchange) (s : State) : (s.continueExchange x).otq = s.otq := by simp only [State.continueExchange]; (repeat' split) <;> simp
@[simp] theorem continueExchange_htq (x : Exchange) (s : State) : (s.continueExchange x).htq = s.htq := by simp only [State.continueExchange]; (repeat' split) <;> simp
@[simp] theorem continueExchange_inbox (x : Exchange) (s : State) : (s.continueExchange x).inbox = s.inbox := by simp only [State.continueExchange]; (repeat' split) <;> simp
@[simp] theorem continueExchange_uTx (x : Exchange) (s : State) : (s.continueExchange x).uTx = s.uTx := by simp only [State.continueExchange]; (repeat' split) <;> simp
@[simp] theorem continueExchange_dTx (x : Exchange) (s : State) : (s.continueExchange x).dTx = s.dTx := by simp only [State.continueExchange]; (repeat' split) <;> simp
@[simp] theorem continueExchange_streak (x : Exchange) (s : State) : (s.continueExchange x).streak = s.streak := by simp only [State.continueExchange]; (repeat' split) <;> simp
@[simp] theorem continueExchange_loq (x : Exchange) (s : State) : (s.continueExchange x).loq = s.loq := by simp only [State.continueExchange]; (repeat' split) <;> simp
@[simp] theorem continueExchange_notice (x : Exchange) (s : State) : (s.continueExchange x).notice = s.notice := by simp only [State.continueExchange]; (repeat' split) <;> simp
@[simp] theorem continueExchange_queue (x : Exchange) (s : State) : (s.continueExchange x).queue = s.queue := by simp only [State.continueExchange]; (repeat' split) <;> simp
@[simp] theorem continueExchange_nodes (x : Exchange) (s : State) : (s.continueExchange x).nodes = s.nodes := by simp only [State.continueExchange]; (repeat' split) <;> simp
@[simp] theorem continueExchange_bank0 (x : Exchange) (s : State) : (s.continueExchange x).bank0 = s.bank0 := by simp only [State.continueExchange]; (repeat' split) <;> simp
@[simp] theorem continueExchange_bank1 (x : Exchange) (s : State) : (s.continueExchange x).bank1 = s.bank1 := by simp only [State.continueExchange]; (repeat' split) <;> simp
@[simp] theorem continueExchange_activeBank (x : Exchange) (s : State) : (s.continueExchange x).activeBank = s.activeBank := by simp only [State.continueExchange]; (repeat' split) <;> simp
@[simp] theorem continueExchange_epoch (x : Exchange) (s : State) : (s.continueExchange x).epoch = s.epoch := by simp only [State.continueExchange]; (repeat' split) <;> simp
@[simp] theorem continueExchange_commit (x : Exchange) (s : State) : (s.continueExchange x).commit = s.commit := by simp only [State.continueExchange]; (repeat' split) <;> simp
@[simp] theorem continueExchange_scan (x : Exchange) (s : State) : (s.continueExchange x).scan = s.scan := by simp only [State.continueExchange]; (repeat' split) <;> simp
@[simp] theorem continueExchange_params (x : Exchange) (s : State) : (s.continueExchange x).params = s.params := by simp only [State.continueExchange]; (repeat' split) <;> simp
@[simp] theorem continueExchange_faults (x : Exchange) (s : State) : (s.continueExchange x).faults = s.faults := by simp only [State.continueExchange]; (repeat' split) <;> simp
@[simp] theorem continueExchange_timer (x : Exchange) (s : State) : (s.continueExchange x).timer = s.timer := by simp only [State.continueExchange]; (repeat' split) <;> simp
@[simp] theorem continueExchange_pending (x : Exchange) (s : State) : (s.continueExchange x).pending = s.pending := by simp only [State.continueExchange]; (repeat' split) <;> simp

@[simp] theorem endGuard_inReset (s : State) : (s.endGuard).inReset = s.inReset := by simp only [State.endGuard]; (repeat' split) <;> simp
@[simp] theorem endGuard_portU (s : State) : (s.endGuard).portU = s.portU := by simp only [State.endGuard]; (repeat' split) <;> simp
@[simp] theorem endGuard_portD (s : State) : (s.endGuard).portD = s.portD := by simp only [State.endGuard]; (repeat' split) <;> simp
@[simp] theorem endGuard_position (s : State) : (s.endGuard).position = s.position := by simp only [State.endGuard]; (repeat' split) <;> simp
@[simp] theorem endGuard_chainEnd (s : State) : (s.endGuard).chainEnd = s.chainEnd := by simp only [State.endGuard]; (repeat' split) <;> simp
@[simp] theorem endGuard_otq (s : State) : (s.endGuard).otq = s.otq := by simp only [State.endGuard]; (repeat' split) <;> simp
@[simp] theorem endGuard_htq (s : State) : (s.endGuard).htq = s.htq := by simp only [State.endGuard]; (repeat' split) <;> simp
@[simp] theorem endGuard_inbox (s : State) : (s.endGuard).inbox = s.inbox := by simp only [State.endGuard]; (repeat' split) <;> simp
@[simp] theorem endGuard_uTx (s : State) : (s.endGuard).uTx = s.uTx := by simp only [State.endGuard]; (repeat' split) <;> simp
@[simp] theorem endGuard_dTx (s : State) : (s.endGuard).dTx = s.dTx := by simp only [State.endGuard]; (repeat' split) <;> simp
@[simp] theorem endGuard_streak (s : State) : (s.endGuard).streak = s.streak := by simp only [State.endGuard]; (repeat' split) <;> simp
@[simp] theorem endGuard_queue (s : State) : (s.endGuard).queue = s.queue := by simp only [State.endGuard]; (repeat' split) <;> simp
@[simp] theorem endGuard_bank0 (s : State) : (s.endGuard).bank0 = s.bank0 := by simp only [State.endGuard]; (repeat' split) <;> simp
@[simp] theorem endGuard_bank1 (s : State) : (s.endGuard).bank1 = s.bank1 := by simp only [State.endGuard]; (repeat' split) <;> simp
@[simp] theorem endGuard_activeBank (s : State) : (s.endGuard).activeBank = s.activeBank := by simp only [State.endGuard]; (repeat' split) <;> simp
@[simp] theorem endGuard_epoch (s : State) : (s.endGuard).epoch = s.epoch := by simp only [State.endGuard]; (repeat' split) <;> simp
@[simp] theorem endGuard_commit (s : State) : (s.endGuard).commit = s.commit := by simp only [State.endGuard]; (repeat' split) <;> simp
@[simp] theorem endGuard_params (s : State) : (s.endGuard).params = s.params := by simp only [State.endGuard]; (repeat' split) <;> simp
@[simp] theorem endGuard_faults (s : State) : (s.endGuard).faults = s.faults := by simp only [State.endGuard]; (repeat' split) <;> simp
@[simp] theorem endGuard_timer (s : State) : (s.endGuard).timer = s.timer := by simp only [State.endGuard]; (repeat' split) <;> simp
@[simp] theorem endGuard_pending (s : State) : (s.endGuard).pending = s.pending := by simp only [State.endGuard]; (repeat' split) <;> simp


/-! ### Management.lean -/

@[simp] theorem cancelOne_inReset (r : ExRecord) (s : State) : (s.cancelOne r).inReset = s.inReset := by cases r <;> simp [State.cancelOne]
@[simp] theorem cancelOne_portU (r : ExRecord) (s : State) : (s.cancelOne r).portU = s.portU := by cases r <;> simp [State.cancelOne]
@[simp] theorem cancelOne_portD (r : ExRecord) (s : State) : (s.cancelOne r).portD = s.portD := by cases r <;> simp [State.cancelOne]
@[simp] theorem cancelOne_position (r : ExRecord) (s : State) : (s.cancelOne r).position = s.position := by cases r <;> simp [State.cancelOne]
@[simp] theorem cancelOne_chainEnd (r : ExRecord) (s : State) : (s.cancelOne r).chainEnd = s.chainEnd := by cases r <;> simp [State.cancelOne]
@[simp] theorem cancelOne_otq (r : ExRecord) (s : State) : (s.cancelOne r).otq = s.otq := by cases r <;> simp [State.cancelOne]
@[simp] theorem cancelOne_htq (r : ExRecord) (s : State) : (s.cancelOne r).htq = s.htq := by cases r <;> simp [State.cancelOne]
@[simp] theorem cancelOne_inbox (r : ExRecord) (s : State) : (s.cancelOne r).inbox = s.inbox := by cases r <;> simp [State.cancelOne]
@[simp] theorem cancelOne_uTx (r : ExRecord) (s : State) : (s.cancelOne r).uTx = s.uTx := by cases r <;> simp [State.cancelOne]
@[simp] theorem cancelOne_dTx (r : ExRecord) (s : State) : (s.cancelOne r).dTx = s.dTx := by cases r <;> simp [State.cancelOne]
@[simp] theorem cancelOne_streak (r : ExRecord) (s : State) : (s.cancelOne r).streak = s.streak := by cases r <;> simp [State.cancelOne]
@[simp] theorem cancelOne_notice (r : ExRecord) (s : State) : (s.cancelOne r).notice = s.notice := by cases r <;> simp [State.cancelOne]
@[simp] theorem cancelOne_queue (r : ExRecord) (s : State) : (s.cancelOne r).queue = s.queue := by cases r <;> simp [State.cancelOne]
@[simp] theorem cancelOne_dlc (r : ExRecord) (s : State) : (s.cancelOne r).dlc = s.dlc := by cases r <;> simp [State.cancelOne]
@[simp] theorem cancelOne_nodes (r : ExRecord) (s : State) : (s.cancelOne r).nodes = s.nodes := by cases r <;> simp [State.cancelOne]
@[simp] theorem cancelOne_bank0 (r : ExRecord) (s : State) : (s.cancelOne r).bank0 = s.bank0 := by cases r <;> simp [State.cancelOne]
@[simp] theorem cancelOne_bank1 (r : ExRecord) (s : State) : (s.cancelOne r).bank1 = s.bank1 := by cases r <;> simp [State.cancelOne]
@[simp] theorem cancelOne_activeBank (r : ExRecord) (s : State) : (s.cancelOne r).activeBank = s.activeBank := by cases r <;> simp [State.cancelOne]
@[simp] theorem cancelOne_epoch (r : ExRecord) (s : State) : (s.cancelOne r).epoch = s.epoch := by cases r <;> simp [State.cancelOne]
@[simp] theorem cancelOne_commit (r : ExRecord) (s : State) : (s.cancelOne r).commit = s.commit := by cases r <;> simp [State.cancelOne]
@[simp] theorem cancelOne_scan (r : ExRecord) (s : State) : (s.cancelOne r).scan = s.scan := by cases r <;> simp [State.cancelOne]
@[simp] theorem cancelOne_params (r : ExRecord) (s : State) : (s.cancelOne r).params = s.params := by cases r <;> simp [State.cancelOne]
@[simp] theorem cancelOne_faults (r : ExRecord) (s : State) : (s.cancelOne r).faults = s.faults := by cases r <;> simp [State.cancelOne]
@[simp] theorem cancelOne_counters (r : ExRecord) (s : State) : (s.cancelOne r).counters = s.counters := by cases r <;> simp [State.cancelOne]
@[simp] theorem cancelOne_timer (r : ExRecord) (s : State) : (s.cancelOne r).timer = s.timer := by cases r <;> simp [State.cancelOne]
@[simp] theorem cancelOne_pending (r : ExRecord) (s : State) : (s.cancelOne r).pending = s.pending := by cases r <;> simp [State.cancelOne]

@[simp] theorem writeOwnParam_inReset (i : Nat) (v : Nat) (s : State) : (s.writeOwnParam i v).inReset = s.inReset := by simp only [State.writeOwnParam]; (repeat' split) <;> simp
@[simp] theorem writeOwnParam_portU (i : Nat) (v : Nat) (s : State) : (s.writeOwnParam i v).portU = s.portU := by simp only [State.writeOwnParam]; (repeat' split) <;> simp
@[simp] theorem writeOwnParam_portD (i : Nat) (v : Nat) (s : State) : (s.writeOwnParam i v).portD = s.portD := by simp only [State.writeOwnParam]; (repeat' split) <;> simp
@[simp] theorem writeOwnParam_position (i : Nat) (v : Nat) (s : State) : (s.writeOwnParam i v).position = s.position := by simp only [State.writeOwnParam]; (repeat' split) <;> simp
@[simp] theorem writeOwnParam_chainEnd (i : Nat) (v : Nat) (s : State) : (s.writeOwnParam i v).chainEnd = s.chainEnd := by simp only [State.writeOwnParam]; (repeat' split) <;> simp
@[simp] theorem writeOwnParam_otq (i : Nat) (v : Nat) (s : State) : (s.writeOwnParam i v).otq = s.otq := by simp only [State.writeOwnParam]; (repeat' split) <;> simp
@[simp] theorem writeOwnParam_htq (i : Nat) (v : Nat) (s : State) : (s.writeOwnParam i v).htq = s.htq := by simp only [State.writeOwnParam]; (repeat' split) <;> simp
@[simp] theorem writeOwnParam_inbox (i : Nat) (v : Nat) (s : State) : (s.writeOwnParam i v).inbox = s.inbox := by simp only [State.writeOwnParam]; (repeat' split) <;> simp
@[simp] theorem writeOwnParam_uTx (i : Nat) (v : Nat) (s : State) : (s.writeOwnParam i v).uTx = s.uTx := by simp only [State.writeOwnParam]; (repeat' split) <;> simp
@[simp] theorem writeOwnParam_dTx (i : Nat) (v : Nat) (s : State) : (s.writeOwnParam i v).dTx = s.dTx := by simp only [State.writeOwnParam]; (repeat' split) <;> simp
@[simp] theorem writeOwnParam_streak (i : Nat) (v : Nat) (s : State) : (s.writeOwnParam i v).streak = s.streak := by simp only [State.writeOwnParam]; (repeat' split) <;> simp
@[simp] theorem writeOwnParam_notice (i : Nat) (v : Nat) (s : State) : (s.writeOwnParam i v).notice = s.notice := by simp only [State.writeOwnParam]; (repeat' split) <;> simp
@[simp] theorem writeOwnParam_dlc (i : Nat) (v : Nat) (s : State) : (s.writeOwnParam i v).dlc = s.dlc := by simp only [State.writeOwnParam]; (repeat' split) <;> simp
@[simp] theorem writeOwnParam_nodes (i : Nat) (v : Nat) (s : State) : (s.writeOwnParam i v).nodes = s.nodes := by simp only [State.writeOwnParam]; (repeat' split) <;> simp
@[simp] theorem writeOwnParam_bank0 (i : Nat) (v : Nat) (s : State) : (s.writeOwnParam i v).bank0 = s.bank0 := by simp only [State.writeOwnParam]; (repeat' split) <;> simp
@[simp] theorem writeOwnParam_bank1 (i : Nat) (v : Nat) (s : State) : (s.writeOwnParam i v).bank1 = s.bank1 := by simp only [State.writeOwnParam]; (repeat' split) <;> simp
@[simp] theorem writeOwnParam_activeBank (i : Nat) (v : Nat) (s : State) : (s.writeOwnParam i v).activeBank = s.activeBank := by simp only [State.writeOwnParam]; (repeat' split) <;> simp
@[simp] theorem writeOwnParam_epoch (i : Nat) (v : Nat) (s : State) : (s.writeOwnParam i v).epoch = s.epoch := by simp only [State.writeOwnParam]; (repeat' split) <;> simp
@[simp] theorem writeOwnParam_commit (i : Nat) (v : Nat) (s : State) : (s.writeOwnParam i v).commit = s.commit := by simp only [State.writeOwnParam]; (repeat' split) <;> simp
@[simp] theorem writeOwnParam_faults (i : Nat) (v : Nat) (s : State) : (s.writeOwnParam i v).faults = s.faults := by simp only [State.writeOwnParam]; (repeat' split) <;> simp
@[simp] theorem writeOwnParam_timer (i : Nat) (v : Nat) (s : State) : (s.writeOwnParam i v).timer = s.timer := by simp only [State.writeOwnParam]; (repeat' split) <;> simp
@[simp] theorem writeOwnParam_pending (i : Nat) (v : Nat) (s : State) : (s.writeOwnParam i v).pending = s.pending := by simp only [State.writeOwnParam]; (repeat' split) <;> simp


/-! ### Tables.lean -/

@[simp] theorem startCommit_inReset (f : Frame) (n : Nat) (s : State) : (s.startCommit f n).inReset = s.inReset := by simp only [State.startCommit]; (repeat' split) <;> simp
@[simp] theorem startCommit_portU (f : Frame) (n : Nat) (s : State) : (s.startCommit f n).portU = s.portU := by simp only [State.startCommit]; (repeat' split) <;> simp
@[simp] theorem startCommit_portD (f : Frame) (n : Nat) (s : State) : (s.startCommit f n).portD = s.portD := by simp only [State.startCommit]; (repeat' split) <;> simp
@[simp] theorem startCommit_position (f : Frame) (n : Nat) (s : State) : (s.startCommit f n).position = s.position := by simp only [State.startCommit]; (repeat' split) <;> simp
@[simp] theorem startCommit_chainEnd (f : Frame) (n : Nat) (s : State) : (s.startCommit f n).chainEnd = s.chainEnd := by simp only [State.startCommit]; (repeat' split) <;> simp
@[simp] theorem startCommit_otq (f : Frame) (n : Nat) (s : State) : (s.startCommit f n).otq = s.otq := by simp only [State.startCommit]; (repeat' split) <;> simp
@[simp] theorem startCommit_htq (f : Frame) (n : Nat) (s : State) : (s.startCommit f n).htq = s.htq := by simp only [State.startCommit]; (repeat' split) <;> simp
@[simp] theorem startCommit_inbox (f : Frame) (n : Nat) (s : State) : (s.startCommit f n).inbox = s.inbox := by simp only [State.startCommit]; (repeat' split) <;> simp
@[simp] theorem startCommit_uTx (f : Frame) (n : Nat) (s : State) : (s.startCommit f n).uTx = s.uTx := by simp only [State.startCommit]; (repeat' split) <;> simp
@[simp] theorem startCommit_dTx (f : Frame) (n : Nat) (s : State) : (s.startCommit f n).dTx = s.dTx := by simp only [State.startCommit]; (repeat' split) <;> simp
@[simp] theorem startCommit_streak (f : Frame) (n : Nat) (s : State) : (s.startCommit f n).streak = s.streak := by simp only [State.startCommit]; (repeat' split) <;> simp
@[simp] theorem startCommit_notice (f : Frame) (n : Nat) (s : State) : (s.startCommit f n).notice = s.notice := by simp only [State.startCommit]; (repeat' split) <;> simp
@[simp] theorem startCommit_queue (f : Frame) (n : Nat) (s : State) : (s.startCommit f n).queue = s.queue := by simp only [State.startCommit]; (repeat' split) <;> simp
@[simp] theorem startCommit_dlc (f : Frame) (n : Nat) (s : State) : (s.startCommit f n).dlc = s.dlc := by simp only [State.startCommit]; (repeat' split) <;> simp
@[simp] theorem startCommit_nodes (f : Frame) (n : Nat) (s : State) : (s.startCommit f n).nodes = s.nodes := by simp only [State.startCommit]; (repeat' split) <;> simp
@[simp] theorem startCommit_bank0 (f : Frame) (n : Nat) (s : State) : (s.startCommit f n).bank0 = s.bank0 := by simp only [State.startCommit]; (repeat' split) <;> simp
@[simp] theorem startCommit_bank1 (f : Frame) (n : Nat) (s : State) : (s.startCommit f n).bank1 = s.bank1 := by simp only [State.startCommit]; (repeat' split) <;> simp
@[simp] theorem startCommit_activeBank (f : Frame) (n : Nat) (s : State) : (s.startCommit f n).activeBank = s.activeBank := by simp only [State.startCommit]; (repeat' split) <;> simp
@[simp] theorem startCommit_epoch (f : Frame) (n : Nat) (s : State) : (s.startCommit f n).epoch = s.epoch := by simp only [State.startCommit]; (repeat' split) <;> simp
@[simp] theorem startCommit_scan (f : Frame) (n : Nat) (s : State) : (s.startCommit f n).scan = s.scan := by simp only [State.startCommit]; (repeat' split) <;> simp
@[simp] theorem startCommit_params (f : Frame) (n : Nat) (s : State) : (s.startCommit f n).params = s.params := by simp only [State.startCommit]; (repeat' split) <;> simp
@[simp] theorem startCommit_faults (f : Frame) (n : Nat) (s : State) : (s.startCommit f n).faults = s.faults := by simp only [State.startCommit]; (repeat' split) <;> simp
@[simp] theorem startCommit_counters (f : Frame) (n : Nat) (s : State) : (s.startCommit f n).counters = s.counters := by simp only [State.startCommit]; (repeat' split) <;> simp
@[simp] theorem startCommit_timer (f : Frame) (n : Nat) (s : State) : (s.startCommit f n).timer = s.timer := by simp only [State.startCommit]; (repeat' split) <;> simp
@[simp] theorem startCommit_pending (f : Frame) (n : Nat) (s : State) : (s.startCommit f n).pending = s.pending := by simp only [State.startCommit]; (repeat' split) <;> simp

@[simp] theorem ackCommit_inReset (k : PendingCommit) (o : AckCode) (d : List Byte) (s : State) : (s.ackCommit k o d).inReset = s.inReset := by simp [State.ackCommit]
@[simp] theorem ackCommit_portU (k : PendingCommit) (o : AckCode) (d : List Byte) (s : State) : (s.ackCommit k o d).portU = s.portU := by simp [State.ackCommit]
@[simp] theorem ackCommit_portD (k : PendingCommit) (o : AckCode) (d : List Byte) (s : State) : (s.ackCommit k o d).portD = s.portD := by simp [State.ackCommit]
@[simp] theorem ackCommit_position (k : PendingCommit) (o : AckCode) (d : List Byte) (s : State) : (s.ackCommit k o d).position = s.position := by simp [State.ackCommit]
@[simp] theorem ackCommit_chainEnd (k : PendingCommit) (o : AckCode) (d : List Byte) (s : State) : (s.ackCommit k o d).chainEnd = s.chainEnd := by simp [State.ackCommit]
@[simp] theorem ackCommit_otq (k : PendingCommit) (o : AckCode) (d : List Byte) (s : State) : (s.ackCommit k o d).otq = s.otq := by simp [State.ackCommit]
@[simp] theorem ackCommit_htq (k : PendingCommit) (o : AckCode) (d : List Byte) (s : State) : (s.ackCommit k o d).htq = s.htq := by simp [State.ackCommit]
@[simp] theorem ackCommit_inbox (k : PendingCommit) (o : AckCode) (d : List Byte) (s : State) : (s.ackCommit k o d).inbox = s.inbox := by simp [State.ackCommit]
@[simp] theorem ackCommit_uTx (k : PendingCommit) (o : AckCode) (d : List Byte) (s : State) : (s.ackCommit k o d).uTx = s.uTx := by simp [State.ackCommit]
@[simp] theorem ackCommit_dTx (k : PendingCommit) (o : AckCode) (d : List Byte) (s : State) : (s.ackCommit k o d).dTx = s.dTx := by simp [State.ackCommit]
@[simp] theorem ackCommit_streak (k : PendingCommit) (o : AckCode) (d : List Byte) (s : State) : (s.ackCommit k o d).streak = s.streak := by simp [State.ackCommit]
@[simp] theorem ackCommit_notice (k : PendingCommit) (o : AckCode) (d : List Byte) (s : State) : (s.ackCommit k o d).notice = s.notice := by simp [State.ackCommit]
@[simp] theorem ackCommit_queue (k : PendingCommit) (o : AckCode) (d : List Byte) (s : State) : (s.ackCommit k o d).queue = s.queue := by simp [State.ackCommit]
@[simp] theorem ackCommit_dlc (k : PendingCommit) (o : AckCode) (d : List Byte) (s : State) : (s.ackCommit k o d).dlc = s.dlc := by simp [State.ackCommit]
@[simp] theorem ackCommit_nodes (k : PendingCommit) (o : AckCode) (d : List Byte) (s : State) : (s.ackCommit k o d).nodes = s.nodes := by simp [State.ackCommit]
@[simp] theorem ackCommit_bank0 (k : PendingCommit) (o : AckCode) (d : List Byte) (s : State) : (s.ackCommit k o d).bank0 = s.bank0 := by simp [State.ackCommit]
@[simp] theorem ackCommit_bank1 (k : PendingCommit) (o : AckCode) (d : List Byte) (s : State) : (s.ackCommit k o d).bank1 = s.bank1 := by simp [State.ackCommit]
@[simp] theorem ackCommit_activeBank (k : PendingCommit) (o : AckCode) (d : List Byte) (s : State) : (s.ackCommit k o d).activeBank = s.activeBank := by simp [State.ackCommit]
@[simp] theorem ackCommit_epoch (k : PendingCommit) (o : AckCode) (d : List Byte) (s : State) : (s.ackCommit k o d).epoch = s.epoch := by simp [State.ackCommit]
@[simp] theorem ackCommit_commit (k : PendingCommit) (o : AckCode) (d : List Byte) (s : State) : (s.ackCommit k o d).commit = s.commit := by simp [State.ackCommit]
@[simp] theorem ackCommit_scan (k : PendingCommit) (o : AckCode) (d : List Byte) (s : State) : (s.ackCommit k o d).scan = s.scan := by simp [State.ackCommit]
@[simp] theorem ackCommit_params (k : PendingCommit) (o : AckCode) (d : List Byte) (s : State) : (s.ackCommit k o d).params = s.params := by simp [State.ackCommit]
@[simp] theorem ackCommit_faults (k : PendingCommit) (o : AckCode) (d : List Byte) (s : State) : (s.ackCommit k o d).faults = s.faults := by simp [State.ackCommit]
@[simp] theorem ackCommit_counters (k : PendingCommit) (o : AckCode) (d : List Byte) (s : State) : (s.ackCommit k o d).counters = s.counters := by simp [State.ackCommit]
@[simp] theorem ackCommit_timer (k : PendingCommit) (o : AckCode) (d : List Byte) (s : State) : (s.ackCommit k o d).timer = s.timer := by simp [State.ackCommit]
@[simp] theorem ackCommit_pending (k : PendingCommit) (o : AckCode) (d : List Byte) (s : State) : (s.ackCommit k o d).pending = s.pending := by simp [State.ackCommit]

@[simp] theorem rejectCommit_inReset (k : PendingCommit) (t : TableId) (i : Nat) (r : Reason) (s : State) : (s.rejectCommit k t i r).inReset = s.inReset := by simp [State.rejectCommit]
@[simp] theorem rejectCommit_portU (k : PendingCommit) (t : TableId) (i : Nat) (r : Reason) (s : State) : (s.rejectCommit k t i r).portU = s.portU := by simp [State.rejectCommit]
@[simp] theorem rejectCommit_portD (k : PendingCommit) (t : TableId) (i : Nat) (r : Reason) (s : State) : (s.rejectCommit k t i r).portD = s.portD := by simp [State.rejectCommit]
@[simp] theorem rejectCommit_position (k : PendingCommit) (t : TableId) (i : Nat) (r : Reason) (s : State) : (s.rejectCommit k t i r).position = s.position := by simp [State.rejectCommit]
@[simp] theorem rejectCommit_chainEnd (k : PendingCommit) (t : TableId) (i : Nat) (r : Reason) (s : State) : (s.rejectCommit k t i r).chainEnd = s.chainEnd := by simp [State.rejectCommit]
@[simp] theorem rejectCommit_otq (k : PendingCommit) (t : TableId) (i : Nat) (r : Reason) (s : State) : (s.rejectCommit k t i r).otq = s.otq := by simp [State.rejectCommit]
@[simp] theorem rejectCommit_htq (k : PendingCommit) (t : TableId) (i : Nat) (r : Reason) (s : State) : (s.rejectCommit k t i r).htq = s.htq := by simp [State.rejectCommit]
@[simp] theorem rejectCommit_inbox (k : PendingCommit) (t : TableId) (i : Nat) (r : Reason) (s : State) : (s.rejectCommit k t i r).inbox = s.inbox := by simp [State.rejectCommit]
@[simp] theorem rejectCommit_uTx (k : PendingCommit) (t : TableId) (i : Nat) (r : Reason) (s : State) : (s.rejectCommit k t i r).uTx = s.uTx := by simp [State.rejectCommit]
@[simp] theorem rejectCommit_dTx (k : PendingCommit) (t : TableId) (i : Nat) (r : Reason) (s : State) : (s.rejectCommit k t i r).dTx = s.dTx := by simp [State.rejectCommit]
@[simp] theorem rejectCommit_streak (k : PendingCommit) (t : TableId) (i : Nat) (r : Reason) (s : State) : (s.rejectCommit k t i r).streak = s.streak := by simp [State.rejectCommit]
@[simp] theorem rejectCommit_notice (k : PendingCommit) (t : TableId) (i : Nat) (r : Reason) (s : State) : (s.rejectCommit k t i r).notice = s.notice := by simp [State.rejectCommit]
@[simp] theorem rejectCommit_queue (k : PendingCommit) (t : TableId) (i : Nat) (r : Reason) (s : State) : (s.rejectCommit k t i r).queue = s.queue := by simp [State.rejectCommit]
@[simp] theorem rejectCommit_dlc (k : PendingCommit) (t : TableId) (i : Nat) (r : Reason) (s : State) : (s.rejectCommit k t i r).dlc = s.dlc := by simp [State.rejectCommit]
@[simp] theorem rejectCommit_nodes (k : PendingCommit) (t : TableId) (i : Nat) (r : Reason) (s : State) : (s.rejectCommit k t i r).nodes = s.nodes := by simp [State.rejectCommit]
@[simp] theorem rejectCommit_bank0 (k : PendingCommit) (t : TableId) (i : Nat) (r : Reason) (s : State) : (s.rejectCommit k t i r).bank0 = s.bank0 := by simp [State.rejectCommit]
@[simp] theorem rejectCommit_bank1 (k : PendingCommit) (t : TableId) (i : Nat) (r : Reason) (s : State) : (s.rejectCommit k t i r).bank1 = s.bank1 := by simp [State.rejectCommit]
@[simp] theorem rejectCommit_activeBank (k : PendingCommit) (t : TableId) (i : Nat) (r : Reason) (s : State) : (s.rejectCommit k t i r).activeBank = s.activeBank := by simp [State.rejectCommit]
@[simp] theorem rejectCommit_epoch (k : PendingCommit) (t : TableId) (i : Nat) (r : Reason) (s : State) : (s.rejectCommit k t i r).epoch = s.epoch := by simp [State.rejectCommit]
@[simp] theorem rejectCommit_scan (k : PendingCommit) (t : TableId) (i : Nat) (r : Reason) (s : State) : (s.rejectCommit k t i r).scan = s.scan := by simp [State.rejectCommit]
@[simp] theorem rejectCommit_params (k : PendingCommit) (t : TableId) (i : Nat) (r : Reason) (s : State) : (s.rejectCommit k t i r).params = s.params := by simp [State.rejectCommit]
@[simp] theorem rejectCommit_faults (k : PendingCommit) (t : TableId) (i : Nat) (r : Reason) (s : State) : (s.rejectCommit k t i r).faults = s.faults := by simp [State.rejectCommit]
@[simp] theorem rejectCommit_counters (k : PendingCommit) (t : TableId) (i : Nat) (r : Reason) (s : State) : (s.rejectCommit k t i r).counters = s.counters := by simp [State.rejectCommit]
@[simp] theorem rejectCommit_timer (k : PendingCommit) (t : TableId) (i : Nat) (r : Reason) (s : State) : (s.rejectCommit k t i r).timer = s.timer := by simp [State.rejectCommit]
@[simp] theorem rejectCommit_pending (k : PendingCommit) (t : TableId) (i : Nat) (r : Reason) (s : State) : (s.rejectCommit k t i r).pending = s.pending := by simp [State.rejectCommit]

@[simp] theorem takeSwap_inReset (k : PendingCommit) (s : State) : (s.takeSwap k).inReset = s.inReset := by simp [State.takeSwap]
@[simp] theorem takeSwap_portU (k : PendingCommit) (s : State) : (s.takeSwap k).portU = s.portU := by simp [State.takeSwap]
@[simp] theorem takeSwap_portD (k : PendingCommit) (s : State) : (s.takeSwap k).portD = s.portD := by simp [State.takeSwap]
@[simp] theorem takeSwap_position (k : PendingCommit) (s : State) : (s.takeSwap k).position = s.position := by simp [State.takeSwap]
@[simp] theorem takeSwap_chainEnd (k : PendingCommit) (s : State) : (s.takeSwap k).chainEnd = s.chainEnd := by simp [State.takeSwap]
@[simp] theorem takeSwap_otq (k : PendingCommit) (s : State) : (s.takeSwap k).otq = s.otq := by simp [State.takeSwap]
@[simp] theorem takeSwap_htq (k : PendingCommit) (s : State) : (s.takeSwap k).htq = s.htq := by simp [State.takeSwap]
@[simp] theorem takeSwap_inbox (k : PendingCommit) (s : State) : (s.takeSwap k).inbox = s.inbox := by simp [State.takeSwap]
@[simp] theorem takeSwap_uTx (k : PendingCommit) (s : State) : (s.takeSwap k).uTx = s.uTx := by simp [State.takeSwap]
@[simp] theorem takeSwap_dTx (k : PendingCommit) (s : State) : (s.takeSwap k).dTx = s.dTx := by simp [State.takeSwap]
@[simp] theorem takeSwap_streak (k : PendingCommit) (s : State) : (s.takeSwap k).streak = s.streak := by simp [State.takeSwap]
@[simp] theorem takeSwap_notice (k : PendingCommit) (s : State) : (s.takeSwap k).notice = s.notice := by simp [State.takeSwap]
@[simp] theorem takeSwap_dlc (k : PendingCommit) (s : State) : (s.takeSwap k).dlc = s.dlc := by simp [State.takeSwap]
@[simp] theorem takeSwap_nodes (k : PendingCommit) (s : State) : (s.takeSwap k).nodes = s.nodes := by simp [State.takeSwap]
@[simp] theorem takeSwap_bank0 (k : PendingCommit) (s : State) : (s.takeSwap k).bank0 = s.bank0 := by simp [State.takeSwap]
@[simp] theorem takeSwap_bank1 (k : PendingCommit) (s : State) : (s.takeSwap k).bank1 = s.bank1 := by simp [State.takeSwap]
@[simp] theorem takeSwap_params (k : PendingCommit) (s : State) : (s.takeSwap k).params = s.params := by simp [State.takeSwap]
@[simp] theorem takeSwap_faults (k : PendingCommit) (s : State) : (s.takeSwap k).faults = s.faults := by simp [State.takeSwap]
@[simp] theorem takeSwap_counters (k : PendingCommit) (s : State) : (s.takeSwap k).counters = s.counters := by simp [State.takeSwap]
@[simp] theorem takeSwap_timer (k : PendingCommit) (s : State) : (s.takeSwap k).timer = s.timer := by simp [State.takeSwap]
@[simp] theorem takeSwap_pending (k : PendingCommit) (s : State) : (s.takeSwap k).pending = s.pending := by simp [State.takeSwap]


/-! ### SoftReset.lean -/

@[simp] theorem softReset_inReset (l : ResetLevel) (s : State) : (s.softReset l).inReset = s.inReset := by cases l <;> simp [State.softReset]
@[simp] theorem softReset_portD (l : ResetLevel) (s : State) : (s.softReset l).portD = s.portD := by cases l <;> simp [State.softReset]
@[simp] theorem softReset_position (l : ResetLevel) (s : State) : (s.softReset l).position = s.position := by cases l <;> simp [State.softReset]
@[simp] theorem softReset_otq (l : ResetLevel) (s : State) : (s.softReset l).otq = s.otq := by cases l <;> simp [State.softReset]
@[simp] theorem softReset_htq (l : ResetLevel) (s : State) : (s.softReset l).htq = s.htq := by cases l <;> simp [State.softReset]
@[simp] theorem softReset_dTx (l : ResetLevel) (s : State) : (s.softReset l).dTx = s.dTx := by cases l <;> simp [State.softReset]
@[simp] theorem softReset_timer (l : ResetLevel) (s : State) : (s.softReset l).timer = s.timer := by cases l <;> simp [State.softReset]
@[simp] theorem softReset_pending (l : ResetLevel) (s : State) : (s.softReset l).pending = s.pending := by cases l <;> simp [State.softReset]

end Sys2Proof.Machine
end

