-- ==== Sys2Proof/Laws/Vectors.lean ====
section
/-! SUPPORT. The small lemmas of the fixed-length tables of Word.lean. -/

namespace Sys2Proof

theorem vget_vset_same {α : Type} {n : Nat} (v : Vector α n) (i : Nat) (a d : α) (h : i < n) :
    vget (vset v i a) i d = a := by
  simp [vget, vset, h]

theorem vget_vset_ne {α : Type} {n : Nat} (v : Vector α n) (i j : Nat) (a d : α) (h : i ≠ j) :
    vget (vset v i a) j d = vget v j d := by
  unfold vget vset
  split
  · rw [Vector.getElem_setIfInBounds]; simp [h]
  · rfl

theorem vget_vset {α : Type} {n : Nat} (v : Vector α n) (i j : Nat) (a d : α) :
    vget (vset v i a) j d = if i = j ∧ j < n then a else vget v j d := by
  by_cases h : i = j
  · subst h
    by_cases hn : i < n
    · simp [vget_vset_same, hn]
    · simp [hn, vget]
  · simp [h, vget_vset_ne]

theorem vget_outside {α : Type} {n : Nat} (v : Vector α n) (i : Nat) (d : α) (h : n ≤ i) : vget v i d = d := by
  simp [vget, Nat.not_lt.mpr h]

theorem vset_outside {α : Type} {n : Nat} (v : Vector α n) (i : Nat) (a : α) (h : n ≤ i) : vset v i a = v := by
  apply Vector.toList_inj.mp
  simp [vset, Vector.toList_setIfInBounds, List.set_eq_of_length_le, h]

@[simp] theorem vset_vset {α : Type} {n : Nat} (v : Vector α n) (i : Nat) (a b : α) :
    vset (vset v i a) i b = vset v i b := by
  apply Vector.toList_inj.mp
  simp [vset, Vector.toList_setIfInBounds]

theorem vset_toList {α : Type} {n : Nat} (v : Vector α n) (i : Nat) (a : α) :
    (vset v i a).toList = v.toList.set i a := by
  simp [vset, Vector.toList_setIfInBounds]

theorem vget_toList {α : Type} {n : Nat} (v : Vector α n) (i : Nat) (d : α) : vget v i d = v.toList.getD i d := by
  unfold vget
  split
  · next h => simp [List.getD, h]
  · next h => simp [List.getD, Nat.not_lt.mp h]

@[simp] theorem vget_replicate {α : Type} {n : Nat} (a : α) (i : Nat) : vget (Vector.replicate n a) i a = a := by
  unfold vget
  split <;> simp

theorem vset_vget {α : Type} {n : Nat} (v : Vector α n) (i : Nat) (d : α) (h : i < n) : vset v i (vget v i d) = v := by
  apply Vector.toList_inj.mp
  rw [vset_toList, vget_toList, List.getD, List.getElem?_eq_getElem (by simpa using h)]
  exact List.set_getElem_self _

@[simp] theorem vmap_toList {α β : Type} {n : Nat} (f : α → β) (v : Vector α n) : (vmap f v).toList = v.toList.map f := by
  simp [vmap, Vector.toList]

theorem vget_vmap {α β : Type} {n : Nat} (f : α → β) (v : Vector α n) (i : Nat) (d : α) :
    vget (vmap f v) i (f d) = f (vget v i d) := by
  rw [vget_toList, vget_toList, vmap_toList]
  simp only [List.getD, List.getElem?_map]
  cases v.toList[i]? <;> rfl

theorem vget_mem {α : Type} {n : Nat} (v : Vector α n) (i : Nat) (d : α) (h : i < n) : vget v i d ∈ v.toList := by
  rw [vget_toList, List.getD, List.getElem?_eq_getElem (by simpa using h)]
  exact List.getElem_mem _

theorem mem_vset {α : Type} {n : Nat} {v : Vector α n} {i : Nat} {a x : α} (h : x ∈ (vset v i a).toList) :
    x ∈ v.toList ∨ x = a := by
  rw [vset_toList] at h
  rcases List.mem_or_eq_of_mem_set h with h | h
  · exact .inl h
  · exact .inr h

end Sys2Proof
end

