-- ==== Sys2Proof/Laws/Updates.lean ====
section
/-! SUPPORT. What each update writes: the fields it changes, as equations. -/

namespace Sys2Proof.Machine

set_option Elab.async false

/-! ### The updates of one field -/

@[simp] theorem reserveSlot_loq (n : Nat) (h : Holder) (s : State) :
    (s.reserveSlot n h).loq = vset s.loq n (.reserved h) := rfl

@[simp] theorem fillSlot_loq (n : Nat) (f : Frame) (s : State) :
    (s.fillSlot n f).loq = vset s.loq n (.filled f s.filledCount) := rfl

@[simp] theorem enqueue_queue (r : ExRecord) (s : State) : (s.enqueue r).queue = s.queue.insert r := rfl

@[simp] theorem setScanRecord_scan (i : Nat) (r : ScanState) (s : State) :
    (s.setScanRecord i r).scan = { s.scan with records := vset s.scan.records i r } := rfl

@[simp] theorem dropRetired_scan (s : State) : s.dropRetired.scan = { s.scan with retired := none } := rfl

@[simp] theorem startScanTime_scan (s : State) :
    s.startScanTime.scan = { s.scan with time := 0#32, startPending := true } := rfl

@[simp] theorem clearScanRecords_scan (s : State) :
    s.clearScanRecords.scan = { s.scan with records := Vector.replicate 32 {} } := rfl

@[simp] theorem setInflight_dlc (x : Option Exchange) (s : State) :
    (s.setInflight x).dlc = { s.dlc with inflight := x } := rfl

@[simp] theorem enterGuard_dlc (n : Nat) (s : State) :
    (s.enterGuard n).dlc = { s.dlc with state := .guard, interval := n } := rfl

@[simp] theorem enterIdle_dlc (s : State) :
    s.enterIdle.dlc =
      { s.dlc with state := .idle, interval := 0, cur := applyPending s.dlc.cur s.dlc.pend, pend := {} } := rfl

@[simp] theorem enterHalted_dlc (s : State) :
    s.enterHalted.dlc =
      { s.dlc with
        state := .halted, interval := 0, cur := applyPending s.dlc.cur s.dlc.pend, pend := {}, haltReq := false } := rfl

@[simp] theorem latch_faults (k : FaultKind) (s : State) : (s.latch k).faults = s.faults ||| k.bit := rfl

@[simp] theorem bump_counters (c : Counter) (s : State) :
    (s.bump c).counters = vset s.counters c.index (saturate (s.counter c)) := rfl

theorem Counter.index_lt (c : Counter) : c.index < 14 := by cases c <;> decide

theorem Counter.index_inj {c d : Counter} (h : c.index = d.index) : c = d := by cases c <;> cases d <;> first | rfl | cases h

/-- A counted event raises its own counter by one, up to 65,535, and no other. -/
theorem counter_bump (c d : Counter) (s : State) :
    (s.bump c).counter d = if c = d then saturate (s.counter c) else s.counter d := by
  simp only [State.counter, bump_counters]
  by_cases h : c = d
  · subst h; simp [vget_vset_same, Counter.index_lt]
  · rw [vget_vset_ne _ _ _ _ _ fun e => h (Counter.index_inj e), if_neg h]

theorem saturate_toNat (w : Word16) : (saturate w).toNat = min 65535 (w.toNat + 1) := by
  unfold saturate
  have := w.isLt
  split
  · next h => subst h; decide
  · next h =>
    have h' : w.toNat ≠ 65535 := fun e => h (BitVec.eq_of_toNat_eq (by simpa using e))
    rw [BitVec.toNat_add]
    simp only [BitVec.toNat_ofNat]
    omega

/-- What depends on one field only. -/
theorem counter_congr {s t : State} (h : s.counters = t.counters) (c : Counter) : s.counter c = t.counter c := by
  simp [State.counter, h]

theorem slot_congr {s t : State} (h : s.loq = t.loq) (n : Nat) : s.slot n = t.slot n := by simp [State.slot, h]

theorem filledCount_congr {s t : State} (h : s.loq = t.loq) : s.filledCount = t.filledCount := by
  simp [State.filledCount, h]

theorem freeCount_congr {s t : State} (h : s.loq = t.loq) : s.freeCount = t.freeCount := by simp [State.freeCount, h]

theorem lowestFree_congr {s t : State} (h : s.loq = t.loq) : s.lowestFree = t.lowestFree := by
  simp [State.lowestFree, h]

theorem scanRecord_congr {s t : State} (h : s.scan = t.scan) (i : Nat) : s.scanRecord i = t.scanRecord i := by
  simp [State.scanRecord, h]

theorem node_congr {s t : State} (h : s.nodes = t.nodes) (n : Nat) : s.node n = t.node n := by simp [State.node, h]

/-! ### The Scan Engine's state through the scan operations: only the records change -/

theorem scanJudged_scan (r : ScanRecord) (o : OutcomeCode) (d : List Byte) (s : State) :
    (s.scanJudged r o d).scan = { s.scan with records := (s.scanJudged r o d).scan.records } := by
  simp only [State.scanJudged]; split <;> simp

theorem offlineDue_scan (i : Nat) (img : Image) (s : State) :
    (s.offlineDue i img).scan = { s.scan with records := (s.offlineDue i img).scan.records } := by
  simp only [State.offlineDue, State.missDue]; (repeat' split) <;> simp

theorem judgeDue_scan (i : Nat) (s : State) :
    (s.judgeDue i).scan = { s.scan with records := (s.judgeDue i).scan.records } := by
  simp only [State.judgeDue]
  split
  · simp [State.missDue]
  · split
    · exact offlineDue_scan _ _ _
    · split
      · simp
      · simp [State.missDue]

theorem foldJudgeDue_scan (l : List Nat) (s : State) :
    (l.foldl (fun t i => t.judgeDue i) s).scan =
      { s.scan with records := (l.foldl (fun t i => t.judgeDue i) s).scan.records } := by
  induction l generalizing s with
  | nil => rfl
  | cons i l ih => rw [List.foldl_cons, ih, judgeDue_scan]

/-- Settling the dues changes the Scan State records alone, and owes no due any more. -/
theorem settleDues_scan (s : State) :
    s.settleDues.scan = { s.scan with records := s.settleDues.scan.records, duesOwed := [] } := by
  unfold State.settleDues
  rw [foldJudgeDue_scan]

theorem reviveNow_scan (s : State) :
    s.reviveNow.scan = { s.scan with reviveCursor := s.reviveNow.scan.reviveCursor } := by
  simp only [State.reviveNow]; (repeat' split) <;> simp

theorem settleRevival_scan (s : State) :
    s.settleRevival.scan =
      { s.scan with revivalOwed := false, reviveCursor := s.settleRevival.scan.reviveCursor } := by
  unfold State.settleRevival
  split
  · rw [reviveNow_scan]
  · next h =>
    have h' : s.scan.revivalOwed = false := by simpa using h
    exact congrArg (fun b => { s.scan with revivalOwed := b }) h'

/-- What a tick finds once the events of the tick before are settled. -/
theorem settleTick_scan (s : State) :
    s.settleTick.scan = { s.scan with
      records := s.settleTick.scan.records, duesOwed := [], revivalOwed := false,
      reviveCursor := s.settleTick.scan.reviveCursor } := by
  unfold State.settleTick
  rw [settleDues_scan, settleRevival_scan, takeExpired_scan]

/-! Each part of the Scan Engine that they leave as it was. -/

@[simp] theorem scanJudged_scan_time (r : ScanRecord) (o : OutcomeCode) (d : List Byte) (s : State) : (s.scanJudged r o d).scan.time = s.scan.time := by rw [scanJudged_scan]
@[simp] theorem scanJudged_scan_startPending (r : ScanRecord) (o : OutcomeCode) (d : List Byte) (s : State) : (s.scanJudged r o d).scan.startPending = s.scan.startPending := by rw [scanJudged_scan]
@[simp] theorem scanJudged_scan_retired (r : ScanRecord) (o : OutcomeCode) (d : List Byte) (s : State) : (s.scanJudged r o d).scan.retired = s.scan.retired := by rw [scanJudged_scan]
@[simp] theorem scanJudged_scan_duesOwed (r : ScanRecord) (o : OutcomeCode) (d : List Byte) (s : State) : (s.scanJudged r o d).scan.duesOwed = s.scan.duesOwed := by rw [scanJudged_scan]
@[simp] theorem scanJudged_scan_reviveCount (r : ScanRecord) (o : OutcomeCode) (d : List Byte) (s : State) : (s.scanJudged r o d).scan.reviveCount = s.scan.reviveCount := by rw [scanJudged_scan]
@[simp] theorem scanJudged_scan_reviveCursor (r : ScanRecord) (o : OutcomeCode) (d : List Byte) (s : State) : (s.scanJudged r o d).scan.reviveCursor = s.scan.reviveCursor := by rw [scanJudged_scan]
@[simp] theorem scanJudged_scan_revivalOwed (r : ScanRecord) (o : OutcomeCode) (d : List Byte) (s : State) : (s.scanJudged r o d).scan.revivalOwed = s.scan.revivalOwed := by rw [scanJudged_scan]
@[simp] theorem offlineDue_scan_time (i : Nat) (img : Image) (s : State) : (s.offlineDue i img).scan.time = s.scan.time := by rw [offlineDue_scan]
@[simp] theorem offlineDue_scan_startPending (i : Nat) (img : Image) (s : State) : (s.offlineDue i img).scan.startPending = s.scan.startPending := by rw [offlineDue_scan]
@[simp] theorem offlineDue_scan_retired (i : Nat) (img : Image) (s : State) : (s.offlineDue i img).scan.retired = s.scan.retired := by rw [offlineDue_scan]
@[simp] theorem offlineDue_scan_duesOwed (i : Nat) (img : Image) (s : State) : (s.offlineDue i img).scan.duesOwed = s.scan.duesOwed := by rw [offlineDue_scan]
@[simp] theorem offlineDue_scan_reviveCount (i : Nat) (img : Image) (s : State) : (s.offlineDue i img).scan.reviveCount = s.scan.reviveCount := by rw [offlineDue_scan]
@[simp] theorem offlineDue_scan_reviveCursor (i : Nat) (img : Image) (s : State) : (s.offlineDue i img).scan.reviveCursor = s.scan.reviveCursor := by rw [offlineDue_scan]
@[simp] theorem offlineDue_scan_revivalOwed (i : Nat) (img : Image) (s : State) : (s.offlineDue i img).scan.revivalOwed = s.scan.revivalOwed := by rw [offlineDue_scan]
@[simp] theorem judgeDue_scan_time (i : Nat) (s : State) : (s.judgeDue i).scan.time = s.scan.time := by rw [judgeDue_scan]
@[simp] theorem judgeDue_scan_startPending (i : Nat) (s : State) : (s.judgeDue i).scan.startPending = s.scan.startPending := by rw [judgeDue_scan]
@[simp] theorem judgeDue_scan_retired (i : Nat) (s : State) : (s.judgeDue i).scan.retired = s.scan.retired := by rw [judgeDue_scan]
@[simp] theorem judgeDue_scan_duesOwed (i : Nat) (s : State) : (s.judgeDue i).scan.duesOwed = s.scan.duesOwed := by rw [judgeDue_scan]
@[simp] theorem judgeDue_scan_reviveCount (i : Nat) (s : State) : (s.judgeDue i).scan.reviveCount = s.scan.reviveCount := by rw [judgeDue_scan]
@[simp] theorem judgeDue_scan_reviveCursor (i : Nat) (s : State) : (s.judgeDue i).scan.reviveCursor = s.scan.reviveCursor := by rw [judgeDue_scan]
@[simp] theorem judgeDue_scan_revivalOwed (i : Nat) (s : State) : (s.judgeDue i).scan.revivalOwed = s.scan.revivalOwed := by rw [judgeDue_scan]
@[simp] theorem settleDues_scan_time (s : State) : (s.settleDues).scan.time = s.scan.time := by rw [settleDues_scan]
@[simp] theorem settleDues_scan_startPending (s : State) : (s.settleDues).scan.startPending = s.scan.startPending := by rw [settleDues_scan]
@[simp] theorem settleDues_scan_retired (s : State) : (s.settleDues).scan.retired = s.scan.retired := by rw [settleDues_scan]
@[simp] theorem settleDues_scan_reviveCount (s : State) : (s.settleDues).scan.reviveCount = s.scan.reviveCount := by rw [settleDues_scan]
@[simp] theorem settleDues_scan_reviveCursor (s : State) : (s.settleDues).scan.reviveCursor = s.scan.reviveCursor := by rw [settleDues_scan]
@[simp] theorem settleDues_scan_revivalOwed (s : State) : (s.settleDues).scan.revivalOwed = s.scan.revivalOwed := by rw [settleDues_scan]
@[simp] theorem reviveNow_scan_records (s : State) : (s.reviveNow).scan.records = s.scan.records := by rw [reviveNow_scan]
@[simp] theorem reviveNow_scan_time (s : State) : (s.reviveNow).scan.time = s.scan.time := by rw [reviveNow_scan]
@[simp] theorem reviveNow_scan_startPending (s : State) : (s.reviveNow).scan.startPending = s.scan.startPending := by rw [reviveNow_scan]
@[simp] theorem reviveNow_scan_retired (s : State) : (s.reviveNow).scan.retired = s.scan.retired := by rw [reviveNow_scan]
@[simp] theorem reviveNow_scan_duesOwed (s : State) : (s.reviveNow).scan.duesOwed = s.scan.duesOwed := by rw [reviveNow_scan]
@[simp] theorem reviveNow_scan_reviveCount (s : State) : (s.reviveNow).scan.reviveCount = s.scan.reviveCount := by rw [reviveNow_scan]
@[simp] theorem reviveNow_scan_revivalOwed (s : State) : (s.reviveNow).scan.revivalOwed = s.scan.revivalOwed := by rw [reviveNow_scan]
@[simp] theorem settleRevival_scan_records (s : State) : (s.settleRevival).scan.records = s.scan.records := by rw [settleRevival_scan]
@[simp] theorem settleRevival_scan_time (s : State) : (s.settleRevival).scan.time = s.scan.time := by rw [settleRevival_scan]
@[simp] theorem settleRevival_scan_startPending (s : State) : (s.settleRevival).scan.startPending = s.scan.startPending := by rw [settleRevival_scan]
@[simp] theorem settleRevival_scan_retired (s : State) : (s.settleRevival).scan.retired = s.scan.retired := by rw [settleRevival_scan]
@[simp] theorem settleRevival_scan_duesOwed (s : State) : (s.settleRevival).scan.duesOwed = s.scan.duesOwed := by rw [settleRevival_scan]
@[simp] theorem settleRevival_scan_reviveCount (s : State) : (s.settleRevival).scan.reviveCount = s.scan.reviveCount := by rw [settleRevival_scan]
@[simp] theorem settleTick_scan_time (s : State) : (s.settleTick).scan.time = s.scan.time := by rw [settleTick_scan]
@[simp] theorem settleTick_scan_startPending (s : State) : (s.settleTick).scan.startPending = s.scan.startPending := by rw [settleTick_scan]
@[simp] theorem settleTick_scan_retired (s : State) : (s.settleTick).scan.retired = s.scan.retired := by rw [settleTick_scan]
@[simp] theorem settleTick_scan_reviveCount (s : State) : (s.settleTick).scan.reviveCount = s.scan.reviveCount := by rw [settleTick_scan]
@[simp] theorem settleDues_duesOwed (s : State) : s.settleDues.scan.duesOwed = [] := by rw [settleDues_scan]
@[simp] theorem settleRevival_owed (s : State) : s.settleRevival.scan.revivalOwed = false := by rw [settleRevival_scan]
@[simp] theorem settleTick_duesOwed (s : State) : s.settleTick.scan.duesOwed = [] := by rw [settleTick_scan]
@[simp] theorem settleTick_owed (s : State) : s.settleTick.scan.revivalOwed = false := by rw [settleTick_scan]

/-! ### What a tick writes -/

theorem revivalTick_scan (s : State) :
    s.revivalTick.scan =
      if s.params.reviveInterval = 0 then { s.scan with reviveCount := 0 }
      else if s.params.reviveInterval ≤ s.scan.reviveCount + 1 then
        { s.scan with reviveCount := 0, revivalOwed := true }
      else { s.scan with reviveCount := s.scan.reviveCount + 1 } := by
  unfold State.revivalTick; (repeat' split) <;> rfl

theorem scanStep_scan (s : State) :
    s.scanStep.scan =
      if s.scanning then
        { s.scan with
          time := if s.scan.startPending then s.scan.time else s.scan.time + 1#32, startPending := false,
          duesOwed := duesAt s.active (if s.scan.startPending then s.scan.time else s.scan.time + 1#32).toNat }
      else s.scan := by
  unfold State.scanStep; split <;> rfl

theorem holdoffTick_holdoff (s : State) :
    s.holdoffTick.notice = { s.notice with holdoff := min (s.notice.holdoff + 1) 255 } := by
  have h : (if s.notice.holdoff < 255 then s.notice.holdoff + 1 else 255) = min (s.notice.holdoff + 1) 255 := by
    split <;> omega
  exact congrArg (fun k => { s.notice with holdoff := k }) h

/-- The ticking of the counters changes the timer, the Notice Set and the Scan Engine alone. -/
theorem tick_frame (s : State) :
    s.countTick.revivalTick.holdoffTick.scanStep = { s with
      timer := s.countTick.revivalTick.holdoffTick.scanStep.timer
      notice := s.countTick.revivalTick.holdoffTick.scanStep.notice
      scan := s.countTick.revivalTick.holdoffTick.scanStep.scan } := by
  unfold State.scanStep State.revivalTick
  (repeat' split) <;> rfl

theorem active_congr {s t : State} (h0 : s.bank0 = t.bank0) (h1 : s.bank1 = t.bank1) (h : s.activeBank = t.activeBank) :
    s.active = t.active := by
  simp only [State.active, State.bank, h0, h1, h]

theorem shadow_congr {s t : State} (h0 : s.bank0 = t.bank0) (h1 : s.bank1 = t.bank1) (h : s.activeBank = t.activeBank) :
    s.shadow = t.shadow := by
  simp only [State.shadow, State.bank, h0, h1, h]

/-- The entries due at a scan time (R109). -/
theorem mem_duesAt (b : Bank) (time i : Nat) :
    i ∈ duesAt b time ↔ i < 32 ∧ dueAt (vget b.scans i Image.zero) time = true := by
  simp [duesAt]

theorem duesAt_sorted (b : Bank) (time : Nat) : (duesAt b time).Pairwise (· < ·) :=
  List.Pairwise.filter _ List.pairwise_lt_range

end Sys2Proof.Machine
end

