-- ==== Sys2Proof/Laws/Heads.lean ====
section
/-! SUPPORT. The Inbox head: when it is taken, what a CONTROL's dispatch answers, and when nothing is taken. -/

namespace Sys2Proof.Machine

set_option Elab.async false

theorem Command.ofCode_code (c : Command) : Command.ofCode c.code = some c := by cases c <;> decide

theorem Command.ofCode_eq_some {b : Byte} {c : Command} : Command.ofCode b = some c ↔ b = c.code := by
  constructor
  · intro h
    have := List.find?_some h
    exact (by simpa using this : c.code = b).symm
  · rintro rfl; exact c.ofCode_code

theorem Command.ofCode_eq_none {b : Byte} : Command.ofCode b = none ↔ ∀ c : Command, b ≠ c.code := by
  constructor
  · intro h c e; subst e; simp [Command.ofCode_code] at h
  · intro h
    cases hc : Command.ofCode b with
    | none => rfl
    | some c => exact absurd (Command.ofCode_eq_some.mp hc) (h c)

theorem isCommand_iff {c : Command} {f : Frame} : isCommand c f = true ↔ f.kind = .control ∧ f.code = c.code := by
  simp [isCommand, Command.ofCode_eq_some]

/-- A wanted head is taken. -/
theorem State.Head.takeHead {s : State} {f : Frame} {rest : List Frame} {n : Nat} (h : s.Head f rest n)
    {want : Frame → Bool} (hw : want f = true) : s.takeHead want = some (f, n, s.took rest n) := by
  simp [State.takeHead, h.inbox, h.slot, hw, State.took]

/-- A head that is not wanted stays. -/
theorem takeHead_unwanted {s : State} {f : Frame} {rest : List Frame} (h : s.inbox = f :: rest) {want : Frame → Bool}
    (hw : want f = false) : s.takeHead want = none := by
  simp [State.takeHead, h, hw]

/-- No head is taken from an empty Inbox or while no slot is FREE (R8). -/
theorem takeHead_waits {s : State} (h : s.lowestFree = none ∨ s.inbox = []) (want : Frame → Bool) :
    s.takeHead want = none := by
  unfold State.takeHead
  split
  · rfl
  · next f rest hi =>
    have : s.lowestFree = none := h.resolve_right (by simp [hi])
    simp [this]

theorem finishControl_eq (f : Frame) (n : Nat) (r : CommandResult) :
    finishControl f n r = r.state.answered f n r.code r.payload := by
  simp [finishControl, State.answered, broadcastFrame]

theorem State.HeadCommand.isCommand {s : State} {c : Command} {ops : List Byte} {f : Frame} {rest : List Frame} {n : Nat}
    (h : s.HeadCommand c ops f rest n) : isCommand c f = true := isCommand_iff.mpr ⟨h.kind, h.code⟩

/-- What the dispatch of a command answers (R162 to R165). -/
theorem State.HeadCommand.dispatch {s : State} {c : Command} {ops : List Byte} {f : Frame} {rest : List Frame} {n : Nat}
    (h : s.HeadCommand c ops f rest n) (run : List Byte → State → CommandResult) :
    dispatch c run s =
      if ops.length = c.operandBytes then
        (run ops (s.took rest n)).state.answered f n (run ops (s.took rest n)).code (run ops (s.took rest n)).payload
      else (s.took rest n).answered f n .badParam [] := by
  simp only [Machine.dispatch, h.toHead.takeHead h.isCommand, runCommand, h.operands]
  split <;> simp [finishControl_eq, refuseCommand]

theorem dispatch_none {s : State} {c : Command} (h : s.takeHead (isCommand c) = none)
    (run : List Byte → State → CommandResult) : dispatch c run s = s := by
  simp [dispatch, h]

/-! What taking the head leaves as it was, and what it writes. -/

@[simp] theorem took_inReset (rest : List Frame) (n : Nat) (s : State) : (s.took rest n).inReset = s.inReset := rfl
@[simp] theorem took_portD (rest : List Frame) (n : Nat) (s : State) : (s.took rest n).portD = s.portD := rfl
@[simp] theorem took_position (rest : List Frame) (n : Nat) (s : State) : (s.took rest n).position = s.position := rfl
@[simp] theorem took_chainEnd (rest : List Frame) (n : Nat) (s : State) : (s.took rest n).chainEnd = s.chainEnd := rfl
@[simp] theorem took_otq (rest : List Frame) (n : Nat) (s : State) : (s.took rest n).otq = s.otq := rfl
@[simp] theorem took_htq (rest : List Frame) (n : Nat) (s : State) : (s.took rest n).htq = s.htq := rfl
@[simp] theorem took_uTx (rest : List Frame) (n : Nat) (s : State) : (s.took rest n).uTx = s.uTx := rfl
@[simp] theorem took_dTx (rest : List Frame) (n : Nat) (s : State) : (s.took rest n).dTx = s.dTx := rfl
@[simp] theorem took_streak (rest : List Frame) (n : Nat) (s : State) : (s.took rest n).streak = s.streak := rfl
@[simp] theorem took_notice (rest : List Frame) (n : Nat) (s : State) : (s.took rest n).notice = s.notice := rfl
@[simp] theorem took_queue (rest : List Frame) (n : Nat) (s : State) : (s.took rest n).queue = s.queue := rfl
@[simp] theorem took_dlc (rest : List Frame) (n : Nat) (s : State) : (s.took rest n).dlc = s.dlc := rfl
@[simp] theorem took_nodes (rest : List Frame) (n : Nat) (s : State) : (s.took rest n).nodes = s.nodes := rfl
@[simp] theorem took_bank0 (rest : List Frame) (n : Nat) (s : State) : (s.took rest n).bank0 = s.bank0 := rfl
@[simp] theorem took_bank1 (rest : List Frame) (n : Nat) (s : State) : (s.took rest n).bank1 = s.bank1 := rfl
@[simp] theorem took_activeBank (rest : List Frame) (n : Nat) (s : State) : (s.took rest n).activeBank = s.activeBank := rfl
@[simp] theorem took_epoch (rest : List Frame) (n : Nat) (s : State) : (s.took rest n).epoch = s.epoch := rfl
@[simp] theorem took_commit (rest : List Frame) (n : Nat) (s : State) : (s.took rest n).commit = s.commit := rfl
@[simp] theorem took_scan (rest : List Frame) (n : Nat) (s : State) : (s.took rest n).scan = s.scan := rfl
@[simp] theorem took_params (rest : List Frame) (n : Nat) (s : State) : (s.took rest n).params = s.params := rfl
@[simp] theorem took_faults (rest : List Frame) (n : Nat) (s : State) : (s.took rest n).faults = s.faults := rfl
@[simp] theorem took_counters (rest : List Frame) (n : Nat) (s : State) : (s.took rest n).counters = s.counters := rfl
@[simp] theorem took_timer (rest : List Frame) (n : Nat) (s : State) : (s.took rest n).timer = s.timer := rfl
@[simp] theorem took_pending (rest : List Frame) (n : Nat) (s : State) : (s.took rest n).pending = s.pending := rfl
@[simp] theorem took_inbox (rest : List Frame) (n : Nat) (s : State) : (s.took rest n).inbox = rest := rfl
@[simp] theorem took_loq (rest : List Frame) (n : Nat) (s : State) :
    (s.took rest n).loq = vset s.loq n (.reserved .dispatch) := rfl

@[simp] theorem answered_inReset (f : Frame) (n : Nat) (c : AckCode) (p : List Byte) (s : State) : (s.answered f n c p).inReset = s.inReset := by unfold State.answered; split <;> simp
@[simp] theorem answered_portD (f : Frame) (n : Nat) (c : AckCode) (p : List Byte) (s : State) : (s.answered f n c p).portD = s.portD := by unfold State.answered; split <;> simp
@[simp] theorem answered_position (f : Frame) (n : Nat) (c : AckCode) (p : List Byte) (s : State) : (s.answered f n c p).position = s.position := by unfold State.answered; split <;> simp
@[simp] theorem answered_chainEnd (f : Frame) (n : Nat) (c : AckCode) (p : List Byte) (s : State) : (s.answered f n c p).chainEnd = s.chainEnd := by unfold State.answered; split <;> simp
@[simp] theorem answered_otq (f : Frame) (n : Nat) (c : AckCode) (p : List Byte) (s : State) : (s.answered f n c p).otq = s.otq := by unfold State.answered; split <;> simp
@[simp] theorem answered_htq (f : Frame) (n : Nat) (c : AckCode) (p : List Byte) (s : State) : (s.answered f n c p).htq = s.htq := by unfold State.answered; split <;> simp
@[simp] theorem answered_uTx (f : Frame) (n : Nat) (c : AckCode) (p : List Byte) (s : State) : (s.answered f n c p).uTx = s.uTx := by unfold State.answered; split <;> simp
@[simp] theorem answered_dTx (f : Frame) (n : Nat) (c : AckCode) (p : List Byte) (s : State) : (s.answered f n c p).dTx = s.dTx := by unfold State.answered; split <;> simp
@[simp] theorem answered_streak (f : Frame) (n : Nat) (c : AckCode) (p : List Byte) (s : State) : (s.answered f n c p).streak = s.streak := by unfold State.answered; split <;> simp
@[simp] theorem answered_notice (f : Frame) (n : Nat) (c : AckCode) (p : List Byte) (s : State) : (s.answered f n c p).notice = s.notice := by unfold State.answered; split <;> simp
@[simp] theorem answered_queue (f : Frame) (n : Nat) (c : AckCode) (p : List Byte) (s : State) : (s.answered f n c p).queue = s.queue := by unfold State.answered; split <;> simp
@[simp] theorem answered_dlc (f : Frame) (n : Nat) (c : AckCode) (p : List Byte) (s : State) : (s.answered f n c p).dlc = s.dlc := by unfold State.answered; split <;> simp
@[simp] theorem answered_nodes (f : Frame) (n : Nat) (c : AckCode) (p : List Byte) (s : State) : (s.answered f n c p).nodes = s.nodes := by unfold State.answered; split <;> simp
@[simp] theorem answered_bank0 (f : Frame) (n : Nat) (c : AckCode) (p : List Byte) (s : State) : (s.answered f n c p).bank0 = s.bank0 := by unfold State.answered; split <;> simp
@[simp] theorem answered_bank1 (f : Frame) (n : Nat) (c : AckCode) (p : List Byte) (s : State) : (s.answered f n c p).bank1 = s.bank1 := by unfold State.answered; split <;> simp
@[simp] theorem answered_activeBank (f : Frame) (n : Nat) (c : AckCode) (p : List Byte) (s : State) : (s.answered f n c p).activeBank = s.activeBank := by unfold State.answered; split <;> simp
@[simp] theorem answered_epoch (f : Frame) (n : Nat) (c : AckCode) (p : List Byte) (s : State) : (s.answered f n c p).epoch = s.epoch := by unfold State.answered; split <;> simp
@[simp] theorem answered_commit (f : Frame) (n : Nat) (c : AckCode) (p : List Byte) (s : State) : (s.answered f n c p).commit = s.commit := by unfold State.answered; split <;> simp
@[simp] theorem answered_scan (f : Frame) (n : Nat) (c : AckCode) (p : List Byte) (s : State) : (s.answered f n c p).scan = s.scan := by unfold State.answered; split <;> simp
@[simp] theorem answered_params (f : Frame) (n : Nat) (c : AckCode) (p : List Byte) (s : State) : (s.answered f n c p).params = s.params := by unfold State.answered; split <;> simp
@[simp] theorem answered_faults (f : Frame) (n : Nat) (c : AckCode) (p : List Byte) (s : State) : (s.answered f n c p).faults = s.faults := by unfold State.answered; split <;> simp
@[simp] theorem answered_counters (f : Frame) (n : Nat) (c : AckCode) (p : List Byte) (s : State) : (s.answered f n c p).counters = s.counters := by unfold State.answered; split <;> simp
@[simp] theorem answered_timer (f : Frame) (n : Nat) (c : AckCode) (p : List Byte) (s : State) : (s.answered f n c p).timer = s.timer := by unfold State.answered; split <;> simp
@[simp] theorem answered_pending (f : Frame) (n : Nat) (c : AckCode) (p : List Byte) (s : State) : (s.answered f n c p).pending = s.pending := by unfold State.answered; split <;> simp
@[simp] theorem answered_inbox (f : Frame) (n : Nat) (c : AckCode) (p : List Byte) (s : State) : (s.answered f n c p).inbox = s.inbox := by unfold State.answered; split <;> simp
@[simp] theorem answered_portU (f : Frame) (n : Nat) (c : AckCode) (p : List Byte) (s : State) : (s.answered f n c p).portU = s.portU := by unfold State.answered; split <;> simp

end Sys2Proof.Machine
end

