-- ==== Sys2Proof/Laws/Slots.lean ====
section
/-! SUPPORT. The Local Output Queue: the lowest FREE slot, and what the slot operations do to a slot and to the counts. -/

namespace Sys2Proof.Machine

set_option Elab.async false

/-- The lowest FREE slot is a slot, it is FREE, and every lower one is not (R122). -/
theorem lowestFree_spec {s : State} {n : Nat} (h : s.lowestFree = some n) :
    n < 64 ∧ s.slot n = .free ∧ ∀ m, m < n → s.slot m ≠ .free := by
  unfold State.lowestFree at h
  rw [List.findIdx?_eq_some_iff_getElem] at h
  obtain ⟨hl, hf, hm⟩ := h
  have hn : n < 64 := by simpa using hl
  refine ⟨hn, ?_, ?_⟩
  · unfold State.slot vget
    rw [dif_pos hn]
    rw [Vector.getElem_toList] at hf
    revert hf
    cases s.loq[n] <;> simp [Slot.isFree]
  · intro m hmn
    have := hm m hmn
    have hm64 : m < 64 := Nat.lt_trans hmn hn
    unfold State.slot vget
    rw [dif_pos hm64]
    rw [Vector.getElem_toList] at this
    intro e
    rw [e] at this
    exact this rfl

/-- While at least one slot is FREE there is a lowest one. -/
theorem lowestFree_isSome {s : State} (h : 1 ≤ s.freeCount) : ∃ n, s.lowestFree = some n := by
  have : ∃ x ∈ s.loq.toList, x.isFree = true := List.countP_pos_iff.mp h
  obtain ⟨x, hx, hf⟩ := this
  cases hl : s.lowestFree with
  | some n => exact ⟨n, rfl⟩
  | none =>
    rw [State.lowestFree, List.findIdx?_eq_none_iff] at hl
    exact absurd (hl x hx) (by simp [hf])

theorem lowestFree_none {s : State} : s.lowestFree = none ↔ s.freeCount = 0 := by
  rw [State.lowestFree, List.findIdx?_eq_none_iff, State.freeCount, List.countP_eq_zero]
  simp

/-- A slot after it is rewritten. -/
theorem slot_vset (s : State) (n m : Nat) (x : Slot) (t : State) (h : t.loq = vset s.loq n x) :
    t.slot m = if n = m ∧ m < 64 then x else s.slot m := by
  unfold State.slot
  rw [h, vget_vset]

theorem countP_vset {k : Nat} (v : Vector Slot k) (p : Slot → Bool) (n : Nat) (x d : Slot) (h : n < k) :
    (vset v n x).toList.countP p + (if p (vget v n d) then 1 else 0) =
      v.toList.countP p + (if p x then 1 else 0) := by
  have hl : n < v.toList.length := by simpa using h
  rw [vset_toList, vget_toList, List.getD, List.getElem?_eq_getElem hl, Option.getD_some, List.countP_set hl]
  have hpos : (if p v.toList[n] then 1 else 0) ≤ v.toList.countP p := by
    split
    · next hp => exact List.countP_pos_iff.mpr ⟨_, List.getElem_mem hl, hp⟩
    · exact Nat.zero_le _
  omega

/-- Writing a slot that was FREE or RESERVED as RESERVED, or FREE, changes no FILLED slot. -/
theorem filledCount_vset {s t : State} {n : Nat} {x : Slot} (h : t.loq = vset s.loq n x)
    (hs : (s.slot n).isFilled = false) (hx : x.isFilled = false) : t.filledCount = s.filledCount := by
  by_cases hn : n < 64
  · have := countP_vset s.loq Slot.isFilled n x .free hn
    have hs' : (vget s.loq n .free).isFilled = false := hs
    simp only [hs', hx, Bool.false_eq_true, if_false] at this
    simp only [State.filledCount, h]; omega
  · simp [State.filledCount, h, vset_outside _ _ _ (Nat.not_lt.mp hn)]

/-- A FREE slot that becomes RESERVED or FILLED takes one from the FREE count. -/
theorem freeCount_claim {s t : State} {n : Nat} {x : Slot} (h : t.loq = vset s.loq n x) (hn : n < 64)
    (hs : s.slot n = .free) (hx : x.isFree = false) : t.freeCount + 1 = s.freeCount := by
  have := countP_vset s.loq Slot.isFree n x .free hn
  have hs' : (vget s.loq n .free).isFree = true := by
    have : vget s.loq n .free = .free := hs
    rw [this]; rfl
  simp only [hs', hx, if_true, Bool.false_eq_true, if_false] at this
  simp only [State.freeCount, h]; omega

/-- A slot that is not FILLED becomes FREE, and no other slot changes. -/
theorem freeSlot_unfilled {s : State} {n : Nat} (h : (s.slot n).isFilled = false) :
    s.freeSlot n = { s with loq := vset s.loq n .free } := by
  unfold State.freeSlot
  split
  · next f k e => rw [e] at h; simp [Slot.isFilled] at h
  · rfl
  · rfl

/-- A slot that is claimed and released at once leaves the queue as it was. -/
theorem vset_free_back {v : Vector Slot 64} {n : Nat} (h : vget v n .free = .free) (x : Slot) :
    vset (vset v n x) n .free = v := by
  rw [vset_vset]
  by_cases hn : n < 64
  · have := vset_vget v n .free hn
    rwa [h] at this
  · exact vset_outside _ _ _ (Nat.not_lt.mp hn)

end Sys2Proof.Machine
end

