-- ==== Sys2Proof/Laws/Dues.lean ====
section
/-! SUPPORT. The dues that a scan step owes: judging them keeps the Inbox head and a FREE slot for it, and what is settled
when nothing is owed. -/

namespace Sys2Proof.Machine

set_option Elab.async false

/-! ### A FREE slot stays -/

theorem fillLowest_keepsFree (f : Frame) {s : State} (h : 2 ≤ s.freeCount) : 1 ≤ (s.fillLowest f).freeCount := by
  unfold State.fillLowest
  split
  · rename_i n hn
    obtain ⟨hl, hf, _⟩ := lowestFree_spec hn
    have := freeCount_claim (t := s.fillSlot n f) (x := .filled f s.filledCount) rfl hl hf rfl
    omega
  · omega

/-- A due takes a slot only while at least 4 are FREE (R113). -/
theorem judgeDue_keepsFree (i : Nat) {s : State} (h : 1 ≤ s.freeCount) : 1 ≤ (s.judgeDue i).freeCount := by
  have offline : ∀ img, 1 ≤ (s.offlineDue i img).freeCount := by
    intro img
    simp only [State.offlineDue]
    split
    · split
      · rw [freeCount_congr (by rfl)]
        exact fillLowest_keepsFree _ (by omega)
      · rwa [freeCount_congr (t := s) (by simp [State.missDue, State.setScanRecord])]
    · rwa [freeCount_congr (t := s) (by simp [State.setScanRecord])]
  simp only [State.judgeDue]
  (repeat' split) <;> first
    | exact offline _
    | (rwa [freeCount_congr (t := s) (by simp [State.missDue, State.setScanRecord, State.enqueue])])

theorem settleDues_keepsFree {s : State} (h : 1 ≤ s.freeCount) : 1 ≤ s.settleDues.freeCount := by
  have fold : ∀ (l : List Nat) (t : State), 1 ≤ t.freeCount → 1 ≤ (l.foldl (fun t i => t.judgeDue i) t).freeCount := by
    intro l
    induction l with
    | nil => exact fun _ h => h
    | cons a l ih => exact fun t h => ih _ (judgeDue_keepsFree a h)
  exact fold _ _ (by rwa [freeCount_congr rfl])

/-- The head that could be taken before the dues are settled can be taken after, in a slot that is FREE then. -/
theorem State.Head.settled {s : State} {f : Frame} {rest : List Frame} {n : Nat} (h : s.Head f rest n) :
    ∃ m, s.settleDues.Head f rest m := by
  have free : 1 ≤ s.freeCount := Nat.one_le_iff_ne_zero.mpr fun e => by
    have := h.slot
    rw [lowestFree_none.mpr e] at this
    cases this
  obtain ⟨m, hm⟩ := lowestFree_isSome (settleDues_keepsFree free)
  exact ⟨m, by simpa using h.live, by simpa using h.inbox, hm⟩

/-! ### Before a head is taken -/

theorem settleBefore_unwanted {s : State} {f : Frame} {rest : List Frame} (h : s.inbox = f :: rest)
    {want : Frame → Bool} (hw : want f = false) : s.settleBefore want = s := by
  simp [State.settleBefore, h, hw]

theorem settleBefore_waits {s : State} (h : s.lowestFree = none ∨ s.inbox = []) (want : Frame → Bool) :
    s.settleBefore want = s := by
  unfold State.settleBefore
  split
  · rfl
  · rename_i f rest hi
    have : s.lowestFree = none := h.resolve_right (by simp [hi])
    simp [this]

theorem State.Head.settleBefore {s : State} {f : Frame} {rest : List Frame} {n : Nat} (h : s.Head f rest n)
    {want : Frame → Bool} (hw : want f = true) : s.settleBefore want = s.settleDues := by
  simp [State.settleBefore, h.inbox, h.slot, hw]

/-! ### The retired scan is none of a tick's (R107) -/

@[simp] theorem judgeDue_retired (i : Nat) (s : State) : (s.judgeDue i).scan.retired = s.scan.retired := by
  simp only [State.judgeDue, State.offlineDue]
  (repeat' split) <;> simp [State.missDue, State.setScanRecord]

@[simp] theorem settleDues_retired (s : State) : s.settleDues.scan.retired = s.scan.retired := by
  have fold : ∀ (l : List Nat) (t : State), (l.foldl (fun t i => t.judgeDue i) t).scan.retired = t.scan.retired := by
    intro l
    induction l with
    | nil => exact fun _ => rfl
    | cons a l ih => exact fun t => (ih _).trans (judgeDue_retired a t)
  exact fold _ _

@[simp] theorem settleRevival_retired (s : State) : s.settleRevival.scan.retired = s.scan.retired := by
  simp only [State.settleRevival, State.reviveNow]
  (repeat' split) <;> simp

@[simp] theorem settleTick_retired (s : State) : s.settleTick.scan.retired = s.scan.retired := by
  simp [State.settleTick]

/-! ### Nothing owed -/

theorem settleDues_nothing {s : State} (h : s.scan.duesOwed = []) : s.settleDues = s := by
  unfold State.settleDues
  rw [h]
  show ({ s with scan := { s.scan with duesOwed := [] } } : State) = s
  rw [← h]

theorem settleRevival_nothing {s : State} (h : s.scan.revivalOwed = false) : s.settleRevival = s := by
  simp [State.settleRevival, h]

theorem remove_nothing {q : ExchangeQueue} {p : ExRecord → Bool} (h : ∀ r ∈ q.all, p r = false) : q.remove p = q := by
  have keep : ∀ l : List ExRecord, (∀ r ∈ l, p r = false) → l.filter (fun r => !p r) = l := by
    intro l hl
    rw [List.filter_eq_self]
    intro r hr
    simp [hl r hr]
  unfold ExchangeQueue.remove
  rw [keep q.c0 fun r hr => h r (by simp [ExchangeQueue.all, hr]), keep q.c1 fun r hr => h r (by simp [ExchangeQueue.all, hr]),
    keep q.c2 fun r hr => h r (by simp [ExchangeQueue.all, hr]), keep q.c3 fun r hr => h r (by simp [ExchangeQueue.all, hr])]

theorem takeExpired_nothing {s : State} (h : ∀ r ∈ s.queue.all, r.isExpired s.timer.count = false) :
    s.takeExpired = s := by
  have none : s.queue.all.filter (ExRecord.isExpired s.timer.count) = [] := by
    rw [List.filter_eq_nil_iff]
    intro r hr
    simp [h r hr]
  simp [State.takeExpired, none, remove_nothing h]

/-- A tick that is owed nothing settles nothing. -/
theorem settleTick_nothing {s : State} (he : ∀ r ∈ s.queue.all, r.isExpired s.timer.count = false)
    (hr : s.scan.revivalOwed = false) (hd : s.scan.duesOwed = []) : s.settleTick = s := by
  rw [State.settleTick, takeExpired_nothing he, settleRevival_nothing hr, settleDues_nothing hd]

end Sys2Proof.Machine
end

