-- ==== Sys2Proof/Laws/Params.lean ====
section
/-! SUPPORT. The parameters: what a write of one parameter does to the value of each. -/

namespace Sys2Proof.Machine

set_option Elab.async false

/-- A line setting written as current is the value read for it, and no other parameter's. -/
theorem paramValue_setCurrent (id v j : Nat) (c : LineSettings) (p : Params) (h1 : 1 ≤ id) (h5 : id ≤ 5) :
    paramValue (setCurrent id v c) p j = if j = id then v else paramValue c p j := by
  by_cases hj : j = id
  · subst hj
    have : j = 1 ∨ j = 2 ∨ j = 3 ∨ j = 4 ∨ j = 5 := by omega
    rcases this with rfl | rfl | rfl | rfl | rfl <;> simp [paramValue, setCurrent]
  · rw [if_neg hj]
    have : id = 1 ∨ id = 2 ∨ id = 3 ∨ id = 4 ∨ id = 5 := by omega
    rcases this with rfl | rfl | rfl | rfl | rfl <;> simp [paramValue, setCurrent, hj]

/-- A line setting written as pending is the value held for it, and no other parameter's. -/
theorem paramPending_setPending (id v j : Nat) (c : PendingSettings) (h1 : 1 ≤ id) (h5 : id ≤ 5) :
    paramPending (setPending id v c) j = if j = id then some v else paramPending c j := by
  by_cases hj : j = id
  · subst hj
    have : j = 1 ∨ j = 2 ∨ j = 3 ∨ j = 4 ∨ j = 5 := by omega
    rcases this with rfl | rfl | rfl | rfl | rfl <;> simp [paramPending, setPending]
  · rw [if_neg hj]
    have : id = 1 ∨ id = 2 ∨ id = 3 ∨ id = 4 ∨ id = 5 := by omega
    rcases this with rfl | rfl | rfl | rfl | rfl <;> simp [paramPending, setPending, hj]

/-- A parameter 6 to 14 written is the value read for it, and no other parameter's. -/
theorem paramValue_setOwnParam (id v j : Nat) (c : LineSettings) (p : Params) (h6 : 6 ≤ id) (h14 : id ≤ 14) :
    paramValue c (setOwnParam id v p) j = if j = id then v else paramValue c p j := by
  by_cases hj : j = id
  · subst hj
    have : j = 6 ∨ j = 7 ∨ j = 8 ∨ j = 9 ∨ j = 10 ∨ j = 11 ∨ j = 12 ∨ j = 13 ∨ j = 14 := by omega
    rcases this with rfl | rfl | rfl | rfl | rfl | rfl | rfl | rfl | rfl <;> simp [paramValue, setOwnParam]
  · rw [if_neg hj]
    have : id = 6 ∨ id = 7 ∨ id = 8 ∨ id = 9 ∨ id = 10 ∨ id = 11 ∨ id = 12 ∨ id = 13 ∨ id = 14 := by omega
    rcases this with rfl | rfl | rfl | rfl | rfl | rfl | rfl | rfl | rfl <;> simp [paramValue, setOwnParam, hj]

end Sys2Proof.Machine
end

