-- ==== Sys2Proof/Laws/Selection.lean ====
section
/-! SUPPORT. The record that a selection or a CANCEL takes from the class lists, and an exchange with an attempt's outcome
recorded. -/

namespace Sys2Proof.Machine

set_option Elab.async false

/-- The first record that satisfies `p` in the lowest class that has one is taken, and the others stay in order. -/
theorem takeFirst_of_first {q : ExchangeQueue} {c : Cls} {before after : List ExRecord} {r : ExRecord}
    {p : ExRecord → Bool} (h : q.list c = before ++ r :: after) (hp : p r = true) (hb : ∀ y ∈ before, p y = false)
    (hd : ∀ d : Cls, d < c → ∀ y ∈ q.list d, p y = false) :
    q.takeFirst p = some (r, q.setList c (before ++ after)) := by
  have hn : ∀ l : List ExRecord, (∀ y ∈ l, p y = false) → l.find? p = none := by
    intro l hl
    rw [List.find?_eq_none]
    intro x hx
    simp [hl x hx]
  have hf : (before ++ r :: after).find? p = some r := by
    rw [List.find?_append, hn before hb]
    simp [hp]
  have he : (before ++ r :: after).eraseP p = before ++ after := by
    rw [List.eraseP_append_right _ (by intro x hx; simp [hb x hx])]
    simp [hp]
  have hc : ∀ d : Cls, d = 0#2 ∨ d = 1#2 ∨ d = 2#2 ∨ d = 3#2 := by decide
  have d0 := hd 0#2
  have d1 := hd 1#2
  have d2 := hd 2#2
  rcases hc c with rfl | rfl | rfl | rfl <;> simp [ExchangeQueue.list] at h d0 d1 d2
  · simp [ExchangeQueue.takeFirst, h, hf, he, ExchangeQueue.setList]
  · simp [ExchangeQueue.takeFirst, h, hf, he, ExchangeQueue.setList, hn _ d0]
  · simp [ExchangeQueue.takeFirst, h, hf, he, ExchangeQueue.setList, hn _ d0, hn _ d1]
  · simp [ExchangeQueue.takeFirst, h, hf, he, ExchangeQueue.setList, hn _ d0, hn _ d1, hn _ d2]

/-- Nothing is taken when no queued record satisfies `p`. -/
theorem takeFirst_eq_none {q : ExchangeQueue} {p : ExRecord → Bool} (h : ∀ y ∈ q.all, p y = false) :
    q.takeFirst p = none := by
  have hn : ∀ l : List ExRecord, (∀ y ∈ l, p y = false) → l.find? p = none := by
    intro l hl
    rw [List.find?_eq_none]
    intro x hx
    simp [hl x hx]
  have h0 := hn q.c0 fun y hy => h y (by simp [ExchangeQueue.all, hy])
  have h1 := hn q.c1 fun y hy => h y (by simp [ExchangeQueue.all, hy])
  have h2 := hn q.c2 fun y hy => h y (by simp [ExchangeQueue.all, hy])
  have h3 := hn q.c3 fun y hy => h y (by simp [ExchangeQueue.all, hy])
  simp [ExchangeQueue.takeFirst, h0, h1, h2, h3]

/-- What is taken was queued and satisfies `p`. -/
theorem takeFirst_mem {q q' : ExchangeQueue} {p : ExRecord → Bool} {r : ExRecord} (h : q.takeFirst p = some (r, q')) :
    r ∈ q.all ∧ p r = true := by
  unfold ExchangeQueue.takeFirst at h
  split at h
  · rename_i x hx
    cases h
    exact ⟨by simp [ExchangeQueue.all, List.mem_of_find?_eq_some hx], List.find?_some hx⟩
  · split at h
    · rename_i x hx
      cases h
      exact ⟨by simp [ExchangeQueue.all, List.mem_of_find?_eq_some hx], List.find?_some hx⟩
    · split at h
      · rename_i x hx
        cases h
        exact ⟨by simp [ExchangeQueue.all, List.mem_of_find?_eq_some hx], List.find?_some hx⟩
      · split at h
        · rename_i x hx
          cases h
          exact ⟨by simp [ExchangeQueue.all, List.mem_of_find?_eq_some hx], List.find?_some hx⟩
        · cases h

/-- An outcome recorded: the step has a bad attempt when it had one or this one is. -/
theorem noted_eq (x : Exchange) (o : OutcomeCode) :
    x.noted o =
      { x with lastOutcome := some o, anyBad := x.anyBad || decide (o = .noResponse ∨ o = .badResponse) } := by
  have h : (o == .noResponse) = decide (o = .noResponse) := by cases o <;> decide
  have h' : (o == .badResponse) = decide (o = .badResponse) := by cases o <;> decide
  simp only [Exchange.noted, h, h', Bool.or_assoc, Bool.decide_or]

theorem noted_of_not_bad (x : Exchange) (o : OutcomeCode) (h : o ≠ .noResponse) (h' : o ≠ .badResponse) :
    x.noted o = { x with lastOutcome := some o } := by
  rw [noted_eq]
  simp [h, h']

/-- The DLC is sending a request exactly in a TRANSMIT that a soft reset has not cut. -/
theorem transmitting_eq_some {s : State} {x : Exchange} :
    s.transmitting = some x ↔ s.dlc.state = .transmit ∧ s.dlc.stopping = false ∧ s.dlc.inflight = some x := by
  unfold State.transmitting
  split
  · rename_i h
    simp [h.1, h.2]
  · rename_i h
    constructor
    · intro e
      cases e
    · intro e
      exact absurd ⟨e.1, e.2.1⟩ h

theorem recordAttempt_ends (x : Exchange) (o : OutcomeCode) (data : List Byte) (s : State) (h : x.follows o = false) :
    s.recordAttempt x o data = s.complete (x.noted o) (some o) data := by
  simp [State.recordAttempt, h]

theorem recordAttempt_goes_on (x : Exchange) (o : OutcomeCode) (data : List Byte) (s : State) (h : x.follows o = true)
    (hw : s.withdrawn (x.noted o) = false) :
    s.recordAttempt x o data = s.setInflight (some (x.noted o)) := by
  simp [State.recordAttempt, h, hw]

theorem recordAttempt_withdrawn (x : Exchange) (o : OutcomeCode) (data : List Byte) (s : State) (h : x.follows o = true)
    (hw : s.withdrawn (x.noted o) = true) :
    s.recordAttempt x o data = s.complete (x.noted o) (x.noted o).withdrawnOutcome [] := by
  simp [State.recordAttempt, h, hw]

end Sys2Proof.Machine
end

