-- ==== Sys2Proof/Laws/Steps.lean ====
section
/-! SUPPORT. What a step can be: the front command carried out, or the idle step; what an event outside a reset is; and the
queue, the counts of symbol times and the flags that runs of them change. -/

namespace Sys2Proof.Machine

set_option Elab.async false

/-! ### A step and its command -/

theorem step_nil {s : State} (h : s.pending = []) : step s = .next s.idleStep := by simp [step, h]

theorem step_cons {s : State} {c : Instr} {rest : List Instr} (h : s.pending = c :: rest) :
    step s = exec c { s with pending := rest } := by simp [step, h]

/-- A law that the queue does not touch, that the idle step keeps and that every command keeps is kept by every step. -/
theorem step_keeps {P : State → Prop} (queue : ∀ s q, P s → P { s with pending := q }) (idle : ∀ s, P s → P s.idleStep)
    (command : ∀ c s t, P s → exec c s = .next t → P t) {s t : State} (h : P s) (hs : step s = .next t) : P t := by
  cases hp : s.pending with
  | nil =>
    rw [step_nil hp] at hs
    cases hs
    exact idle s h
  | cons c rest =>
    rw [step_cons hp] at hs
    exact command c _ t (queue s rest h) hs

theorem live_of_reset {f : State → State} {s : State} (h : s.inReset = true) : live f s = .next s := by simp [live, h]

theorem live_of_live {f : State → State} {s : State} (h : s.inReset = false) : live f s = .next (f s) := by simp [live, h]

/-- A law that an event's effect keeps is kept by the event. -/
theorem live_keeps {P : State → Prop} {f : State → State} {s t : State} (h : P s) (hf : P (f s))
    (hs : live f s = .next t) : P t := by
  unfold live at hs
  cases hs
  split
  · exact h
  · exact hf

/-- Every command answers a next state. -/
theorem exec_answers (c : Instr) (s : State) : ∃ t, exec c s = .next t := by cases c <;> exact ⟨_, rfl⟩

/-! ### Runs of symbol times (R139, R140) -/

theorem acquire_run (n : Nat) (run : List SymbolTime) (h : ∀ x ∈ run, validTime x = true) (hn : n + run.length < 1024) :
    acquire n run = some (n + run.length) := by
  have limit : Config.acquisitionLimit = 1024 := rfl
  induction run generalizing n with
  | nil => rfl
  | cons a l ih =>
    simp only [List.length_cons] at hn
    simp only [acquire, h a (by simp), if_true]
    rw [if_neg (by omega), ih _ (fun x hx => h x (by simp [hx])) (by omega)]
    congr 1
    simp only [List.length_cons]
    omega

theorem acquire_limit (n : Nat) (run rest : List SymbolTime) (h : ∀ x ∈ run, validTime x = true) (hl : run ≠ [])
    (hn : n + run.length = 1024) : acquire n (run ++ rest) = none := by
  have limit : Config.acquisitionLimit = 1024 := rfl
  induction run generalizing n with
  | nil => exact absurd rfl hl
  | cons a l ih =>
    simp only [List.length_cons] at hn
    simp only [List.cons_append, acquire, h a (by simp), if_true]
    cases hl' : l with
    | nil =>
      subst hl'
      simp only [List.length_nil] at hn
      rw [if_pos (by omega)]
    | cons b r =>
      have hlen : l.length = r.length + 1 := by rw [hl']; rfl
      rw [if_neg (by omega), ← hl']
      exact ih _ (fun x hx => h x (by simp [hx])) (by rw [hl']; simp) (by omega)

theorem acquire_turn (n : Nat) (first run : List SymbolTime) (turn : SymbolTime) (hn : n + first.length < 1024)
    (ht : validTime turn = false) (h : ∀ x ∈ run, validTime x = true) (hl : run.length < 1024) :
    acquire n (first ++ turn :: run) = some run.length := by
  have limit : Config.acquisitionLimit = 1024 := rfl
  induction first generalizing n with
  | nil =>
    simp only [List.nil_append, acquire, ht]
    rw [acquire_run 0 run h (by omega)]
    simp
  | cons a f ih =>
    simp only [List.length_cons] at hn
    simp only [List.cons_append, acquire]
    split
    · rw [if_neg (by omega)]
      exact ih _ (by omega)
    · exact ih _ (by omega)

theorem silence_run (n : Nat) (run : List SymbolTime) (h : ∀ x ∈ run, validTime x = false) (hn : n + run.length < 256) :
    silence n run = some (n + run.length) := by
  have limit : Config.silenceLimit = 256 := rfl
  induction run generalizing n with
  | nil => rfl
  | cons a l ih =>
    simp only [List.length_cons] at hn
    simp only [silence, h a (by simp)]
    rw [if_neg (by simp), if_neg (by omega), ih _ (fun x hx => h x (by simp [hx])) (by omega)]
    congr 1
    simp only [List.length_cons]
    omega

theorem silence_limit (n : Nat) (run rest : List SymbolTime) (h : ∀ x ∈ run, validTime x = false) (hl : run ≠ [])
    (hn : n + run.length = 256) : silence n (run ++ rest) = none := by
  have limit : Config.silenceLimit = 256 := rfl
  induction run generalizing n with
  | nil => exact absurd rfl hl
  | cons a l ih =>
    simp only [List.length_cons] at hn
    simp only [List.cons_append, silence, h a (by simp)]
    rw [if_neg (by simp)]
    cases hl' : l with
    | nil =>
      subst hl'
      simp only [List.length_nil] at hn
      rw [if_pos (by omega)]
    | cons b r =>
      have hlen : l.length = r.length + 1 := by rw [hl']; rfl
      rw [if_neg (by omega), ← hl']
      exact ih _ (fun x hx => h x (by simp [hx])) (by rw [hl']; simp) (by omega)

theorem silence_turn (n : Nat) (first run : List SymbolTime) (turn : SymbolTime) (hn : n + first.length < 256)
    (ht : validTime turn = true) (h : ∀ x ∈ run, validTime x = false) (hl : run.length < 256) :
    silence n (first ++ turn :: run) = some run.length := by
  have limit : Config.silenceLimit = 256 := rfl
  induction first generalizing n with
  | nil =>
    simp only [List.nil_append, silence, ht, if_true]
    rw [silence_run 0 run h (by omega)]
    simp
  | cons a f ih =>
    simp only [List.length_cons] at hn
    simp only [List.cons_append, silence]
    split
    · exact ih _ (by omega)
    · rw [if_neg (by omega)]
      exact ih _ (by omega)

/-- The outstanding flags after the queued records have left: clear for the entries that had a SCAN record queued. -/
theorem clearQueuedFlags_scanRecord (s : State) (i : Nat) (hi : i < 32) :
    ((∃ c, ExRecord.scan c ∈ s.queue.all ∧ c.scanIndex = i) →
      s.clearQueuedFlags.scanRecord i = { s.scanRecord i with outstanding := false }) ∧
    ((∀ c, ExRecord.scan c ∈ s.queue.all → c.scanIndex ≠ i) → s.clearQueuedFlags.scanRecord i = s.scanRecord i) := by
  unfold State.clearQueuedFlags State.scanRecord
  generalize s.queue.all = l
  generalize s.scan.records = v
  dsimp only
  induction l generalizing v with
  | nil => exact ⟨fun ⟨c, hc, _⟩ => (by simp at hc), fun _ => rfl⟩
  | cons a l ih =>
    rw [List.foldl_cons]
    cases a with
    | controller r =>
      exact ⟨fun ⟨c, hc, e⟩ => (ih v).1 ⟨c, by simpa using hc, e⟩, fun h => (ih v).2 fun c hc => h c (by simp [hc])⟩
    | probe n =>
      exact ⟨fun ⟨c, hc, e⟩ => (ih v).1 ⟨c, by simpa using hc, e⟩, fun h => (ih v).2 fun c hc => h c (by simp [hc])⟩
    | scan r =>
      by_cases hr : r.scanIndex = i
      · subst hr
        refine ⟨fun _ => ?_, fun h => absurd rfl (h r (by simp))⟩
        by_cases hin : ∃ c, ExRecord.scan c ∈ l ∧ c.scanIndex = r.scanIndex
        · rw [(ih _).1 hin]; simp [vget_vset, hi]
        · rw [(ih _).2 fun c hc e => hin ⟨c, hc, e⟩]; simp [vget_vset, hi]
      · refine ⟨fun ⟨c, hc, e⟩ => ?_, fun h => ?_⟩
        · have hc' : ExRecord.scan c ∈ l := by
            rcases List.mem_cons.mp hc with hc | hc
            · cases hc
              exact absurd e hr
            · exact hc
          rw [(ih _).1 ⟨c, hc', e⟩]; simp [vget_vset, hr]
        · rw [(ih _).2 fun c hc => h c (by simp [hc])]; simp [vget_vset, hr]

end Sys2Proof.Machine
end

