-- ==== Sys2Proof/Laws/Symbols.lean ====
section
/-! SUPPORT. Link symbols, drop characters and check codes: what is written is read back, and one byte at a time; and what
DTX carries. -/

namespace Sys2Proof.Machine

set_option Elab.async false

/-! ### Link symbols (R191) -/

@[simp] theorem ofWord_word (y : LinkSymbol) : LinkSymbol.ofWord y.word = some y := by
  cases y with
  | data b =>
    have : ∀ b : Byte, LinkSymbol.ofWord (LinkSymbol.data b).word = some (.data b) := by decide +kernel
    exact this b
  | idle => decide
  | frameStart => decide
  | frameEnd => decide
  | hold => decide
  | go => decide

/-- Ten bits carry a symbol exactly when they are that symbol's own. -/
theorem ofWord_eq_some {w : BitVec 10} {y : LinkSymbol} : LinkSymbol.ofWord w = some y ↔ w = y.word := by
  constructor
  · have : ∀ w : BitVec 10, ∀ z ∈ LinkSymbol.ofWord w, w = z.word := by decide +kernel
    intro h
    exact this w y (by rw [h]; rfl)
  · rintro rfl
    exact ofWord_word y

theorem validSymbol_iff {w : BitVec 10} : validSymbol w = true ↔ ∃ y : LinkSymbol, y.word = w := by
  rw [validSymbol, Option.isSome_iff_exists]
  exact exists_congr fun y => by rw [ofWord_eq_some, eq_comm]

@[simp] theorem oddParity_word (y : LinkSymbol) : oddParity y.word = true := by
  cases y with
  | data b =>
    have : ∀ b : Byte, oddParity (LinkSymbol.data b).word = true := by decide +kernel
    exact this b
  | idle => decide
  | frameStart => decide
  | frameEnd => decide
  | hold => decide
  | go => decide

@[simp] theorem frameSymbols_length (bytes : List Byte) : (frameSymbols bytes).length = bytes.length + 2 := by
  simp [frameSymbols]

@[simp] theorem frameData_frameSymbols (bytes : List Byte) : frameData (frameSymbols bytes) = bytes := by
  have : ∀ l : List Byte, frameData (l.map .data ++ [.frameEnd]) = l := by
    intro l
    induction l with
    | nil => rfl
    | cons a l ih => exact congrArg (a :: ·) ih
  exact this bytes

/-! ### Drop characters (R33) -/

@[simp] theorem bits_length (c : DropChar) : (DropChar.bits c).length = 11 := by simp [DropChar.bits]

@[simp] theorem ofBits_bits (c : DropChar) : DropChar.ofBits (DropChar.bits c) = some c := by
  obtain ⟨mark, data, framing⟩ := c
  have : ∀ b : Byte, List.foldr (fun (b : Bool) (a : Byte) => (a <<< 1) ||| (BitVec.ofBool b).setWidth 8) 0#8
      ((List.range 8).map b.getLsbD) = b := by decide +kernel
  show some ({ mark := mark, data := _, framing := !!framing } : DropChar) = _
  rw [Bool.not_not]
  exact congrArg (fun b => some ({ mark := mark, data := b, framing := framing } : DropChar)) (this data)

/-! ### DTX (R33, R191) -/

theorem dtx_mark {s : State} (h : s.ddeAsserted = false) : s.dtx = .mark := by simp [State.dtx, h]

theorem dtx_sends {s : State} {x : Exchange} (hd : s.ddeAsserted = true) (hx : s.dlc.inflight = some x) :
    s.dtx = .sends (x.request.flatMap DropChar.bits) := by simp [State.dtx, hd, hx]

/-! ### Check codes, one byte at a time (R186, R187) -/

theorem crc8_append (bytes : List Byte) (b : Byte) :
    crc8 (bytes ++ [b]) = Nat.repeat crc8Bit 8 (crc8 bytes ^^^ b) := by
  simp only [crc8, List.foldl_append, List.foldl_cons, List.foldl_nil]
  rfl

theorem crc16_append (bytes : List Byte) (b : Byte) :
    crc16 (bytes ++ [b]) = Nat.repeat crc16Bit 8 (crc16 bytes ^^^ ((b.setWidth 16) <<< 8)) := by
  simp only [crc16, List.foldl_append, List.foldl_cons, List.foldl_nil]
  rfl

end Sys2Proof.Machine
end

