-- ==== Sys2Proof/WellFormed.lean ====
section
/-! DEFINITION. Which commands an environment that keeps to the manual can send. `exec` answers every command; these
checks say which operand values the manual's environment can produce. -/

namespace Sys2Proof

/-- The idle symbol: control flag 1, value 00h, odd parity (R191). -/
def idleSymbol : BitVec 10 := 0b1000000000#10

/-- In the symbol times of a LINK_DOWN a symbol other than idle is an invalid one: frames, HOLD and GO have commands of
their own. The odd-parity symbols are the valid ones, but for control values above 04h (R191). -/
def SymbolTime.quiet : SymbolTime → Bool
  | .silent => true
  | .symbol w =>
    w == idleSymbol ||
      !((List.range 10).foldl (fun a i => a ^^ w.getLsbD i) false) ||
      (w.getLsbD 9 && decide (4 < (w.extractLsb' 1 8).toNat))

/-- The checks on a command's operands. -/
def Instr.wellFormed : Instr → Bool
  | .linkDown _ times => times.all SymbolTime.quiet
  | .lineContention k _ => decide (k < 37)
  | .uFrameArrival _ _ | .dFrameArrival _ _ | .enumerate _ _ | .linkUp _ _ | .hold _ | .go _
  | .frameStartInReception _ _ | .hardReset _ | .resetNRise | .tick | .expiry | .revivalPoint | .scanDue
  | .chainEndAck | .mergeGrant | .uTxFrameEnd | .otqSendStart | .otqSendEnd | .noticePlace | .requestAdmission
  | .badCommand | .readStatus | .getParam | .setParam | .clearFaults | .readCounters | .tableWrite | .tableRead
  | .shadowLoad | .commit | .commitReject | .swap | .cancel | .flush | .nodeReset | .nodeRead | .lineHalt
  | .lineRun | .softReset | .selection | .readBackComplete | .lineFault | .responseStart _ _ | .noResponse
  | .responseCharacter _ | .responseEnd | .guardEnd | .strayCharacter _ | .resetCharacterFinished => true

end Sys2Proof
end

