-- ==== Sys2Proof/Tests/Slice0.lean ====
section
/-! SUPPORT. The checks of the model: ill-formed commands refused, small steps with values taken from the manual, and for
every statement a concrete state and operands that meet its hypotheses. -/

namespace Sys2Proof.Tests

open Sys2Proof Sys2Proof.Machine

set_option Elab.async false

/-! ### Small states -/

/-- The state after a command; the state before when it ends in a stop. -/
def ran (c : Instr) (s : State) : State :=
  match exec c s with
  | .next t => t
  | .fault _ => s
  | .refused _ => s

/-- A bridge at position 3 with both links UP. -/
def up : State :=
  { State.reset with position := 3, portU := { State.reset.portU with link := .up }, portD := { State.reset.portD with link := .up } }

/-- An addressed CONTROL. -/
def ctl (code : Byte) (ops : List Byte) : Frame :=
  { kind := .control, cls := 1#2, position := 3#6, tag := 7#12, code := code, payload := ops }

/-- A broadcast CONTROL without a select range. -/
def bctl (code : Byte) (ops : List Byte) : Frame := { ctl code ops with position := 63#6 }

/-- A state whose Inbox holds this frame, with every slot FREE. -/
def withHead (s : State) (f : Frame) : State :=
  { s with inReset := false, inbox := [f], loq := Vector.replicate 64 .free }

/-- An image from its ten bytes. -/
def image (b0 b1 b2 b3 b4 b5 b6 b7 b8 b9 : Byte) : Image := ⟨#[b0, b1, b2, b3, b4, b5, b6, b7, b8, b9], rfl⟩

/-- A bank of one route entry and one scan entry. -/
def smallBank (r s : Image) : Bank :=
  { routes := vset State.reset.bank0.routes 0 r, scans := vset State.reset.bank0.scans 2 s }

/-- Route entry 0: node 5, base 0100h, span 16, index base 20h, READ_WRITE, no override, retry limit 1. -/
def route5 : Image := image 1#8 5#8 0x01#8 0x00#8 0#8 16#8 0x20#8 3#8 255#8 1#8

/-- Scan entry 2: node 9, first index 4, length 2, interval 3, phase 1, class 2, retry limit 1, ON_CHANGE. -/
def scan9 : Image := image 1#8 9#8 4#8 2#8 0#8 3#8 0#8 1#8 0x21#8 1#8

/-- A bridge with these tables in use. -/
def loaded : State := { up with bank0 := smallBank route5 scan9, epoch := 1#16 }

/-- A CONTROLLER record that holds slot 0. -/
def rec0 : CtlRecord :=
  { tag := 9#12, epoch := 1#16, cls := 1#2, node := 5, fn := .read 2, index := 0x20, logical := 0x100#16, retry := 1
    ageLimit := 5#8, arrival := 0#32, slot := some 0, cancelMark := false }

/-- That record queued, its slot RESERVED, its age at its limit. -/
def queued : State :=
  { loaded with
    queue := { State.reset.queue with c1 := [.controller rec0] }
    loq := vset State.reset.loq 0 (.reserved .exchange)
    timer := { State.reset.timer with count := 5#32 } }

/-- A SCAN record of entry 2. -/
def recScan : ScanRecord :=
  { scanIndex := 2, epoch := 1#16, cls := 2#2, node := 9, index := 4, count := 2, retry := 1, slot := none }

/-- A node record that says OFFLINE. -/
def offlineNode : NodeRecord := { state := .offline, sync := .needsSync, nextToggle := false, failures := 3, lastOutcome := none }

/-- The bridge with node `n` OFFLINE. -/
def withOffline (n : Nat) (s : State) : State := { s with nodes := vset s.nodes (n - 1) offlineNode }

/-- An exchange in flight for rec0: its MAIN step, one attempt sent. -/
def flying : Exchange :=
  { record := .controller rec0, hasSync := false, step := .main, mainSent := 1, toggle := false
    request := mainRequest (.controller rec0) false }

/-- That exchange in a state of the DLC. -/
def inState (d : DlcState) (x : Exchange) : State :=
  { loaded with
    loq := vset State.reset.loq 0 (.reserved .exchange)
    dlc := { State.reset.dlc with state := d, inflight := some x } }

/-- A valid response to flying's READ of two bytes from node 5: OK, echo 0. -/
def okResponse : List DropChar :=
  { mark := true, data := 0x85#8 } :: ([0x10#8, 2#8, 0xAA#8, 0xBB#8, crc8 [0x85#8, 0x10#8, 2#8, 0xAA#8, 0xBB#8]].map
    fun b => { mark := false, data := b })

/-- A READ of two bytes at 0102h, mapped by route5. -/
def read2 : Frame :=
  { kind := .request, cls := 3#2, position := 3#6, tag := 0x123#12, logical := 0x0102#16, code := 0x42#8, aux := 7#8
    payload := [] }

/-- An idle symbol time and an invalid one. -/
def idleTime : SymbolTime := .symbol idleSymbol
def badTime : SymbolTime := .symbol 0#10

/-! ### The checks on operands refuse ill-formed commands -/

theorem test_linkDown_refuses_a_data_symbol : (Instr.linkDown .u [.symbol 0b0000000001#10]).wellFormed = false := by
  decide +kernel
theorem test_linkDown_refuses_a_hold : (Instr.linkDown .d [.silent, .symbol 0b1000000110#10]).wellFormed = false := by
  decide +kernel
theorem test_linkDown_accepts_idle_and_errors : (Instr.linkDown .u [idleTime, .silent, badTime]).wellFormed = true := by
  decide +kernel
theorem test_lineContention_refuses_a_38th_character :
    (Instr.lineContention 37 { mark := false, data := 0#8 }).wellFormed = false := by decide
theorem test_lineContention_accepts_the_37th :
    (Instr.lineContention 36 { mark := false, data := 0#8 }).wellFormed = true := by decide

/-! ### Formats -/

theorem test_crc16_check_value :
    crc16 [0x31#8, 0x32#8, 0x33#8, 0x34#8, 0x35#8, 0x36#8, 0x37#8, 0x38#8, 0x39#8] = 0x29B1#16 := by decide +kernel
theorem test_crc8_check_value :
    crc8 [0x31#8, 0x32#8, 0x33#8, 0x34#8, 0x35#8, 0x36#8, 0x37#8, 0x38#8, 0x39#8] = 0xF4#8 := by decide +kernel
/-- The PROBE's SYNC to node 17 (R187): 11h marked, 30h, 00h, 00h, and the CRC-8 of those four. -/
theorem test_sync_request : syncRequest 17 =
    { mark := true, data := 0x11#8 } :: ([0x30#8, 0#8, 0#8, crc8 [0x11#8, 0x30#8, 0#8, 0#8]].map
      fun b => { mark := false, data := b }) := by decide +kernel
/-- The bytes of a READ request for position 5, tag 123h, logical 0456h, count 4, age limit 7 (R185). -/
theorem test_request_bytes :
    (encodeFrame {
      kind := .request, cls := 2#2, position := 5#6, tag := 0x123#12, logical := 0x0456#16, code := 0x44#8
      aux := 7#8, payload := [] }).take 8 = [0x18#8, 0x14#8, 0x48#8, 0xC0#8, 0x04#8, 0x56#8, 0x44#8, 0x07#8] := by
  decide +kernel
theorem test_frame_reads_back : parseFrame (encodeFrame (ctl 0x03#8 [9#8, 0#8, 1#8])) = some (ctl 0x03#8 [9#8, 0#8, 1#8]) := by
  decide +kernel
/-- Symbols from the rule's own words (R191): flag, value, and a parity bit that makes the ones odd. -/
theorem test_symbol_words : (LinkSymbol.data 0x53#8).word = 0b0010100111#10 ∧ LinkSymbol.idle.word = idleSymbol ∧
    LinkSymbol.frameStart.word = 0b1000000011#10 ∧ LinkSymbol.frameEnd.word = 0b1000000101#10 ∧
    LinkSymbol.hold.word = 0b1000000110#10 ∧ LinkSymbol.go.word = 0b1000001001#10 ∧
    LinkSymbol.ofWord 0b1000001010#10 = none ∧ LinkSymbol.ofWord 0b0010100110#10 = none := by decide +kernel
theorem test_symbols_of_a_frame : frameSymbols [1#8, 2#8] = [.frameStart, .data 1#8, .data 2#8, .frameEnd] ∧
    frameData [.frameStart, .data 1#8, .hold, .data 2#8, .go, .frameEnd] = [1#8, 2#8] := by decide
/-- The 11 bits of an address character (R33): start, 85h least significant bit first, mark, stop. -/
theorem test_character_bits : DropChar.bits { mark := true, data := 0x85#8 } =
    [false, true, false, true, false, false, false, false, true, true, true] ∧
    DropChar.ofBits [false, true, false, true, false, false, false, false, true, true, false] =
      some { mark := true, data := 0x85#8, framing := true } := by decide +kernel
theorem test_dtx_follows_dde : up.dtx = .mark ∧ (inState .await flying).dtx = .mark ∧
    (inState .transmit flying).dtx = .sends (flying.request.flatMap DropChar.bits) ∧
    ({ up with dlc := { up.dlc with state := .transmit, stopping := true } } : State).dtx = .finishing := by decide +kernel
theorem test_symbols_out : up.symbolsOut .u = [.idle] ∧
    ({ up with dTx := some read2 } : State).symbolsOut .d = frameSymbols (encodeFrame read2) ∧
    (ran (.hardReset .powerOn) up).symbolsOut .d = [] := by decide +kernel
theorem test_no_word_spells_a_command : decodeTableWord 8 0x12 = none := rfl

/-! ### The commands: one small step each, values from the manual -/

theorem test_hardReset : (ran (.hardReset .powerOn) queued).inReset = true ∧ (ran (.hardReset .powerOn) queued).position = 0 := by
  decide +kernel
theorem test_resetNRise : ran .resetNRise (ran (.hardReset (.resetN 1000)) State.reset) = State.reset := by rfl
theorem test_tick : (ran .tick loaded).timer.count = 1#32 ∧ (ran .tick loaded).timer.period = 10 := by decide +kernel
theorem test_expiry_writes_EXPIRED : (ran .expiry queued).slot 0 =
    .filled {
      kind := .reply, cls := 1#2, position := 0#6, tag := 9#12, logical := 0x100#16, code := 0x0F#8, aux := 1#8
      payload := [] } 0 := by decide +kernel
theorem test_expiry_empties_and_counts :
    (ran .expiry queued).queue.size = 0 ∧ (ran .expiry queued).counter .expired = 1#16 := by decide +kernel
theorem test_revivalPoint : (ran .revivalPoint
    { withOffline 7 loaded with scan := { loaded.scan with revivalOwed := true } }).queue.c3 = [.probe 7] := by
  decide +kernel
theorem test_scanDue : (ran .scanDue { loaded with scan := { loaded.scan with duesOwed := [2] } }).queue.c2 =
    [.scan recScan] := by decide +kernel
theorem test_scanDue_offline : ((ran .scanDue
    (withOffline 9 { loaded with scan := { loaded.scan with duesOwed := [2] } })).slot 0).isFilled = true := by
  decide +kernel
theorem test_linkUp : (ran (.linkUp .u [idleTime])
    { State.reset with portU := { State.reset.portU with acquisition := 1023 } }).portU.link = .up := by decide +kernel
theorem test_linkDown : (ran (.linkDown .u [.silent])
    { queued with portU := { queued.portU with silence := 255 } }).queue.size = 0 := by decide +kernel
theorem test_hold : (ran (.hold .d) up).portD.held = true := by decide +kernel
theorem test_go : (ran (.go .d) (ran (.hold .d) up)).portD.held = false := by decide +kernel
theorem test_uFrameArrival : (ran (.uFrameArrival (encodeFrame (ctl 0x01#8 [])) false) up).inbox = [ctl 0x01#8 []] := by
  decide +kernel
theorem test_uFrameArrival_bad :
    (ran (.uFrameArrival [1#8, 2#8] false) up).alertAsserted = true ∧ (ran (.uFrameArrival [1#8, 2#8] false) up).guarded = true := by
  decide +kernel
/-- R156 and the worked example of chapter 8: count 2 makes bridge C position 3, and its chain-end answer says 3. -/
theorem test_enumerate : (ran (.enumerate { cls := 0#2, position := 0#6, tag := 7#12 } 2#8)
    { up with position := 0, portD := State.reset.portD }).position = 3 ∧
    (ran (.enumerate { cls := 0#2, position := 0#6, tag := 7#12 } 2#8)
      { up with position := 0, portD := State.reset.portD }).chainEnd = some { tag := 7#12, cls := 0#2, count := 3#8 } := by
  decide +kernel
theorem test_dFrameArrival : (ran (.dFrameArrival
    (encodeFrame (ackFrame 0#2 7#12 0x20#8 .chainEnd [3#8])) false) up).htq = [ackFrame 0#2 7#12 0x20#8 .chainEnd [3#8]] := by
  decide +kernel
theorem test_chainEndAck : (ran .chainEndAck { up with chainEnd := some { tag := 7#12, cls := 0#2, count := 3#8 } }).slot 0 =
    .filled (ackFrame 0#2 7#12 0x20#8 .chainEnd [3#8]) 0 := by decide +kernel
theorem test_mergeGrant : ((ran .mergeGrant (ran .expiry queued)).uTx.map fun t => t.frame.position) = some 3#6 := by
  decide +kernel
theorem test_uTxFrameEnd : (ran .uTxFrameEnd (ran .mergeGrant (ran .expiry queued))).freeCount = 64 := by decide +kernel
theorem test_otqSendStart : (ran .otqSendStart { up with otq := [ctl 1#8 []] }).dTx = some (ctl 1#8 []) := by decide +kernel
theorem test_otqSendEnd : (ran .otqSendEnd { up with otq := [ctl 1#8 []], dTx := some (ctl 1#8 []) }).otq = [] := by
  decide +kernel
theorem test_noticePlace : (ran .noticePlace { up with notice := { up.notice with linkU := some .up } }).slot 0 =
    .filled { kind := .notice, cls := 0#2, position := 0#6, tag := 0#12, payload := [0x40#8, 1#8] } 0 := by decide +kernel
theorem test_requestAdmission : (ran .requestAdmission (withHead loaded read2)).queue.c3 =
    [.controller {
      tag := 0x123#12, epoch := 1#16, cls := 3#2, node := 5, fn := .read 2, index := 0x22, logical := 0x0102#16, retry := 1
      ageLimit := 7#8, arrival := 0#32, slot := some 0, cancelMark := false }] := by decide +kernel
theorem test_requestAdmission_refused : (ran .requestAdmission (withHead up read2)).slot 0 =
    .filled {
      kind := .reply, cls := 3#2, position := 0#6, tag := 0x123#12, logical := 0x0102#16, code := 0x09#8, aux := 0#8
      payload := [] } 0 := by decide +kernel
/-- What an addressed CONTROL is answered: result code and payload. -/
def answer (c : Instr) (s : State) : Option (Byte × List Byte) :=
  match (ran c s).slot 0 with
  | .filled f _ => some (f.aux, f.payload)
  | .free | .reserved _ => none
theorem test_badCommand : answer .badCommand (withHead up (ctl 0x33#8 [1#8])) = some (0x01#8, []) := by decide +kernel
theorem test_readStatus : answer .readStatus (withHead loaded (ctl 0x01#8 [])) = some (0x00#8,
    [0x83#8, 0#8, 0#8, 0#8, 0#8, 0#8, 0#8, 0#8, 63#8, 0x0C#8, 0#8, 1#8, 31#8, 0#8, 0#8, 0#8, 0x0C#8, 0x5A#8, 1#8]) := by
  decide +kernel
theorem test_getParam : answer .getParam (withHead up (ctl 0x02#8 [7#8])) =
    some (0x00#8, [7#8, 0x03#8, 0xE8#8, 0#8, 0#8, 0#8]) := by decide +kernel
theorem test_setParam : (ran .setParam (withHead up (ctl 0x03#8 [9#8, 0#8, 1#8]))).params.scanEnable = 1 := by decide +kernel
theorem test_setParam_bad_value : answer .setParam (withHead up (ctl 0x03#8 [9#8, 0#8, 2#8])) = some (0x03#8, [9#8]) := by
  decide +kernel
/-- A busy DLC keeps a setting that is written with the value it already holds (R169). -/
theorem test_setParam_held_value :
    paramPending (ran .setParam (withHead (inState .await flying) (ctl 0x03#8 [4#8, 0#8, 2#8]))).dlc.pend 4 = none ∧
    paramPending (ran .setParam (withHead (inState .await flying) (ctl 0x03#8 [4#8, 0#8, 3#8]))).dlc.pend 4 = some 3 := by
  decide +kernel
/-- A CONTROL that finds exactly 4 FREE slots and the due of entry 2, whose node is OFFLINE, owed. -/
def dueOwed (f : Frame) : State :=
  { withOffline 9 loaded with
    inbox := [f], scan := { loaded.scan with duesOwed := [2] }
    loq := Vector.ofFn fun i : Fin 64 => if i.val < 60 then .reserved .exchange else .free }
/-- The due falls before the command claims its slot: it is reported and not missed (R113, R181). -/
theorem test_owed_due_before_softReset :
    (ran .softReset (dueOwed (ctl 0x10#8 [1#8]))).counter .scanOverruns = 0#16 ∧
    ((ran .softReset (dueOwed (ctl 0x10#8 [1#8]))).scanRecord 2).lastOutcome = some .nodeOffline := by decide +kernel
theorem test_owed_due_before_scanEnable :
    (ran .setParam (dueOwed (ctl 0x03#8 [9#8, 0#8, 1#8]))).counter .scanOverruns = 0#16 ∧
    ((ran .setParam (dueOwed (ctl 0x03#8 [9#8, 0#8, 1#8]))).slot 60).isFilled = true ∧
    ((ran .setParam (dueOwed (ctl 0x03#8 [9#8, 0#8, 1#8]))).slot 61).isFilled = true := by decide +kernel
theorem test_clearFaults : answer .clearFaults (withHead { up with faults := 0x13#6 } (ctl 0x04#8 [0x11#8])) =
    some (0x00#8, [0x02#8]) := by decide +kernel
theorem test_readCounters : (answer .readCounters (withHead (up.bump .exchOk) (ctl 0x05#8 []))).map
    (fun x => (x.2.length, x.2.getD 11 0#8)) = some (28, 1#8) := by decide +kernel
theorem test_tableWrite : (ran .tableWrite (withHead up
    (ctl 0x06#8 [1#8, 3#8, 1#8, 5#8, 1#8, 0#8, 0#8, 16#8, 0x20#8, 3#8, 255#8, 1#8]))).bank1.image .route 3 = route5 := by
  decide +kernel
theorem test_tableRead : answer .tableRead (withHead loaded (ctl 0x07#8 [2#8, 0#8, 2#8])) =
    some (0x00#8, [2#8, 0#8, 0#8, 2#8, 1#8, 9#8, 4#8, 2#8, 0#8, 3#8, 0#8, 1#8, 0x21#8, 1#8]) := by decide +kernel
theorem test_shadowLoad : (ran .shadowLoad (withHead loaded (ctl 0x08#8 []))).bank1.image .route 0 = route5 := by
  decide +kernel
theorem test_commit : ((ran .commit (withHead loaded (ctl 0x09#8 []))).commit.bind PendingCommit.slot) = some 0 := by
  decide +kernel
/-- A pending commit at the end of its sweep. -/
def sweeping : State :=
  { loaded with
    loq := vset State.reset.loq 0 (.reserved .commit)
    commit := some {
      tag := 7#12, cls := 1#2, addressed := true, slot := some 0, cursor := { table := .scan, index := 31 } } }
/-- Its shadow bank's scan entry 31 names node 0, which R120 does not allow. -/
def failing : State :=
  { sweeping with bank1 := { State.reset.bank1 with
      scans := vset State.reset.bank1.scans 31 (image 1#8 0#8 0#8 1#8 0#8 1#8 0#8 0#8 0x10#8 0#8) } }
theorem test_commitReject : answer .commitReject failing = some (0x06#8, [2#8, 31#8, 6#8]) := by decide +kernel
theorem test_swap : answer .swap sweeping = some (0x00#8, [0#8, 2#8, 1#8]) ∧ (ran .swap sweeping).activeBank = .bank1 := by
  decide +kernel
theorem test_swap_epoch_wraps : nextEpoch 65535#16 = 1#16 := by decide
theorem test_cancel : answer .cancel (withHead { queued with queue := {} } (ctl 0x0A#8 [0#8, 9#8])) =
    some (0x07#8, [0#8, 9#8]) := by decide +kernel
theorem test_flush : answer .flush (withHead { loaded with queue := { State.reset.queue with
    c2 := [.controller { rec0 with cls := 2#2, slot := some 5 }] } } (ctl 0x0B#8 [0x04#8])) = some (0x00#8, [1#8]) := by
  decide +kernel
theorem test_nodeReset : ((ran .nodeReset (withHead (withOffline 7 up) (ctl 0x0C#8 [7#8]))).node 7).state = .unknown := by
  decide +kernel
theorem test_nodeRead : answer .nodeRead (withHead (withOffline 7 up) (ctl 0x0D#8 [7#8])) =
    some (0x00#8, [7#8, 0xE3#8, 0#8]) := by decide +kernel
theorem test_lineHalt : (ran .lineHalt (withHead up (ctl 0x0E#8 []))).dlc.state = .halted := by decide +kernel
theorem test_lineRun : (ran .lineRun (withHead (inState .halted flying) (ctl 0x0F#8 []))).dlc.state = .idle := by
  decide +kernel
theorem test_softReset_queues : answer .softReset (withHead queued (ctl 0x10#8 [1#8])) = some (0x00#8, [1#8]) ∧
    (ran .softReset (withHead queued (ctl 0x10#8 [1#8]))).epoch = 1#16 := by decide +kernel
theorem test_softReset_full : (ran .softReset (withHead queued (ctl 0x10#8 [2#8]))).epoch = 0#16 := by decide +kernel
theorem test_selection : (ran .selection queued).ddeAsserted = true ∧
    ((ran .selection queued).dlc.inflight.map Exchange.request) = some (syncRequest 5) := by decide +kernel
theorem test_readBackComplete : (ran .readBackComplete (inState .transmit flying)).dlc.state = .await ∧
    (ran .readBackComplete (inState .transmit flying)).dlc.interval = 20 := by decide +kernel
theorem test_lineContention : (ran (.lineContention 0 { mark := false, data := 5#8 })
    (inState .transmit flying)).dlc.state = .guard ∧ (ran (.lineContention 0 { mark := false, data := 5#8 })
    (inState .transmit flying)).counter .contention = 1#16 := by decide +kernel
theorem test_lineFault : (ran .lineFault (inState .transmit flying)).dlc.state = .halted ∧
    answer .lineFault (inState .transmit flying) = some (1#8, []) := by decide +kernel
theorem test_responseStart : (ran (.responseStart 0x85#8 false) (inState .await flying)).dlc.state = .receive := by
  decide +kernel
theorem test_noResponse : (ran .noResponse (inState .await flying)).dlc.state = .guard ∧
    (ran .noResponse (inState .await flying)).dlc.inflight.isSome = true := by decide +kernel
theorem test_responseCharacter : ((ran (.responseCharacter { mark := false, data := 0x10#8 })
    (inState .receive { flying with response := [{ mark := true, data := 0x85#8 }] })).dlc.inflight.map
      fun x => x.response.length) = some 2 := by decide +kernel
/-- A READ answered OK: its REPLY carries the data, outcome OK and one attempt (R51). -/
theorem test_responseEnd : (ran .responseEnd (inState .receive { flying with response := okResponse })).slot 0 =
    .filled {
      kind := .reply, cls := 1#2, position := 0#6, tag := 9#12, logical := 0x100#16, code := 0x21#8, aux := 1#8
      payload := [0xAA#8, 0xBB#8] } 0 := by decide +kernel
theorem test_guardEnd : (ran .guardEnd (inState .guard { flying with lastOutcome := some .noResponse })).dlc.state =
    .transmit ∧ (ran .guardEnd (inState .guard { flying with lastOutcome := some .noResponse })).counter .retries = 1#16 := by
  decide +kernel
theorem test_strayCharacter : (ran (.strayCharacter { mark := false, data := 1#8 }) up).faults = 0x10#6 := by decide +kernel
theorem test_frameStartInReception : (ran (.frameStartInReception .d [1#8])
    { up with portD := { up.portD with rx := some { bytes := [2#8], invalid := false } } }).counter .chainCheckD = 1#16 := by
  decide +kernel
theorem test_resetCharacterFinished : (ran .resetCharacterFinished
    { up with dlc := { up.dlc with state := .transmit, stopping := true } }).dlc.state = .guard := by decide +kernel

/-! ### Every statement's hypotheses are met: one theorem for each statement, with a case for each of its clauses -/

/-- Any state takes a CONTROL of any command and operands at its Inbox head, addressed or broadcast. -/
theorem witness_head (x : State) (f : Frame) : (withHead x f).Head f [] 0 := ⟨rfl, rfl, by
  have : (withHead x f).lowestFree = (withHead up read2).lowestFree := lowestFree_congr rfl
  rw [this]; decide +kernel⟩
theorem witness_addressed (x : State) (c : Command) (ops : List Byte) :
    (withHead x (ctl c.code ops)).HeadCommand c ops (ctl c.code ops) [] 0 ∧ (ctl c.code ops).position ≠ 63#6 :=
  ⟨⟨witness_head x _, rfl, rfl, rfl⟩, by show (3#6 : BitVec 6) ≠ 63#6; decide⟩
theorem witness_broadcast (x : State) (c : Command) (ops : List Byte) :
    (withHead x (bctl c.code ops)).HeadCommand c ops (bctl c.code ops) [] 0 ∧ (bctl c.code ops).position = 63#6 :=
  ⟨⟨witness_head x _, rfl, rfl, rfl⟩, rfl⟩

theorem witness_StepRunsTheFrontCommand : ({ up with pending := [.tick] } : State).pending = .tick :: [] := rfl
theorem witness_EmptyQueueMovesOnlyTheSweepCursor :
    up.pending = [] ∧ up.commit = none ∧ sweeping.pending = [] ∧ sweeping.commit ≠ none := by decide +kernel
theorem witness_HardResetHoldsUntilTheRise :
    (∀ ns, ResetCause.powerOn = .resetN ns → 1000 ≤ ns) ∧ (∀ ns, ResetCause.resetN 1000 = .resetN ns → 1000 ≤ ns) ∧
    999 < 1000 ∧ (ran (.hardReset .powerOn) up).inReset = true ∧ up.inReset = false ∧
    (∀ cause, Instr.tick ≠ .hardReset cause) ∧ Instr.tick ≠ .resetNRise := by
  refine ⟨nofun, fun ns h => ?_, by decide, rfl, rfl, nofun, nofun⟩
  cases h; exact Nat.le_refl _
theorem witness_HardResetEmptiesTheExchangeQueue : ∀ ns, ResetCause.resetN 1000 = .resetN ns → 1000 ≤ ns :=
  witness_HardResetHoldsUntilTheRise.2.1
theorem witness_TickCountsAndTakesOneScanStep :
    loaded.inReset = false ∧ ({ loaded.params with reviveInterval := 0 } : Params).reviveInterval = 0 ∧
    loaded.params.reviveInterval ≤ ({ loaded.scan with reviveCount := 999 } : ScanEngine).reviveCount + 1 ∧
    ({ loaded.scan with reviveCount := 998 } : ScanEngine).reviveCount + 1 < loaded.params.reviveInterval ∧
    ¬(loaded.params.scanEnable = 1 ∧ loaded.portU.link = .up) ∧
    ({ loaded.params with scanEnable := 1 } : Params).scanEnable = 1 ∧ loaded.portU.link = .up ∧
    loaded.scan.revivalOwed = false ∧ loaded.scan.duesOwed = [] ∧ queued.queue.all = [.controller rec0] ∧
    (4#32 - rec0.arrival).toNat < rec0.ageLimit.toNat ∧ { rec0 with ageLimit := 0#8 }.ageLimit = 0#8 := by decide +kernel

theorem queued_slotLaw : queued.SlotLaw :=
  ⟨by decide +kernel, by decide +kernel, by decide +kernel, by decide +kernel, nofun, by decide +kernel,
   by decide +kernel, nofun, by decide +kernel, by decide +kernel⟩
theorem witness_ExpiryAnswersEveryExpiredRecord : queued.inReset = false ∧ queued.SlotLaw ∧
    (∀ r : ExRecord, r.isExpired 5#32 = true ↔ ∃ c, r = .controller c ∧ 0 < c.ageLimit.toNat ∧
      c.ageLimit.toNat ≤ (queued.timer.count - c.arrival).toNat) ∧
    queued.queue.all.filter (ExRecord.isExpired 5#32) = [.controller rec0] ∧ rec0.slot = some 0 ∧
    (∀ r ∈ [ExRecord.controller rec0], r.slot ≠ some 1) := by
  refine ⟨rfl, queued_slotLaw, fun r => ?_, by decide +kernel, rfl, by decide⟩
  cases r with
  | controller c =>
    have : c.ageLimit ≠ 0#8 ↔ 0 < c.ageLimit.toNat := by
      rw [Nat.pos_iff_ne_zero]
      exact not_congr ⟨fun h => by rw [h]; rfl, fun h => BitVec.eq_of_toNat_eq (by simpa using h)⟩
    simp [ExRecord.isExpired, this, queued]
  | scan c => simp [ExRecord.isExpired]
  | probe n => simp [ExRecord.isExpired]

theorem witness_RevivalPointProbesTheNextOfflineNode :
    up.inReset = false ∧ up.scan.revivalOwed = false ∧
    ({ up.scan with revivalOwed := true } : ScanEngine).revivalOwed = true ∧
    (∀ m ∈ List.range' 1 31, (up.node m).state ≠ .offline) ∧
    ({ up with queue := { up.queue with c3 := [.probe 4] } } : State).probeOutstanding = true ∧
    up.probeOutstanding = false ∧ ((withOffline 31 up).node 31).state = .offline ∧
    (∀ m ∈ List.range' 1 31, ((withOffline 31 up).node m).state = .offline →
      (if up.scan.reviveCursor < 31 then 31 else 31 + 31) ≤ (if up.scan.reviveCursor < m then m else m + 31)) ∧
    up.params.classReserve < 48 - up.queue.size ∧
    48 - ({ up.queue with c0 := List.replicate 44 (.scan recScan) } : ExchangeQueue).size ≤ up.params.classReserve := by
  decide +kernel
theorem witness_ScanDueIsMissedOrInserted :
    loaded.inReset = false ∧ loaded.scan.duesOwed = [] ∧
    ({ loaded.scan with duesOwed := [2] } : ScanEngine).duesOwed = 2 :: [] ∧
    vget loaded.active.scans 2 Image.zero = scan9 ∧ scan9.scanClass % 4 = 2 ∧
    (ran .scanDue { loaded with scan := { loaded.scan with duesOwed := [2] } } |>.scanRecord 2).outstanding = true ∧
    (loaded.scanRecord 2).outstanding = false ∧ loaded.nodeOffline scan9.scanNode = false ∧
    loaded.params.classReserve < 48 - loaded.queue.size ∧
    ¬(loaded.params.classReserve < 48 - ({ up.queue with c0 := List.replicate 44 (.scan recScan) } : ExchangeQueue).size) := by
  decide +kernel
theorem witness_OfflineDueIsReportedOrMissed :
    (withOffline 9 loaded).inReset = false ∧ (withOffline 9 loaded).nodeOffline scan9.scanNode = true ∧
    ((withOffline 9 loaded).scanRecord 2).outstanding = false ∧ scan9.scanMode = 1 ∧
    ((withOffline 9 loaded).scanRecord 2).lastOutcome ≠ some .nodeOffline ∧
    ({ outstanding := false, lastOutcome := some .nodeOffline } : ScanState).lastOutcome = some .nodeOffline ∧
    4 ≤ (withOffline 9 loaded).freeCount ∧ (withOffline 9 loaded).lowestFree = some 0 ∧
    ({ loaded with loq := Vector.replicate 64 (.reserved .commit) } : State).freeCount < 4 := by decide +kernel

theorem witness_LinksCountSymbolTimes :
    up.inReset = false ∧ (up.port .u).link = .up ∧ (State.reset.port .d).link = .down ∧
    (∀ x ∈ [idleTime], validTime x = true) ∧ 1022 + [idleTime].length < 1024 ∧ validTime badTime = false ∧
    (∀ x ∈ [badTime, .silent], validTime x = false) ∧ 253 + [badTime, .silent].length < 256 ∧
    validTime idleTime = true := by decide +kernel
theorem witness_LinkEntersUpAtTheLimit :
    State.reset.inReset = false ∧ (∀ x ∈ [idleTime], validTime x = true) ∧ State.reset.portU.link = .down ∧
    State.reset.portD.link = .down ∧ 1023 + [idleTime].length = 1024 ∧ [idleTime] ≠ [] := by decide +kernel
theorem witness_UplinkLossReachesEveryBlock :
    queued.inReset = false ∧ queued.portU.link = .up ∧ (∀ x ∈ [SymbolTime.silent], validTime x = false) ∧
    255 + [SymbolTime.silent].length = 256 ∧ [SymbolTime.silent] ≠ [] ∧ queued.settleDues.commit = none ∧
    sweeping.settleDues.commit ≠ none ∧ queued.settleDues.dlc.inflight = none ∧
    (inState .await flying).settleDues.dlc.inflight = some flying ∧
    (∃ c, .scan c ∈ (ran .scanDue { loaded with scan := { loaded.scan with duesOwed := [2] } }).queue.all ∧ c.scanIndex = 2) ∧
    (∀ c, .scan c ∉ queued.queue.all) := by
  refine ⟨rfl, rfl, by decide +kernel, by decide, by decide, by decide +kernel, by decide +kernel, by decide +kernel,
    by decide +kernel, ⟨recScan, by decide +kernel, rfl⟩, fun c h => ?_⟩
  simp [queued, State.reset, ExchangeQueue.all] at h
theorem witness_DownlinkLossDiscardsTheOtq :
    up.inReset = false ∧ up.portD.link = .up ∧ (∀ x ∈ [badTime], validTime x = false) ∧
    255 + [badTime].length = 256 ∧ [badTime] ≠ [] ∧
    [ctl 1#8 [], bctl 4#8 [0#8]].filter (fun f => (f.kind = .request ∨ f.kind = .control) ∧ f.position ≠ 63#6) =
      [ctl 1#8 []] ∧
    [bctl 4#8 [0#8]].filter (fun f => (f.kind = .request ∨ f.kind = .control) ∧ f.position ≠ 63#6) = [] ∧
    [ctl 1#8 []].getLast? = some (ctl 1#8 []) := by decide +kernel
theorem witness_HoldAndGoFollowFlowControl :
    up.inReset = false ∧ (up.port .u).link = .up ∧ (State.reset.port .d).link = .down ∧
    3 ≤ [ctl 1#8 [], ctl 1#8 [], ctl 1#8 []].length ∧ up.portU.holdSent = false ∧ up.otq.length ≤ 1 ∧
    up.inbox.length ≤ 1 ∧ (ran (.linkUp .u [idleTime]) { up with
      otq := [ctl 1#8 [], ctl 1#8 [], ctl 1#8 []]
      portU := { State.reset.portU with acquisition := 1023 } }).portU.holdSent = true ∧
    7 ≤ (List.replicate 7 read2).length ∧ (List.replicate 5 read2).length ≤ 5 ∧ (List.replicate 6 read2).length < 7 ∧
    5 < (List.replicate 6 read2).length := by decide +kernel
theorem witness_FrameCheckAcceptsExactlyTheGoodFrames :
    ∀ w, crc16Bit w = if w.getLsbD 15 then (w <<< 1) ^^^ 0x1021#16 else w <<< 1 := fun _ => rfl
theorem witness_CheckErrorsAreCountedAndLatched :
    up.inReset = false ∧ up.portU.link = .up ∧ up.portD.link = .up ∧
    checkFrame (up.portU.wholeFrame [1#8]) (up.portU.spoiled false) = none ∧
    checkFrame (up.portD.wholeFrame (encodeFrame read2)) (up.portD.spoiled true) = none ∧
    ({ up.portU with rx := some { bytes := [], invalid := false } } : Port).rx = some { bytes := [], invalid := false } ∧
    (up.port .u).rx = none ∧ State.reset.portU.link = .down ∧ State.reset.portD.link = .down := by decide +kernel
theorem witness_OutwardSwitchJudgesByKindAndTarget :
    up.inReset = false ∧ up.portU.link = .up ∧ up.position ≤ 62 ∧ 1 ≤ up.position ∧
    checkFrame (up.portU.wholeFrame (encodeFrame read2)) (up.portU.spoiled false) = some read2 ∧
    read2.kind = .request ∧ read2.position.toNat = up.position ∧ up.inbox.length < 4 ∧
    4 ≤ [read2, read2, read2, read2].length ∧ { read2 with position := 0#6 }.position.toNat ≠ up.position ∧
    { read2 with position := 62#6 }.position ≠ 63#6 ∧ up.portD.link = .up ∧ up.otq.length < 4 ∧
    State.reset.portD.link = .down ∧
    checkFrame (encodeFrame { read2 with position := 63#6 }) false = some { read2 with position := 63#6 } ∧
    checkFrame (encodeFrame (ackFrame 0#2 7#12 0x20#8 .chainEnd [3#8])) false =
      some (ackFrame 0#2 7#12 0x20#8 .chainEnd [3#8]) ∧
    (ackFrame 0#2 7#12 0x20#8 .chainEnd [3#8]).kind.homeward = true := by decide +kernel
theorem witness_BroadcastControlIsCopiedInwardAndOutward :
    up.inReset = false ∧ up.portU.link = .up ∧ up.position ≤ 62 ∧
    checkFrame (encodeFrame (bctl 4#8 [0#8])) false = some (bctl 4#8 [0#8]) ∧ (bctl 4#8 [0#8]).kind = .control ∧
    (bctl 4#8 [0#8]).position = 63#6 ∧ (bctl 4#8 [0#8]).mark = false ∧
    (bctl 4#8 [0#8]).code ∉ [0x01#8, 0x02#8, 0x05#8, 0x07#8, 0x0D#8, 0x0A#8] ∧
    (bctl 0x0A#8 [0#8, 9#8]).code ∈ [0x01#8, 0x02#8, 0x05#8, 0x07#8, 0x0D#8, 0x0A#8] ∧ up.portD.link = .up ∧
    State.reset.portD.link = .down ∧ 4 ≤ [read2, read2, read2, read2].length ∧
    up.latched .receiveOverflow = false := by decide +kernel
theorem witness_EnumerateRenumbersAndPassesTheCountOn :
    up.inReset = false ∧ up.portU.link = .up ∧ (61#8).toNat ≤ 61 ∧ ¬(62#8).toNat ≤ 61 ∧ up.portD.link = .up ∧
    up.otq.length < 4 ∧ 4 ≤ [read2, read2, read2, read2].length ∧ State.reset.portD.link = .down ∧
    checkFrame (encodeFrame { kind := .enumerate, cls := 0#2, position := 0#6, tag := 7#12, payload := [61#8] }) false =
      some { kind := .enumerate, cls := 0#2, position := 0#6, tag := 7#12, payload := [61#8] } := by decide +kernel
theorem witness_HomewardFramesEnterTheHtq :
    up.inReset = false ∧ up.portD.link = .up ∧
    checkFrame (up.portD.wholeFrame (encodeFrame (ackFrame 0#2 7#12 0x20#8 .chainEnd [3#8]))) (up.portD.spoiled false) =
      some (ackFrame 0#2 7#12 0x20#8 .chainEnd [3#8]) ∧ (ackFrame 0#2 7#12 0x20#8 .chainEnd [3#8]).kind = .ack ∧
    (List.replicate 7 read2).length < 8 ∧ 8 ≤ (List.replicate 8 read2).length ∧
    checkFrame (up.portD.wholeFrame (encodeFrame read2)) (up.portD.spoiled false) = some read2 ∧
    read2.kind = .request := by decide +kernel
theorem witness_ChainEndAnswerTakesAFreeSlot :
    up.inReset = false ∧ up.chainEnd = none ∧
    ({ up with loq := Vector.replicate 64 (.reserved .commit) } : State).lowestFree = none ∧
    ({ up with chainEnd := some { tag := 7#12, cls := 0#2, count := 3#8 } } : State).chainEnd ≠ none ∧
    up.lowestFree = some 0 := by decide +kernel

/-- A bridge whose expired record's REPLY waits in slot 0. -/
def replying : State := ran .expiry queued
theorem witness_MergeGrantFollowsTheStreakTable :
    up.inReset = false ∧ ¬(State.reset.portU.link = .up ∧ State.reset.portU.held = false ∧ State.reset.uTx = none) ∧
    up.portU.link = .up ∧ up.portU.held = false ∧ up.uTx = none ∧ up.htq = [] ∧ up.nextLocal = none ∧
    ({ up with htq := [read2] } : State).htq = read2 :: [] ∧ 1 < replying.params.throughWeight ∧
    (replying.nextLocal.map Prod.fst) = some 0 ∧ replying.htq = [] ∧ replying.params.throughWeight ≤ 2 := by
  decide +kernel
theorem replying_slotLaw : replying.SlotLaw :=
  ⟨by decide +kernel, by decide +kernel, by decide +kernel, by decide +kernel, nofun, by decide +kernel,
   by decide +kernel, nofun, by decide +kernel, by decide +kernel⟩
theorem replying_kindLaw : replying.KindLaw := by
  refine ⟨fun f k h => ?_, nofun, nofun, nofun⟩
  have : ∀ x ∈ replying.loq.toList, (match x with | .filled f _ => f.kind.homeward | _ => true) = true := by
    decide +kernel
  exact this _ h
theorem witness_LocalFramesLeaveByGroupAndFillNumber : replying.SlotLaw ∧ replying.KindLaw ∧
    (∃ offered : Nat → Frame → Nat → Prop, ∀ n f k, offered n f k ↔ n < 64 ∧ replying.slot n = .filled f k ∧
      ∀ t, replying.uTx = some t → t.source ≠ .slot n) ∧
    (∃ urgent : Frame → Prop, ∀ f, urgent f ↔ f.kind = .ack ∨ f.kind = .notice) :=
  ⟨replying_slotLaw, replying_kindLaw, ⟨_, fun _ _ _ => Iff.rfl⟩, ⟨_, fun _ => Iff.rfl⟩⟩
theorem witness_SentFramesLeaveTheirQueues :
    up.inReset = false ∧ up.uTx = none ∧ ((ran .mergeGrant replying).uTx.map UTx.source) = some (.slot 0) ∧
    ((ran .mergeGrant replying).slot 0).isFilled = true ∧
    ((ran .mergeGrant { up with htq := [read2] }).uTx.map UTx.source) = some .htq ∧
    ((ran .mergeGrant replying).uTx.map fun t => t.detach.source) = some .detached ∧
    ({ up with otq := [read2] } : State).otq = read2 :: [] ∧ up.portD.link = .up ∧ up.portD.held = false ∧ up.dTx = none ∧
    up.otq = [] ∧ State.reset.portD.link = .down ∧ (ran (.hold .d) up).portD.held = true ∧
    ({ up with dTx := some read2 } : State).dTx = some read2 := by decide +kernel
theorem witness_NoticeCarriesTheFirstSixteenItems :
    up.inReset = false ∧ up.notice.items = [] ∧ State.reset.portU.link = .down ∧
    ({ up.notice with holdoff := 4 } : NoticeSet).holdoff < up.params.noticeHoldoff ∧
    ({ up with loq := Vector.replicate 64 (.reserved .commit) } : State).freeCount < 2 ∧
    ({ up.notice with linkU := some .up } : NoticeSet).items ≠ [] ∧ up.portU.link = .up ∧
    up.params.noticeHoldoff ≤ ({ up.notice with holdoff := 5 } : NoticeSet).holdoff ∧ 2 ≤ up.freeCount ∧
    up.lowestFree = some 0 ∧ (NoticeItem.node 31 .offline).bytes = [0x9F#8, 3#8] ∧
    (NoticeItem.unreachable { position := 62#6, count := 255 }).bytes = [0xFE#8, 0xFF#8] := by decide +kernel

/-- The seven checks: each is passed by read2 in `loaded`, and failed by a state or a REQUEST like them. -/
theorem loaded_routes_read2 : loaded.RouteFor 0x102 2 route5 :=
  ⟨0, by decide, by decide +kernel, by decide +kernel, by decide +kernel, nofun⟩
theorem up_has_no_route (img : Image) : ¬up.RouteFor 0x102 2 img := by
  rintro ⟨i, _, hi, hc, _⟩
  have : vget up.active.routes i Image.zero = Image.zero := by
    simp [up, State.reset, State.active, State.bank]
  rw [← hi, this] at hc
  exact absurd hc (by decide +kernel)
theorem witness_AdmissionTakesTheSevenChecksInOrder :
    (withHead loaded read2).Head read2 [] 0 ∧ read2.kind = .request ∧ read2.code.toNat / 64 = 1 ∧
    read2.code.toNat % 64 = 2 ∧ ¬(up.params.checkPolicy = 0 ∧ up.latched .chainCheckU = true) ∧
    ((ran (.uFrameArrival [1#8] false) up).params.checkPolicy = 0 ∧
      (ran (.uFrameArrival [1#8] false) up).latched .chainCheckU = true) ∧
    { read2 with code := 0x60#8 }.code.toNat % 64 = 32 ∧ ¬{ read2 with code := 0x61#8 }.code.toNat % 64 ≤ 32 ∧ loaded.records = [] ∧ .controller rec0 ∈ queued.records ∧
    loaded.RouteFor 0x102 2 route5 ∧ (∀ img, ¬up.RouteFor 0x102 2 img) ∧ route5.byte 1 = 5 ∧ route5.byte 7 = 3 ∧
    (loaded.node 5).state ≠ .offline ∧ ((withOffline 5 loaded).node 5).state = .offline ∧
    loaded.params.classReserve < 48 - loaded.queue.size ∧ ¬1 ≤ 48 - ({ up.queue with c0 := List.replicate 48 (.scan recScan) } : ExchangeQueue).size ∧
    (image 1#8 0#8 0x01#8 0x00#8 0#8 16#8 0x20#8 2#8 255#8 1#8).byte 1 = 0 := by
  refine ⟨witness_head _ _, by decide +kernel, by decide +kernel, by decide +kernel, by decide +kernel,
    by decide +kernel, by decide +kernel, by decide +kernel, by decide +kernel, by decide +kernel, loaded_routes_read2,
    up_has_no_route, by decide +kernel, by decide +kernel, by decide +kernel, by decide +kernel, by decide +kernel,
    by decide +kernel, by decide +kernel⟩

theorem witness_InboxHeadIsTakenByItsOwnCommand :
    up.inReset = false ∧ up.inbox = [] ∧
    ({ up with loq := Vector.replicate 64 (.reserved .commit) } : State).lowestFree = none ∧
    (withHead up read2).inbox = read2 :: [] ∧ read2.kind ≠ .control ∧ (ctl 1#8 []).kind ≠ .request ∧
    (ctl 1#8 []).code = Command.readStatus.code ∧ (ctl 1#8 []).code ≠ Command.commit.code := by decide +kernel
theorem witness_MalformedCommandsChangeNothing :
    (withHead up (ctl 0x11#8 [])).Head (ctl 0x11#8 []) [] 0 ∧ (ctl 0x11#8 []).kind = .control ∧
    (∀ c ∈ Command.all, (ctl 0x11#8 []).code ≠ c.code) ∧
    (∀ c ∈ Command.all, (List.replicate (c.operandBytes + 1) 0#8).length ≠
      [0, 1, 3, 1, 0, 12, 3, 0, 0, 2, 1, 1, 1, 0, 0, 1].getD (c.code.toNat - 1) 0) :=
  ⟨witness_head _ _, rfl, by decide, by decide⟩
theorem witness_ReadStatusReportsTheBridge :
    (withHead up (ctl 0x01#8 [])).HeadCommand .readStatus [] (ctl 0x01#8 []) [] 0 ∧
    (withHead { up with position := 62 } (ctl 0x01#8 [])).position ≤ 62 :=
  ⟨(witness_addressed up .readStatus []).1, by decide +kernel⟩
theorem witness_GetParamReturnsCurrentAndPendingValue :
    (withHead up (ctl 0x02#8 [14#8])).HeadCommand .getParam [14#8] (ctl 0x02#8 [14#8]) [] 0 ∧ (0#8).toNat = 0 ∧
    14 < (15#8).toNat ∧ 1 ≤ (14#8).toNat ∧ [up.dlc.cur.dropRate][(1#8).toNat - 1]? = some 1 ∧
    [some 7][(1#8).toNat - 1]? = some (some 7) ∧ (∀ w, [(none : Option Nat)][(1#8).toNat - 1]? ≠ some (some w)) :=
  ⟨(witness_addressed up .getParam [14#8]).1, rfl, by decide, by decide, rfl, rfl, by simp⟩
theorem witness_SetParamWritesOneParameter :
    (withHead up (ctl 0x03#8 [4#8, 0#8, 63#8])).HeadCommand .setParam [4#8, 0#8, 63#8] (ctl 0x03#8 [4#8, 0#8, 63#8]) [] 0 ∧
    (∃ r, [(0, 4), (2, 255), (2, 15), (1, 63)][(4#8).toNat - 1]? = some r ∧ r.1 ≤ 0 * 256 + 63 ∧ 0 * 256 + 63 ≤ r.2) ∧
    (¬∃ r, [(0, 4), (2, 255), (2, 15), (1, 63)][(4#8).toNat - 1]? = some r ∧ r.1 ≤ 0 * 256 + 64 ∧ 0 * 256 + 64 ≤ r.2) ∧
    14 < (15#8).toNat ∧ up.dlc.state = .idle ∧ (inState .await flying).dlc.state ≠ .idle ∧
    (inState .await flying).dlc.state ≠ .halted ∧ 6 ≤ (6#8).toNat ∧ (14#8).toNat ≤ 14 ∧ up.params.scanEnable = 0 ∧
    ({ up.params with reviveInterval := 0 } : Params).reviveInterval = 0 ∧ paramPending up.dlc.pend 4 = none ∧
    paramValue up.dlc.cur up.params 4 = 2 ∧ 63 ≠ 2 ∧ (dueOwed read2).settleDues.lowestFree = some 61 :=
  ⟨(witness_addressed up .setParam _).1, ⟨(1, 63), rfl, by decide, by decide⟩, fun ⟨r, h, _, h2⟩ => by cases h; omega,
   by decide, rfl, by decide +kernel, by decide +kernel, by decide, by decide, rfl, rfl, rfl, rfl, by decide, by decide +kernel⟩
theorem witness_FaultsAreClearedAndCountersRead :
    (withHead up (ctl 0x04#8 [63#8])).HeadCommand .clearFaults [63#8] (ctl 0x04#8 [63#8]) [] 0 ∧ (63#8).toNat < 64 ∧
    64 ≤ (64#8).toNat ∧ (withHead up (ctl 0x05#8 [])).HeadCommand .readCounters [] (ctl 0x05#8 []) [] 0 ∧
    up.params.counterMode ≠ 1 ∧ ({ up.params with counterMode := 1 } : Params).counterMode = 1 :=
  ⟨(witness_addressed up .clearFaults _).1, by decide, by decide, (witness_addressed up .readCounters _).1, by decide, rfl⟩
theorem witness_TablesAreWrittenReadAndCopied :
    (withHead up (ctl 0x06#8 (1#8 :: 127#8 :: route5.toList))).HeadCommand .tableWrite (1#8 :: 127#8 :: route5.toList)
      (ctl 0x06#8 (1#8 :: 127#8 :: route5.toList)) [] 0 ∧ route5.toList.length = 10 ∧ 128 ≤ (128#8).toNat ∧
    (127#8).toNat < 128 ∧ 32 ≤ (32#8).toNat ∧ (31#8).toNat < 32 ∧ up.commit = none ∧ sweeping.commit ≠ none ∧
    (withHead up (ctl 0x07#8 [2#8, 1#8, 31#8])).HeadCommand .tableRead [2#8, 1#8, 31#8] (ctl 0x07#8 [2#8, 1#8, 31#8]) [] 0 ∧
    TableId.scan.code = 2#8 ∧ (31#8).toNat < TableId.scan.size ∧ TableId.scan.size ≤ (32#8).toNat ∧
    (withHead up (ctl 0x08#8 [])).HeadCommand .shadowLoad [] (ctl 0x08#8 []) [] 0 :=
  ⟨(witness_addressed up .tableWrite _).1, by decide +kernel, by decide, by decide, by decide, by decide, rfl,
   by decide +kernel, (witness_addressed up .tableRead _).1, rfl, by decide, by decide,
   (witness_addressed up .shadowLoad _).1⟩
theorem witness_CommitStartsASweepThatRejectsTheFirstFailure :
    (withHead up (ctl 0x09#8 [])).HeadCommand .commit [] (ctl 0x09#8 []) [] 0 ∧ (ctl 0x09#8 []).position ≠ 63#6 ∧
    (withHead up (bctl 0x09#8 [])).HeadCommand .commit [] (bctl 0x09#8 []) [] 0 ∧ (bctl 0x09#8 []).position = 63#6 ∧
    up.commit = none ∧ sweeping.commit ≠ none ∧ sweeping.inReset = false ∧
    (sweeping.commit.map fun c => c.cursor.place) = some 159 ∧ sweeping.shadow.entryFails 159 = none ∧
    failing.shadow.entryFails 159 = some .nodeRange ∧ (failing.commit.bind PendingCommit.slot) = some 0 :=
  ⟨(witness_addressed up .commit _).1, (witness_addressed up .commit []).2, (witness_broadcast up .commit _).1, rfl, rfl,
   by decide +kernel, rfl, by decide +kernel, by decide +kernel, by decide +kernel, by decide +kernel⟩
theorem witness_SwapExchangesTheBanks :
    sweeping.inReset = false ∧ up.commit = none ∧ (sweeping.commit.bind PendingCommit.slot) = some 0 ∧
    (sweeping.commit.map fun c => c.cursor.place) = some 159 ∧
    sweeping.shadow.entryFails 159 = none ∧ failing.shadow.entryFails 159 ≠ none ∧
    (∀ k ∈ List.range 160, up.shadow.entryFails k = none) ∧
    (inState .await { flying with record := .scan recScan }).inflightRecord = some (.scan recScan) ∧
    recScan.epoch = loaded.epoch ∧ sweeping.inflightRecord = none := by decide +kernel
theorem queued_tagLaw : queued.TagLaw := by
  show (queued.records.filterMap ExRecord.tag?).Nodup
  decide +kernel
theorem witness_CancelFindsTheRecordOfItsTag :
    (withHead queued (ctl 0x0A#8 [0#8, 9#8])).HeadCommand .cancel [0#8, 9#8] (ctl 0x0A#8 [0#8, 9#8]) [] 0 ∧
    (withHead queued (ctl 0x0A#8 [0#8, 9#8])).TagLaw ∧ (9#12).toNat = (0#8).toNat % 16 * 256 + (9#8).toNat ∧
    (withHead queued (ctl 0x0A#8 [0#8, 9#8])).queue.list 1#2 = [] ++ .controller rec0 :: [] ∧ rec0.tag = 9#12 ∧
    rec0.slot = some 0 ∧ (inState .await flying).dlc.inflight = some flying ∧ flying.record = .controller rec0 ∧
    up.records = [] :=
  ⟨(witness_addressed queued .cancel _).1, queued_tagLaw, by decide, rfl, rfl, rfl, rfl, rfl, by decide +kernel⟩
/-- A FLUSH behind no other frame, at a bridge whose slot 0 is held by rec0. -/
def flushing (mask : Byte) : State := { queued with inbox := [ctl 0x0B#8 [mask]] }
theorem witness_FlushReleasesTheMaskedClasses :
    (flushing 2#8).HeadCommand .flush [2#8] (ctl 0x0B#8 [2#8]) [] 1 ∧ (flushing 2#8).SlotLaw ∧
    (∀ r : ExRecord, r.flushed 2#8 = true ↔ ∃ c, r = .controller c ∧ (2#8).getLsbD c.cls.toNat = true) ∧
    (flushing 2#8).queue.all.filter (ExRecord.flushed 2#8) = [.controller rec0] ∧ rec0.slot = some 0 := by
  refine ⟨⟨⟨rfl, rfl, by decide +kernel⟩, rfl, rfl, rfl⟩, queued_slotLaw, fun r => ?_, by decide +kernel, rfl⟩
  cases r <;> simp [ExRecord.flushed]
theorem witness_NodeRecordsAreResetAndRead :
    (withHead up (ctl 0x0C#8 [31#8])).HeadCommand .nodeReset [31#8] (ctl 0x0C#8 [31#8]) [] 0 ∧
    (withHead up (ctl 0x0D#8 [1#8])).HeadCommand .nodeRead [1#8] (ctl 0x0D#8 [1#8]) [] 0 ∧ 31 < (32#8).toNat ∧
    (inState .await flying).inflightRecord = some (.controller rec0) ∧ (ExRecord.controller rec0).node = 5 ∧
    up.inflightRecord = none ∧ ({ offlineNode with failures := 7 } : NodeRecord).failures ≤ 7 :=
  ⟨(witness_addressed up .nodeReset _).1, (witness_addressed up .nodeRead _).1, by decide, rfl, rfl, rfl, by decide⟩
theorem witness_LineHaltAndRunActByTheState :
    (withHead up (ctl 0x0E#8 [])).HeadCommand .lineHalt [] (ctl 0x0E#8 []) [] 0 ∧ up.dlc.state = .idle ∧
    (inState .guard flying).dlc.state ∈ [DlcState.transmit, .await, .receive, .guard] ∧
    (withHead up (ctl 0x0F#8 [])).HeadCommand .lineRun [] (ctl 0x0F#8 []) [] 0 ∧
    (ran .lineFault (inState .transmit flying)).dlc.state = .halted ∧ up.dlc.state ≠ .halted :=
  ⟨(witness_addressed up .lineHalt _).1, rfl, by decide +kernel, (witness_addressed up .lineRun _).1, by decide +kernel,
   by decide +kernel⟩
theorem witness_SoftResetReachesEveryBlock :
    (withHead queued (ctl 0x10#8 [2#8])).HeadCommand .softReset [2#8] (ctl 0x10#8 [2#8]) [] 0 ∧
    (withHead queued (bctl 0x10#8 [1#8])).HeadCommand .softReset [1#8] (bctl 0x10#8 [1#8]) [] 0 ∧ 3#8 ≠ 1#8 ∧ 3#8 ≠ 2#8 ∧
    (inState .transmit flying).inflightRecord = some (.controller rec0) ∧ (ExRecord.controller rec0).node = 5 ∧
    up.inflightRecord = none ∧
    (∀ i ∈ List.range 32, (ran .softReset (withHead queued (ctl 0x10#8 [1#8]))).scanRecord i =
      { (withHead queued (ctl 0x10#8 [1#8])).scanRecord i with outstanding := false }) :=
  ⟨(witness_addressed queued .softReset _).1, (witness_broadcast queued .softReset _).1, by decide, by decide, rfl, rfl,
   rfl, by decide +kernel⟩

theorem witness_SelectionStartsTheOldestStartable :
    queued.inReset = false ∧ queued.dlc.state = .idle ∧ queued.queue.list 1#2 = [] ++ .controller rec0 :: [] ∧
    queued.queue.list 0#2 = [] ∧ (queued.node 5).state ≠ .offline ∧ (ExRecord.controller rec0).isScan = false ∧
    (queued.node 5).sync = .needsSync ∧ (ExRecord.scan recScan).isScan = true ∧ 4 ≤ loaded.freeCount ∧
    loaded.lowestFree = some 0 ∧ (ExRecord.probe 7).isProbe = true ∧
    ({ loaded with nodes := Vector.replicate 31 { offlineNode with state := .online, sync := .inSync, failures := 0 } }
      |>.node 5).sync ≠ .needsSync ∧ rec0.node ≤ 31 ∧ rec0.fn = .read 2 ∧
    ({ rec0 with fn := .write [1#8] } : CtlRecord).fn = .write [1#8] ∧
    ({ rec0 with fn := .bwrite [1#8] } : CtlRecord).fn = .bwrite [1#8] ∧ recScan.node ≤ 31 := by decide +kernel
theorem witness_SelectionStartsTheOldestStartable_formats :
    (∃ chars : List Byte → List DropChar, ∀ address rest, chars (address :: rest) =
      { mark := true, data := address, framing := false } ::
        (rest ++ [crc8 (address :: rest)]).map fun d => { mark := false, data := d, framing := false }) ∧
    ∀ w, crc8Bit w = if w.getLsbD 7 then (w <<< 1) ^^^ 0x07#8 else w <<< 1 :=
  ⟨⟨fun
    | [] => []
    | address :: rest => { mark := true, data := address, framing := false } ::
        (rest ++ [crc8 (address :: rest)]).map fun d => { mark := false, data := d, framing := false },
    fun _ _ => rfl⟩, fun _ => rfl⟩
theorem witness_SelectionAnswersForOfflineNodes :
    queued.inReset = false ∧ (inState .await flying).dlc.state ≠ .idle ∧ up.queue.all = [] ∧
    (withOffline 5 queued).dlc.state = .idle ∧
    (withOffline 5 queued).queue.list 1#2 = [] ++ .controller rec0 :: [] ∧ (withOffline 5 queued).nodeOffline 5 = true ∧
    rec0.slot = some 0 ∧
    ({ withOffline 9 loaded with queue := { up.queue with c2 := [.scan recScan] } } : State).queue.list 2#2 =
      [] ++ .scan recScan :: [] ∧ (withOffline 9 loaded).nodeOffline 9 = true ∧
    (withOffline 9 loaded).lowestFree = some 0 ∧ (withOffline 9 loaded).scanMode 2 = 1 ∧
    ((withOffline 9 loaded).scanRecord 2).lastOutcome = none := by decide +kernel
theorem witness_ReadBackDecidesTheAttempt :
    up.inReset = false ∧ up.dlc.state ≠ .transmit ∧ (inState .transmit flying).dlc.state = .transmit ∧
    (inState .transmit flying).dlc.stopping = false ∧ (inState .transmit flying).dlc.inflight = some flying ∧
    flying.record.isBwrite = false ∧
    (ExRecord.controller { rec0 with node := 0, fn := .bwrite [1#8] }).isBwrite = true ∧ flying.request[5]? = none ∧
    flying.request[0]? = some { mark := true, data := 5#8 } ∧
    ({ mark := true, data := 5#8 } : DropChar) ≠ { mark := false, data := 5#8 } := by decide +kernel
theorem witness_ResponsesAreCollectedToTheirEnd :
    (inState .await flying).inReset = false ∧ (inState .await flying).dlc.inflight = some flying ∧
    (inState .await flying).dlc.state = .await ∧ (inState .receive flying).dlc.state = .receive ∧
    (inState .transmit flying).dlc.state = .transmit ∧ ({ mark := true, data := 0x85#8 } : DropChar).mark = true ∧
    (List.replicate 35 ({ mark := false, data := 0#8 } : DropChar)).length < 36 ∧
    36 ≤ (List.replicate 36 ({ mark := false, data := 0#8 } : DropChar)).length ∧
    judgeResponse flying.step flying.record flying.toggle okResponse = (.ok, [0xAA#8, 0xBB#8]) := by decide +kernel
theorem witness_StrayCharactersAreCountedAndLatched :
    up.inReset = false ∧ up.dlc.state = .idle ∧ (inState .guard flying).dlc.state = .guard ∧
    (inState .halted flying).dlc.state = .halted ∧ (inState .await flying).dlc.state = .await ∧
    ({ mark := false, data := 1#8 } : DropChar).mark = false ∧ up.latched .strayTraffic = false ∧
    (ran (.strayCharacter { mark := false, data := 1#8 }) up).latched .strayTraffic = true := by decide +kernel
theorem witness_ResponsesAreJudgedByEveryCheck :
    4 ≤ okResponse.length ∧ okResponse.length ≤ 36 ∧ (okResponse.head?.map DropChar.mark) = some true ∧
    128 ≤ (0x85#8).toNat ∧ (0x85#8).toNat % 32 = (ExRecord.controller rec0).node ∧
    (∀ c ∈ okResponse, c.framing = false) ∧ (0x10#8).toNat % 2 = false.toNat ∧
    (okResponse.map DropChar.data).getLast? = some (crc8 (okResponse.map DropChar.data).dropLast) ∧
    (ExRecord.controller rec0).readCount = some 2 ∧ okResponse.length = 2 + 4 ∧
    ({ rec0 with fn := .write [1#8] } : CtlRecord).fn = .write [1#8] ∧ (ExRecord.probe 5).isProbe = true := by
  decide +kernel
theorem witness_AttemptsAreRetriedOrWithdrawn :
    flying.step = .main ∧ flying.mainSent < flying.record.retry + 1 ∧
    ¬({ flying with mainSent := 2 } : Exchange).mainSent < flying.record.retry + 1 ∧ 1 ≤ flying.mainSent ∧
    (ExRecord.controller { rec0 with cancelMark := true }).cancelMark = true ∧ flying.record.cancelMark = false ∧
    ({ up.dlc with haltReq := true } : Dlc).haltReq = true ∧ up.dlc.sessionLost = false ∧
    ({ flying with step := .sync, mainSent := 0, syncSent := 1 } : Exchange).syncSent < 2 := by decide +kernel
theorem witness_GuardEndsInTheNextAttemptOrAtRest :
    up.inReset = false ∧ up.dlc.state ≠ .guard ∧ (inState .guard flying).dlc.state = .guard ∧
    ({ up.dlc with state := .guard } : Dlc).inflight = none ∧ (inState .guard flying).dlc.inflight = some flying ∧
    ({ flying with broadcastDone := true } : Exchange).broadcastDone = true ∧ flying.broadcastDone = false ∧
    ({ flying with step := .sync, lastOutcome := some .ok } : Exchange).lastOutcome = some .ok ∧
    1 ≤ (if flying.step = .sync then flying.syncSent else flying.mainSent) ∧
    ({ up.dlc with state := .transmit, stopping := true } : Dlc).stopping = true ∧ up.dlc.stopping = false := by
  decide +kernel
theorem witness_CompletionHandsTheResultOn :
    flying.record = .controller rec0 ∧ rec0.slot = some 0 ∧ (inState .receive flying).dlc.sessionLost = false ∧
    1 ≤ flying.record.node ∧ flying.record.node ≤ 31 ∧
    (ExRecord.controller { rec0 with node := 0, fn := .bwrite [1#8] }).node = 0 ∧ (ExRecord.probe 7).isProbe = true ∧
    (inState .receive { flying with record := .scan { recScan with slot := some 0 } }).slot 0 = .reserved .exchange ∧
    loaded.scan.retired = none ∧
    ({ loaded.scan with retired := some { scanIndex := 2, sequence := 1#8, missed := 0 } } : ScanEngine).retired ≠ none ∧
    loaded.scanMode 2 = 1 ∧ (loaded.scanRecord 2).lastOutcome ≠ some .ok ∧
    ({ up.dlc with sessionLost := true } : Dlc).sessionLost = true ∧ 7 ≤ 7 ∧
    (replyFrame 9#12 0x100#16 1#2 .ok 6 1#16 [0xAA#8]).code = 0xC1#8 := by decide +kernel
theorem witness_VerdictsChangeTheNodeRecord :
    ({ flying with lastOutcome := some .ok } : Exchange).lastOutcome = some .ok ∧ flying.step = .main ∧
    ({ flying with step := .sync } : Exchange).step = .sync ∧ ({ flying with anyBad := true } : Exchange).anyBad = true ∧
    flying.anyBad = false ∧ offlineNode.state = .offline ∧ ({ offlineNode with state := .suspect } : NodeRecord).state = .suspect ∧
    (up.node 1).state = .unknown := by decide +kernel

theorem witness_FramesReadBackAsWritten :
    ({ read2 with payload := List.replicate 32 0xFF#8 } : Frame).payload.length ≤ 32 ∧
    (({ read2 with kind := .enumerate, payload := [3#8] } : Frame).kind = .enumerate →
      ({ read2 with kind := .enumerate, payload := [3#8] } : Frame).payload.length = 1) := by decide +kernel
theorem witness_every_step_answers : ∃ t, step { queued with pending := [.selection] } = .next t := ⟨_, rfl⟩
theorem witness_StepKeepsTheQueueLaws :
    queued.CapacityLaw ∧ queued.ClassLaw ∧ queued.KindLaw ∧ queued.TagLaw ∧ queued.ProbeLaw := by
  refine ⟨by unfold State.CapacityLaw; decide +kernel, by unfold State.ClassLaw; decide +kernel, ?_, queued_tagLaw,
    by unfold State.ProbeLaw; decide +kernel⟩
  refine ⟨fun f k h => ?_, nofun, nofun, nofun⟩
  have : ∀ x ∈ queued.loq.toList, x.isFilled = false := by decide +kernel
  exact absurd (this _ h) (by simp [Slot.isFilled])
theorem witness_StepKeepsRanges : queued.ParamLaw ∧ queued.RangeLaw :=
  ⟨⟨by decide +kernel, by
      have : ∀ id ∈ List.range' 1 14, paramPending queued.dlc.pend id = none := by decide +kernel
      intro id h v hv
      rw [this id h] at hv
      cases hv⟩, by unfold State.RangeLaw; decide +kernel⟩
theorem witness_StepKeepsNodePattern : queued.NodeLaw := by
  refine ⟨fun r h => ?_, by decide +kernel⟩
  have : ∀ r ∈ queued.nodes.toList, r = {} := by decide +kernel
  rw [this r h]
  exact ⟨fun _ => rfl, nofun, nofun, fun _ => rfl⟩
theorem route_images_pass : (routeFails route5).isNone = true ∧ (routeFails Image.zero).isNone = true := by decide +kernel
theorem scan_images_pass : (scanFails scan9).isNone = true ∧ (scanFails Image.zero).isNone = true := by decide +kernel
theorem mem_replicate_image {n : Nat} {a img : Image} (h : img ∈ (Vector.replicate n a).toList) : img = a := by
  rw [Vector.toList_replicate] at h
  exact List.eq_of_mem_replicate h
theorem smallBank_routes (img : Image) (h : img ∈ (smallBank route5 scan9).routes.toList) : routeFails img = none := by
  rcases mem_vset h with h | h
  · rw [mem_replicate_image h]; exact Option.isNone_iff_eq_none.mp route_images_pass.2
  · rw [h]; exact Option.isNone_iff_eq_none.mp route_images_pass.1
theorem smallBank_scans (img : Image) (h : img ∈ (smallBank route5 scan9).scans.toList) : scanFails img = none := by
  rcases mem_vset h with h | h
  · rw [mem_replicate_image h]; exact Option.isNone_iff_eq_none.mp scan_images_pass.2
  · rw [h]; exact Option.isNone_iff_eq_none.mp scan_images_pass.1
theorem witness_StepKeepsActiveBankValid : queued.BankLaw := ⟨smallBank_routes, smallBank_scans, nofun⟩
theorem witness_StepKeepsTheDlcLawful : queued.DlcLaw := ⟨rfl, rfl, rfl, rfl⟩
theorem witness_StepKeepsFlowAndDownLaws : queued.FlowLaw ∧ queued.DownLaw :=
  ⟨⟨nofun, nofun, fun _ => ⟨by decide +kernel, by decide +kernel⟩, fun _ => ⟨by decide +kernel, by decide +kernel⟩⟩,
   ⟨nofun, nofun⟩⟩
theorem witness_StepKeepsTheSlotLaw : queued.SlotLaw ∧ queued.SendingLaw := ⟨queued_slotLaw, trivial, nofun⟩

end Sys2Proof.Tests
end

section
/-! ## The Exchange Queue as four class lists: what each change of it does to a list and to the whole -/

namespace Sys2Proof.Machine

theorem cls_cases (c : Cls) : c = 0#2 ∨ c = 1#2 ∨ c = 2#2 ∨ c = 3#2 := by
  revert c; decide

/-- A class list is written and every other list stays. -/
theorem list_setList (q : ExchangeQueue) (c d : Cls) (l : List ExRecord) :
    (q.setList c l).list d = if d = c then l else q.list d := by
  rcases cls_cases c with rfl | rfl | rfl | rfl <;> rcases cls_cases d with rfl | rfl | rfl | rfl <;> rfl

theorem insert_eq_setList (q : ExchangeQueue) (r : ExRecord) :
    q.insert r = q.setList r.cls (q.list r.cls ++ [r]) := by
  rcases cls_cases r.cls with h | h | h | h <;> simp [ExchangeQueue.insert, ExchangeQueue.setList, ExchangeQueue.list, h]

theorem list_remove (q : ExchangeQueue) (p : ExRecord → Bool) (c : Cls) :
    (q.remove p).list c = (q.list c).filter fun r => !p r := by
  rcases cls_cases c with rfl | rfl | rfl | rfl <;> rfl

theorem all_remove (q : ExchangeQueue) (p : ExRecord → Bool) : (q.remove p).all = q.all.filter fun r => !p r := by
  simp [ExchangeQueue.all, ExchangeQueue.remove]

/-- The records that leave and those that stay are all the records there were. -/
theorem remove_perm (q : ExchangeQueue) (p : ExRecord → Bool) : (q.all.filter p ++ (q.remove p).all).Perm q.all := by
  rw [all_remove]
  exact List.filter_append_perm p q.all

/-- A class list stands in the whole queue between lists that a change of it leaves alone. -/
theorem all_split (q : ExchangeQueue) (c : Cls) :
    ∃ before after, ∀ l, (q.setList c l).all = before ++ l ++ after := by
  rcases cls_cases c with rfl | rfl | rfl | rfl
  · exact ⟨[], q.c1 ++ q.c2 ++ q.c3, fun l => by simp [ExchangeQueue.all, ExchangeQueue.setList]⟩
  · exact ⟨q.c0, q.c2 ++ q.c3, fun l => by simp [ExchangeQueue.all, ExchangeQueue.setList]⟩
  · exact ⟨q.c0 ++ q.c1, q.c3, fun l => by simp [ExchangeQueue.all, ExchangeQueue.setList]⟩
  · exact ⟨q.c0 ++ q.c1 ++ q.c2, [], fun l => by simp [ExchangeQueue.all, ExchangeQueue.setList]⟩

theorem setList_list (q : ExchangeQueue) (c : Cls) : q.setList c (q.list c) = q := by
  rcases cls_cases c with rfl | rfl | rfl | rfl <;> rfl

theorem mem_all (q : ExchangeQueue) (r : ExRecord) : r ∈ q.all ↔ ∃ c, r ∈ q.list c := by
  constructor
  · intro h
    simp only [ExchangeQueue.all, List.mem_append] at h
    rcases h with ((h | h) | h) | h
    · exact ⟨0#2, h⟩
    · exact ⟨1#2, h⟩
    · exact ⟨2#2, h⟩
    · exact ⟨3#2, h⟩
  · rintro ⟨c, h⟩
    rcases cls_cases c with rfl | rfl | rfl | rfl <;> simp [ExchangeQueue.list] at h <;> simp [ExchangeQueue.all, h]

theorem size_eq_length (q : ExchangeQueue) : q.size = q.all.length := by
  simp [ExchangeQueue.size, ExchangeQueue.all, Nat.add_assoc]

/-- A record that stands in a class list is one record more than the queue without it. -/
theorem perm_setList_erase {q : ExchangeQueue} {c : Cls} {before after : List ExRecord} {r : ExRecord}
    (h : q.list c = before ++ r :: after) : q.all.Perm (r :: (q.setList c (before ++ after)).all) := by
  obtain ⟨front, back, split⟩ := all_split q c
  have whole : q.all = front ++ (before ++ r :: after) ++ back := by rw [← split, ← h, setList_list]
  rw [whole, split]
  simpa using (List.perm_middle (a := r) (l₁ := front ++ before) (l₂ := after ++ back))

theorem insert_perm (q : ExchangeQueue) (r : ExRecord) : (q.insert r).all.Perm (r :: q.all) := by
  have tail : (q.insert r).list r.cls = q.list r.cls ++ r :: [] := by rw [insert_eq_setList, list_setList, if_pos rfl]
  have back : (q.insert r).setList r.cls (q.list r.cls) = q := by
    rcases cls_cases r.cls with e | e | e | e <;> simp [ExchangeQueue.insert, ExchangeQueue.setList, ExchangeQueue.list, e]
  have whole := perm_setList_erase tail
  rwa [List.append_nil, back] at whole

/-- The first record of a list that satisfies `p`, and the list without it. -/
theorem find_and_erase {l : List ExRecord} {p : ExRecord → Bool} {r : ExRecord} (h : l.find? p = some r) :
    p r = true ∧ ∃ before after, l = before ++ r :: after ∧ l.eraseP p = before ++ after := by
  obtain ⟨hp, before, after, rfl, hb⟩ := List.find?_eq_some_iff_append.mp h
  refine ⟨hp, before, after, rfl, ?_⟩
  rw [List.eraseP_append_right _ (fun x hx => by simpa using hb x hx), List.eraseP_cons_of_pos hp]

/-- What a selection or a CANCEL takes: the first record of some class list that satisfies `p`, and no other. -/
theorem takeFirst_cases {q q' : ExchangeQueue} {p : ExRecord → Bool} {r : ExRecord} (h : q.takeFirst p = some (r, q')) :
    p r = true ∧ ∃ c before after, q.list c = before ++ r :: after ∧ q' = q.setList c (before ++ after) := by
  have fromList : ∀ c, (q.list c).find? p = some r → q' = q.setList c ((q.list c).eraseP p) →
      p r = true ∧ ∃ c before after, q.list c = before ++ r :: after ∧ q' = q.setList c (before ++ after) := by
    intro c hf hq
    obtain ⟨hp, before, after, hl, he⟩ := find_and_erase hf
    exact ⟨hp, c, before, after, hl, by rw [hq, he]⟩
  unfold ExchangeQueue.takeFirst at h
  split at h
  · next hx => cases h; exact fromList 0#2 hx rfl
  · split at h
    · next hx => cases h; exact fromList 1#2 hx rfl
    · split at h
      · next hx => cases h; exact fromList 2#2 hx rfl
      · split at h
        · next hx => cases h; exact fromList 3#2 hx rfl
        · cases h

theorem takeFirst_perm {q q' : ExchangeQueue} {p : ExRecord → Bool} {r : ExRecord} (h : q.takeFirst p = some (r, q')) :
    q.all.Perm (r :: q'.all) := by
  obtain ⟨-, c, before, after, hl, rfl⟩ := takeFirst_cases h
  exact perm_setList_erase hl

end Sys2Proof.Machine
end

section
/-! ## The Local Output Queue as a book of reservations

`SlotBook v held sent` says of the slots `v` that the RESERVED ones are exactly those of the list `held`, each with its
holder, that the slot being sent (if any) is FILLED, and that the fill numbers in use run from 0 without a gap. Each
operation on a slot is one change of the list. `slotLaw_iff` below ties the book to the slot law. -/

namespace Sys2Proof.Machine

/-- Fill numbers that run from 0 without a gap: no two alike, each below their number (R122). -/
def FillsLawful (fills : List Nat) : Prop := fills.Nodup ∧ ∀ k ∈ fills, k < fills.length

theorem FillsLawful.perm {a b : List Nat} (h : a.Perm b) (ha : FillsLawful a) : FillsLawful b :=
  ⟨h.nodup_iff.mp ha.1, fun k hk => h.length_eq ▸ ha.2 k (h.mem_iff.mpr hk)⟩

/-- The next fill number is the number of those in use (R124). -/
theorem FillsLawful.next {a : List Nat} (ha : FillsLawful a) : FillsLawful (a.length :: a) := by
  obtain ⟨nodup, below⟩ := ha
  refine ⟨List.nodup_cons.mpr ⟨fun h => Nat.lt_irrefl _ (below _ h), nodup⟩, fun k hk => ?_⟩
  rcases List.mem_cons.mp hk with rfl | hk
  · simp
  · exact Nat.lt_succ_of_lt (below k hk)

/-- When a fill number is given up, those above it fall by 1 and leave no gap (R122). -/
theorem FillsLawful.lower {k : Nat} {a : List Nat} (ha : FillsLawful (k :: a)) :
    FillsLawful (a.map fun m => if k < m then m - 1 else m) := by
  obtain ⟨nodup, below⟩ := ha
  obtain ⟨fresh, nodup⟩ := List.nodup_cons.mp nodup
  have other : ∀ m ∈ a, m ≠ k := fun m hm e => fresh (e ▸ hm)
  have bound : ∀ m ∈ a, m < a.length + 1 := fun m hm => below m (List.mem_cons_of_mem k hm)
  have kbound : k < a.length + 1 := below k List.mem_cons_self
  refine ⟨List.Nodup.map_on (fun m hm j hj e => ?_) nodup, ?_⟩
  · have := other m hm
    have := other j hj
    split at e <;> split at e <;> omega
  · intro j hj
    obtain ⟨m, hm, rfl⟩ := List.mem_map.mp hj
    have := other m hm
    have := bound m hm
    rw [List.length_map]
    split <;> omega

/-- The fill numbers in use. -/
def fillsOf (v : Vector Slot 64) : List Nat := v.toList.filterMap Slot.fill?

theorem fill?_isSome (x : Slot) : x.fill?.isSome = x.isFilled := by cases x <;> rfl

theorem fillsOf_length (v : Vector Slot 64) : (fillsOf v).length = v.toList.countP Slot.isFilled := by
  rw [fillsOf, List.length_filterMap_eq_countP]
  exact List.countP_congr fun x _ => by rw [fill?_isSome]

theorem filledCount_eq (s : State) : s.filledCount = (fillsOf s.loq).length := (fillsOf_length s.loq).symm

/-- The fill numbers before and after slot `n` is written differ in that slot's own. -/
theorem fillsOf_vset (v : Vector Slot 64) {n : Nat} (hn : n < 64) (x : Slot) :
    ∃ rest, (fillsOf v).Perm ((vget v n .free).fill?.toList ++ rest) ∧
      (fillsOf (vset v n x)).Perm (x.fill?.toList ++ rest) := by
  have hl : n < v.toList.length := by simpa using hn
  have at_n : vget v n .free = v.toList[n] := by
    rw [vget_toList, List.getD, List.getElem?_eq_getElem hl, Option.getD_some]
  have placed : ∀ y : Slot, ((v.toList.set n y).filterMap Slot.fill?).Perm
      (y.fill?.toList ++ ((v.toList.take n).filterMap Slot.fill? ++ (v.toList.drop (n + 1)).filterMap Slot.fill?)) := by
    intro y
    rw [List.set_eq_take_append_cons_drop, if_pos hl, List.filterMap_append]
    cases hy : y.fill? with
    | none => rw [List.filterMap_cons_none hy]; rfl
    | some k => rw [List.filterMap_cons_some hy]; exact List.perm_middle
  refine ⟨_, ?_, by rw [fillsOf, vset_toList]; exact placed x⟩
  have same := placed v.toList[n]
  rwa [List.set_getElem_self, ← at_n] at same

/-- What the Local Output Queue holds, when the slots of `held` are RESERVED and the slot `sent` is being sent. -/
structure SlotBook (v : Vector Slot 64) (held : List (Nat × Holder)) (sent : Option Nat) : Prop where
  nodup : held.Nodup
  reserved : ∀ n h, vget v n .free = .reserved h ↔ (n, h) ∈ held
  sending : ∀ n, sent = some n → (vget v n .free).isFilled = true
  fills : FillsLawful (fillsOf v)

section Book
variable {v : Vector Slot 64} {held : List (Nat × Holder)} {sent : Option Nat} {n : Nat} {h : Holder}

theorem SlotBook.perm {held' : List (Nat × Holder)} (p : held.Perm held') (b : SlotBook v held sent) :
    SlotBook v held' sent :=
  ⟨p.nodup_iff.mp b.nodup, fun n h => (b.reserved n h).trans p.mem_iff, b.sending, b.fills⟩

theorem SlotBook.lt (b : SlotBook v held sent) (m : (n, h) ∈ held) : n < 64 := by
  by_contra out
  have := (b.reserved n h).mpr m
  rw [vget_outside _ _ _ (by omega)] at this
  cases this

/-- A slot has one holder. -/
theorem SlotBook.holder_unique (b : SlotBook v held sent) {h' : Holder} (m : (n, h) ∈ held) (m' : (n, h') ∈ held) :
    h = h' := by
  have e := (b.reserved n h).mpr m
  rw [(b.reserved n h').mpr m'] at e
  exact (Slot.reserved.inj e).symm

/-- A slot that is not FILLED is written with something other than a reservation: the book without that slot. -/
theorem SlotBook.clear {x : Slot} (b : SlotBook v ((n, h) :: held) sent) (hx : ∀ g, x ≠ .reserved g)
    (fills : FillsLawful (fillsOf (vset v n x))) : SlotBook (vset v n x) held sent := by
  have hn : n < 64 := b.lt List.mem_cons_self
  have mine : vget v n .free = .reserved h := (b.reserved n h).mpr List.mem_cons_self
  obtain ⟨fresh, nodup⟩ := List.nodup_cons.mp b.nodup
  refine ⟨nodup, fun m g => ?_, fun m hm => ?_, fills⟩
  · rw [vget_vset]
    by_cases e : n = m
    · subst e
      rw [if_pos ⟨rfl, hn⟩]
      refine ⟨fun e => absurd e (hx g), fun hm => ?_⟩
      have : h = g := b.holder_unique List.mem_cons_self (List.mem_cons_of_mem _ hm)
      exact absurd (this ▸ hm) fresh
    · rw [if_neg (fun c => e c.1), b.reserved m g, List.mem_cons]
      exact ⟨fun c => c.resolve_left fun c => e (congrArg Prod.fst c).symm, Or.inr⟩
  · have filled := b.sending m hm
    have e : n ≠ m := by
      rintro rfl
      rw [mine] at filled
      cases filled
    rwa [vget_vset_ne _ _ _ _ _ e]

/-- The fill numbers stay lawful when a slot that has none is written without one, or with the next. -/
theorem fills_of_write {x : Slot} (hn : n < 64) (old : (vget v n .free).isFilled = false)
    (new : x.isFilled = false ∨ ∃ f, x = .filled f (fillsOf v).length) (hv : FillsLawful (fillsOf v)) :
    FillsLawful (fillsOf (vset v n x)) := by
  obtain ⟨rest, before, after⟩ := fillsOf_vset v hn x
  have unnumbered : ∀ y : Slot, y.isFilled = false → y.fill? = none := by intro y; cases y <;> simp [Slot.isFilled, Slot.fill?]
  rw [unnumbered _ old] at before
  rcases new with new | ⟨f, rfl⟩
  · rw [unnumbered _ new] at after
    exact (hv.perm before).perm after.symm
  · exact hv.next.perm ((List.Perm.cons _ before).trans after.symm)

/-- The holder's frame is written into its slot, with the next fill number. -/
theorem SlotBook.fill (b : SlotBook v ((n, h) :: held) sent) (f : Frame) :
    SlotBook (vset v n (.filled f (fillsOf v).length)) held sent :=
  b.clear (fun _ => nofun) <| fills_of_write (b.lt List.mem_cons_self)
    (by rw [(b.reserved n h).mpr List.mem_cons_self]; rfl) (.inr ⟨f, rfl⟩) b.fills

/-- The holder gives its slot up. -/
theorem SlotBook.release (b : SlotBook v ((n, h) :: held) sent) : SlotBook (vset v n .free) held sent :=
  b.clear (fun _ => nofun) <| fills_of_write (b.lt List.mem_cons_self)
    (by rw [(b.reserved n h).mpr List.mem_cons_self]; rfl) (.inl rfl) b.fills

/-- A FREE slot is claimed. -/
theorem SlotBook.claim (b : SlotBook v held sent) (hn : n < 64) (free : vget v n .free = .free) (h : Holder) :
    SlotBook (vset v n (.reserved h)) ((n, h) :: held) sent := by
  have unheld : ∀ g, (n, g) ∉ held := by
    intro g hg
    rw [← b.reserved n g, free] at hg
    cases hg
  refine ⟨List.nodup_cons.mpr ⟨unheld h, b.nodup⟩, fun m g => ?_, fun m hm => ?_, ?_⟩
  · rw [vget_vset, List.mem_cons]
    by_cases e : n = m
    · subst e
      rw [if_pos ⟨rfl, hn⟩]
      exact ⟨fun e => .inl (by rw [Slot.reserved.inj e]),
        fun c => c.elim (fun c => by rw [(Prod.mk.inj c).2]) fun c => absurd c (unheld g)⟩
    · rw [if_neg (fun c => e c.1), b.reserved m g]
      exact ⟨Or.inr, fun c => c.resolve_left fun c => e (congrArg Prod.fst c).symm⟩
  · have filled := b.sending m hm
    have e : n ≠ m := by
      rintro rfl
      rw [free] at filled
      cases filled
    rwa [vget_vset_ne _ _ _ _ _ e]
  · exact fills_of_write hn (by rw [free]; rfl) (.inl rfl) b.fills

/-- A slot passes from one holder to another. -/
theorem SlotBook.pass (b : SlotBook v ((n, h) :: held) sent) (g : Holder) :
    SlotBook (vset v n (.reserved g)) ((n, g) :: held) sent := by
  have hn : n < 64 := b.lt List.mem_cons_self
  have := b.release.claim hn (vget_vset_same _ _ _ _ hn) g
  rwa [vset_vset] at this

/-- A frame is written into a FREE slot. -/
theorem SlotBook.fillFree (b : SlotBook v held sent) (hn : n < 64) (free : vget v n .free = .free) (f : Frame) :
    SlotBook (vset v n (.filled f (fillsOf v).length)) held sent := by
  have claimed := b.claim hn free .dispatch
  have same : (fillsOf (vset v n (.reserved .dispatch))).length = (fillsOf v).length := by
    have h := filledCount_vset (s := { State.reset with loq := v }) (t := { State.reset with loq := vset v n (.reserved .dispatch) })
      rfl (by show (vget v n .free).isFilled = false; rw [free]; rfl) rfl
    simpa [filledCount_eq] using h
  have := claimed.fill f
  rwa [vset_vset, same] at this

theorem SlotBook.notSending (b : SlotBook v held sent) : SlotBook v held none := ⟨b.nodup, b.reserved, nofun, b.fills⟩

/-- A FILLED slot is the one being sent. -/
theorem SlotBook.send (b : SlotBook v held sent) (filled : (vget v n .free).isFilled = true) :
    SlotBook v held (some n) :=
  ⟨b.nodup, b.reserved, fun _ e => Option.some.inj e ▸ filled, b.fills⟩

theorem lower_fill? (k : Nat) (x : Slot) : (Slot.lower k x).fill? = x.fill?.map fun m => if k < m then m - 1 else m := by
  cases x <;> rfl

theorem fillsOf_lower (k : Nat) (v : Vector Slot 64) :
    fillsOf (vmap (Slot.lower k) v) = (fillsOf v).map fun m => if k < m then m - 1 else m := by
  rw [fillsOf, vmap_toList, List.filterMap_map, fillsOf, List.map_filterMap]
  exact List.filterMap_congr fun x _ => lower_fill? k x

/-- A FILLED slot becomes FREE and the fill numbers above its own fall by 1. -/
theorem SlotBook.freeFilled (b : SlotBook v held sent) {f : Frame} {k : Nat} (filled : vget v n .free = .filled f k) :
    SlotBook (vmap (Slot.lower k) (vset v n .free)) held none := by
  have hn : n < 64 := by
    by_contra out
    rw [vget_outside _ _ _ (by omega)] at filled
    cases filled
  have reserved_lower : ∀ (x : Slot) (g : Holder), Slot.lower k x = .reserved g ↔ x = .reserved g := by
    intro x g; cases x <;> simp [Slot.lower]
  refine ⟨b.nodup, fun m g => ?_, nofun, ?_⟩
  · rw [← b.reserved m g, show (Slot.free : Slot) = Slot.lower k .free from rfl, vget_vmap, reserved_lower]
    show vget (vset v n .free) m .free = _ ↔ vget v m .free = _
    rw [vget_vset]
    split
    · next e => rw [← e.1, filled]; exact ⟨nofun, nofun⟩
    · rfl
  · obtain ⟨rest, before, after⟩ := fillsOf_vset v hn .free
    rw [filled] at before
    rw [fillsOf_lower]
    exact (b.fills.perm before).lower.perm (after.symm.map _)

end Book

/-- An empty queue of slots: nothing RESERVED, nothing FILLED. -/
theorem SlotBook.empty : SlotBook (Vector.replicate 64 .free) [] none := by
  refine ⟨List.nodup_nil, fun n h => ?_, nofun, ?_⟩
  · rw [vget_replicate]; exact ⟨nofun, nofun⟩
  · have : fillsOf (Vector.replicate 64 .free) = [] := by decide
    rw [this]
    exact ⟨List.nodup_nil, nofun⟩

end Sys2Proof.Machine
end

section
/-! ## The slots of a state and their holders

`s.Ledger extra` gathers the slot law and the law of the frame being sent (`ledger_iff`), for a state in the middle of an
event too: the slots of `extra` are RESERVED although no record and no commit of the state holds them. -/

namespace Sys2Proof.Machine

/-- The slot that a frame being sent comes from. -/
def TxSource.slot? : TxSource → Option Nat
  | .slot n => some n
  | .htq | .detached => none

/-- The slot being sent on Port U Tx (R127). -/
def State.sentSlot (s : State) : Option Nat := s.uTx.bind fun x => x.source.slot?

/-- A reply slot as a reservation. -/
def replySlot (slot : Option Nat) : List (Nat × Holder) := slot.toList.map fun n => (n, Holder.exchange)

/-- The slots that the exchange records and the pending commit hold RESERVED (R122). -/
def State.heldSlots (s : State) : List (Nat × Holder) :=
  s.exchangeSlots.map (fun n => (n, Holder.exchange)) ++
    (s.commit.bind PendingCommit.slot).toList.map fun n => (n, Holder.commit)

/-- The slots with their holders, those of `extra` held by the event under way; and the frames being sent. -/
structure State.Ledger (s : State) (extra : List (Nat × Holder)) : Prop where
  book : SlotBook s.loq (extra ++ s.heldSlots) s.sentSlot
  queued : ∀ r ∈ s.queue.all, r.slot.isSome = r.isController
  flying : ∀ r, s.inflightRecord = some r → r.slot.isSome = (!r.isProbe && !s.dlc.sessionLost)
  through : ∀ x, s.uTx = some x → x.source = .htq → s.htq.head? = some x.frame
  outward : ∀ f, s.dTx = some f → s.otq.head? = some f

/-! ### What the ledger says is the slot law and the law of the frame being sent -/

theorem mem_heldSlots_exchange {s : State} {n : Nat} : (n, Holder.exchange) ∈ s.heldSlots ↔ n ∈ s.exchangeSlots := by
  simp [State.heldSlots]

theorem mem_heldSlots_commit {s : State} {n : Nat} :
    (n, Holder.commit) ∈ s.heldSlots ↔ s.commit.bind PendingCommit.slot = some n := by
  simp [State.heldSlots]

theorem not_mem_heldSlots_dispatch {s : State} {n : Nat} : (n, Holder.dispatch) ∉ s.heldSlots := by
  simp [State.heldSlots]

theorem heldSlots_nodup {s : State} (h : s.exchangeSlots.Nodup) : s.heldSlots.Nodup := by
  have commit : ((s.commit.bind PendingCommit.slot).toList.map fun n => (n, Holder.commit)).Nodup := by
    cases s.commit.bind PendingCommit.slot <;> simp
  refine List.nodup_append.mpr ⟨h.map fun _ _ e => (Prod.mk.inj e).1, commit, ?_⟩
  intro a ha b hb e
  obtain ⟨n, -, rfl⟩ := List.mem_map.mp ha
  obtain ⟨m, -, rfl⟩ := List.mem_map.mp hb
  cases (Prod.mk.inj e).2

theorem exchangeSlots_nodup {s : State} (h : s.heldSlots.Nodup) : s.exchangeSlots.Nodup :=
  List.Nodup.of_map _ (List.nodup_append.mp h).1

/-- The slot law, read as the book of the state's holders. -/
theorem slotLaw_iff (s : State) :
    s.SlotLaw ↔ SlotBook s.loq s.heldSlots none ∧ (∀ r ∈ s.queue.all, r.slot.isSome = r.isController) ∧
      ∀ r, s.inflightRecord = some r → r.slot.isSome = (!r.isProbe && !s.dlc.sessionLost) := by
  have slot_eq : ∀ n, vget s.loq n .free = s.slot n := fun _ => rfl
  constructor
  · rintro ⟨nodup, exchange, below, commit, commitBelow, dispatch, queued, flying, fillNodup, fillBelow⟩
    refine ⟨⟨heldSlots_nodup nodup, fun n h => ?_, nofun, fillNodup, fun k hk => ?_⟩, queued,
      fun r hr => flying r hr⟩
    · by_cases hn : n < 64
      · have hn' := List.mem_range.mpr hn
        rw [slot_eq]
        cases h with
        | exchange => rw [exchange n hn', mem_heldSlots_exchange]
        | commit => rw [commit n hn', mem_heldSlots_commit]
        | dispatch => exact ⟨fun e => absurd e (dispatch n hn'), fun e => absurd e not_mem_heldSlots_dispatch⟩
      · rw [vget_outside _ _ _ (by omega)]
        refine ⟨nofun, fun m => absurd ?_ hn⟩
        cases h with
        | exchange => exact below n (mem_heldSlots_exchange.mp m)
        | commit =>
          obtain ⟨c, hc, hs⟩ := Option.bind_eq_some_iff.mp (mem_heldSlots_commit.mp m)
          exact commitBelow c hc n hs
        | dispatch => exact absurd m not_mem_heldSlots_dispatch
    · rw [← filledCount_eq]; exact fillBelow k hk
  · rintro ⟨book, queued, flying⟩
    refine ⟨exchangeSlots_nodup book.nodup, fun n _ => (book.reserved n .exchange).trans mem_heldSlots_exchange,
      fun n hn => book.lt (mem_heldSlots_exchange.mpr hn),
      fun n _ => (book.reserved n .commit).trans mem_heldSlots_commit,
      fun c hc n hn => book.lt (mem_heldSlots_commit.mpr (Option.bind_eq_some_iff.mpr ⟨c, hc, hn⟩)),
      fun n _ e => not_mem_heldSlots_dispatch ((book.reserved n .dispatch).mp e), queued,
      fun r hr => flying r hr, book.fills.1, fun k hk => ?_⟩
    rw [filledCount_eq]
    exact book.fills.2 k hk

theorem State.SlotLaw.book {s : State} (h : s.SlotLaw) : SlotBook s.loq s.heldSlots none := ((slotLaw_iff s).mp h).1

/-- The law of the frame being sent, by its source. -/
theorem sendingLaw_iff (s : State) :
    s.SendingLaw ↔ (∀ n, s.sentSlot = some n → (s.slot n).isFilled = true) ∧
      (∀ x, s.uTx = some x → x.source = .htq → s.htq.head? = some x.frame) ∧ ∀ f, s.dTx = some f → s.otq.head? = some f := by
  unfold State.SendingLaw State.sentSlot
  cases s.uTx with
  | none => simp
  | some x =>
    obtain ⟨source, frame⟩ := x
    cases source <;> simp [TxSource.slot?]

theorem ledger_iff (s : State) : s.Ledger [] ↔ s.SlotLaw ∧ s.SendingLaw := by
  rw [slotLaw_iff, sendingLaw_iff]
  constructor
  · rintro ⟨book, queued, flying, through, outward⟩
    exact ⟨⟨book.notSending, queued, flying⟩, book.sending, through, outward⟩
  · rintro ⟨⟨book, queued, flying⟩, sending, through, outward⟩
    exact ⟨⟨book.nodup, book.reserved, sending, book.fills⟩, queued, flying, through, outward⟩

/-! ### The operations on slots, in the book -/

section Book
variable {s : State} {held : List (Nat × Holder)} {sent : Option Nat} {n : Nat} {h : Holder}

theorem fillSlot_book (b : SlotBook s.loq ((n, h) :: held) sent) (f : Frame) :
    SlotBook (s.fillSlot n f).loq held sent := by
  rw [fillSlot_loq, filledCount_eq]
  exact b.fill f

theorem SlotBook.unfilled (b : SlotBook s.loq ((n, h) :: held) sent) : (s.slot n).isFilled = false := by
  have : s.slot n = .reserved h := (b.reserved n h).mpr List.mem_cons_self
  rw [this]; rfl

theorem freeSlot_book (b : SlotBook s.loq ((n, h) :: held) sent) : SlotBook (s.freeSlot n).loq held sent := by
  rw [freeSlot_unfilled b.unfilled]
  exact b.release

theorem answer_book {slot : Option Nat} (b : SlotBook s.loq (replySlot slot ++ held) sent) (f : Frame) :
    SlotBook (s.answer slot f).loq held sent := by
  cases slot with
  | none => exact b
  | some n => exact fillSlot_book b f

theorem releaseReply_book {slot : Option Nat} (b : SlotBook s.loq (replySlot slot ++ held) sent) :
    SlotBook (s.releaseReply slot).loq held sent := by
  cases slot with
  | none => exact b
  | some n => exact freeSlot_book b

theorem fillLowest_book (b : SlotBook s.loq held sent) (f : Frame) : SlotBook (s.fillLowest f).loq held sent := by
  unfold State.fillLowest
  split
  · next n hn =>
    obtain ⟨hl, free, -⟩ := lowestFree_spec hn
    rw [fillSlot_loq, filledCount_eq]
    exact b.fillFree hl free f
  · exact b

theorem reserveSlot_book (b : SlotBook s.loq held sent) (hn : s.lowestFree = some n) (h : Holder) :
    SlotBook (s.reserveSlot n h).loq ((n, h) :: held) sent :=
  b.claim (lowestFree_spec hn).1 (lowestFree_spec hn).2.1 h

theorem answered_book (b : SlotBook s.loq ((n, h) :: held) sent) (f : Frame) (code : AckCode) (payload : List Byte) :
    SlotBook (s.answered f n code payload).loq held sent := by
  unfold State.answered
  split
  · exact freeSlot_book b
  · exact fillSlot_book b _

theorem scanJudged_book {r : ScanRecord} (b : SlotBook s.loq (replySlot r.slot ++ held) sent) (o : OutcomeCode)
    (data : List Byte) : SlotBook (s.scanJudged r o data).loq held sent := by
  unfold State.scanJudged
  dsimp only
  split
  · exact answer_book b _
  · exact releaseReply_book b

theorem scanUnjudged_book {r : ScanRecord} (b : SlotBook s.loq (replySlot r.slot ++ held) sent) :
    SlotBook (s.scanUnjudged r).loq held sent := releaseReply_book b

theorem scanRetired_book {r : ScanRecord} (b : SlotBook s.loq (replySlot r.slot ++ held) sent) (e : Retired)
    (o : Option OutcomeCode) (data : List Byte) : SlotBook (s.scanRetired e r o data).loq held sent := by
  cases o with
  | none => exact releaseReply_book b
  | some o => exact answer_book b _

/-- The result of an exchange uses up the slot of its record (R50, R51, R114, R117); after a lost session it has none. -/
theorem handResult_book {x : Exchange} (b : SlotBook s.loq (replySlot x.record.slot ++ held) sent)
    (lost : s.dlc.sessionLost = true → x.record.slot = none) (o : Option OutcomeCode) (data : List Byte) :
    SlotBook (s.handResult x o data).loq held sent := by
  unfold State.handResult
  cases hx : x.record with
  | probe n => rw [hx] at b; exact b
  | controller r =>
    rw [hx] at b lost
    dsimp only
    split
    · next hl => rw [lost hl] at b; exact b
    · cases o with
      | none => exact releaseReply_book b
      | some o => exact answer_book b _
  | scan r =>
    rw [hx] at b lost
    dsimp only
    split
    · next hl => rw [lost hl] at b; exact b
    · split
      · exact scanRetired_book b _ _ _
      · cases o with
        | none => exact scanUnjudged_book b
        | some o => exact scanJudged_book b _ _

theorem complete_book {x : Exchange} (b : SlotBook s.loq (replySlot x.record.slot ++ held) sent)
    (lost : s.dlc.sessionLost = true → x.record.slot = none) (o : Option OutcomeCode) (data : List Byte) :
    SlotBook (s.complete x o data).loq held sent := by
  have : (s.complete x o data).loq = (s.handResult x o data).loq := by simp [State.complete]
  rw [this]
  exact handResult_book b lost o data

theorem offlineDue_book (b : SlotBook s.loq held sent) (i : Nat) (img : Image) :
    SlotBook (s.offlineDue i img).loq held sent := by
  unfold State.offlineDue
  dsimp only
  split
  · split
    · exact fillLowest_book b _
    · simpa using b
  · exact b

theorem judgeDue_book (b : SlotBook s.loq held sent) (i : Nat) : SlotBook (s.judgeDue i).loq held sent := by
  unfold State.judgeDue
  dsimp only
  split
  · simpa using b
  · split
    · exact offlineDue_book b _ _
    · split
      · exact b
      · simpa using b

end Book

end Sys2Proof.Machine
end

section
/-! ## The record in flight, through the operations of the Drop Line Controller -/

namespace Sys2Proof.Machine

theorem inflightRecord_of_some {s : State} {x : Exchange} (h : s.dlc.inflight = some x) :
    s.inflightRecord = some x.record := by simp [State.inflightRecord, h]

@[simp] theorem complete_dlc (x : Exchange) (o : Option OutcomeCode) (data : List Byte) (s : State) :
    (s.complete x o data).dlc = { s.dlc with inflight := none } := by simp [State.complete]

@[simp] theorem beginAttempt_inflightRecord (x : Exchange) (s : State) :
    (s.beginAttempt x).inflightRecord = some x.record := by
  unfold State.beginAttempt State.inflightRecord
  cases x.step <;> dsimp only <;> split <;> simp

@[simp] theorem beginAttempt_sessionLost (x : Exchange) (s : State) :
    (s.beginAttempt x).dlc.sessionLost = s.dlc.sessionLost := by
  unfold State.beginAttempt
  cases x.step <;> dsimp only <;> split <;> simp

@[simp] theorem mainStep_record (s : State) (x : Exchange) : (s.mainStep x).record = x.record := rfl

@[simp] theorem planExchange_record (s : State) (r : ExRecord) : (s.planExchange r).record = r := by
  unfold State.planExchange
  dsimp only
  split <;> rfl

@[simp] theorem noted_record (x : Exchange) (o : OutcomeCode) : (x.noted o).record = x.record := rfl

@[simp] theorem startExchange_inflightRecord (r : ExRecord) (s : State) :
    (s.startExchange r).inflightRecord = some r := by simp [State.startExchange]

@[simp] theorem startExchange_sessionLost (r : ExRecord) (s : State) :
    (s.startExchange r).dlc.sessionLost = false := by simp [State.startExchange]

/-- An attempt of the exchange whose record is in flight ends with the record in flight still, or completed. -/
theorem recordAttempt_cases (x : Exchange) (o : OutcomeCode) (data : List Byte) (s : State) :
    (∃ result payload, s.recordAttempt x o data = s.complete (x.noted o) result payload) ∨
      s.recordAttempt x o data = s.setInflight (some (x.noted o)) := by
  unfold State.recordAttempt
  dsimp only
  split
  · split
    · exact .inl ⟨_, _, rfl⟩
    · exact .inr rfl
  · exact .inl ⟨_, _, rfl⟩

theorem runLine_inflight (s : State) : s.runLine.dlc.inflight = s.dlc.inflight := by
  unfold State.runLine; split <;> rfl

theorem runLine_sessionLost (s : State) : s.runLine.dlc.sessionLost = s.dlc.sessionLost := by
  unfold State.runLine; split <;> rfl

theorem haltLine_inflight (s : State) : s.haltLine.dlc.inflight = s.dlc.inflight := by
  unfold State.haltLine; split <;> rfl

theorem haltLine_sessionLost (s : State) : s.haltLine.dlc.sessionLost = s.dlc.sessionLost := by
  unfold State.haltLine; split <;> rfl

theorem leaveGuard_inflight (s : State) : s.leaveGuard.dlc.inflight = s.dlc.inflight := by
  unfold State.leaveGuard; split <;> rfl

theorem leaveGuard_sessionLost (s : State) : s.leaveGuard.dlc.sessionLost = s.dlc.sessionLost := by
  unfold State.leaveGuard; split <;> rfl

theorem writeLineSetting_inflight (id v : Nat) (s : State) :
    (s.writeLineSetting id v).dlc.inflight = s.dlc.inflight := by
  unfold State.writeLineSetting; (repeat' split) <;> rfl

theorem writeLineSetting_sessionLost (id v : Nat) (s : State) :
    (s.writeLineSetting id v).dlc.sessionLost = s.dlc.sessionLost := by
  unfold State.writeLineSetting; (repeat' split) <;> rfl

end Sys2Proof.Machine
end

section
/-! ## The ledger through the events that move a slot, a record or a frame -/

namespace Sys2Proof.Machine

/-- `t` has the holders of slots of `s` and the frames being sent; its queues still begin with them. -/
structure SameHolders (s t : State) : Prop where
  queue : t.queue = s.queue
  inflight : t.inflightRecord.map (fun r => (r.slot, r.isProbe)) = s.inflightRecord.map fun r => (r.slot, r.isProbe)
  lost : t.dlc.sessionLost = s.dlc.sessionLost
  commit : t.commit = s.commit
  uTx : t.uTx = s.uTx
  htq : ∀ f, s.htq.head? = some f → t.htq.head? = some f
  dTx : t.dTx = s.dTx
  otq : ∀ f, s.otq.head? = some f → t.otq.head? = some f

theorem exchangeSlots_eq (s : State) :
    s.exchangeSlots = s.queue.all.filterMap ExRecord.slot ++ (s.inflightRecord.bind ExRecord.slot).toList := by
  rw [State.exchangeSlots, State.records, List.filterMap_append]
  cases s.inflightRecord with
  | none => rfl
  | some r => cases h : r.slot <;> simp [h]

section Same
variable {s t : State} {extra extra' : List (Nat × Holder)}

theorem SameHolders.heldSlots (same : SameHolders s t) : t.heldSlots = s.heldSlots := by
  have slots : t.inflightRecord.bind ExRecord.slot = s.inflightRecord.bind ExRecord.slot := by
    have := congrArg (fun o => o.bind Prod.fst) same.inflight
    simpa [Option.bind_map, Function.comp_def] using this
  rw [State.heldSlots, State.heldSlots, exchangeSlots_eq, exchangeSlots_eq, same.queue, same.commit, slots]

/-- An event that leaves the holders alone keeps the ledger when it keeps the book. -/
theorem State.Ledger.of_same (l : s.Ledger extra) (same : SameHolders s t)
    (book : SlotBook s.loq (extra ++ s.heldSlots) s.sentSlot → SlotBook t.loq (extra' ++ s.heldSlots) s.sentSlot) :
    t.Ledger extra' := by
  obtain ⟨old, queued, flying, through, outward⟩ := l
  have sent : t.sentSlot = s.sentSlot := by rw [State.sentSlot, State.sentSlot, same.uTx]
  refine ⟨by rw [same.heldSlots, sent]; exact book old, by rw [same.queue]; exact queued, fun r hr => ?_,
    fun x hx hs => same.htq _ (through x (by rwa [← same.uTx]) hs), fun f hf => same.otq _ (outward f (by rwa [← same.dTx]))⟩
  have pair := same.inflight
  rw [hr] at pair
  obtain ⟨r', hr', e⟩ := Option.map_eq_some_iff.mp pair.symm
  obtain ⟨slot, probe⟩ := Prod.mk.inj e
  rw [← slot, ← probe, same.lost]
  exact flying r' hr'

theorem State.Ledger.unchanged (l : s.Ledger extra) (same : SameHolders s t) (loq : t.loq = s.loq) : t.Ledger extra :=
  l.of_same same fun b => loq ▸ b

/-- Two lists of reservations in another order. -/
theorem State.Ledger.perm (l : s.Ledger extra) (p : extra.Perm extra') : s.Ledger extra' :=
  ⟨l.book.perm (p.append_right _), l.queued, l.flying, l.through, l.outward⟩

theorem State.Ledger.withScan (l : s.Ledger extra) (e : ScanEngine) : ({ s with scan := e } : State).Ledger extra :=
  ⟨l.book, l.queued, l.flying, l.through, l.outward⟩

theorem State.Ledger.withNotice (l : s.Ledger extra) (e : NoticeSet) : ({ s with notice := e } : State).Ledger extra :=
  ⟨l.book, l.queued, l.flying, l.through, l.outward⟩

end Same

/-! ### Slots change hands -/

section Slots
variable {s : State} {extra : List (Nat × Holder)} {n : Nat} {h : Holder}

theorem State.Ledger.fillSlot (l : s.Ledger ((n, h) :: extra)) (f : Frame) : (s.fillSlot n f).Ledger extra :=
  l.of_same (by constructor <;> simp [State.inflightRecord]) fun b => fillSlot_book b f

theorem State.Ledger.freeSlot (l : s.Ledger ((n, h) :: extra)) : (s.freeSlot n).Ledger extra :=
  l.of_same (by constructor <;> simp [State.inflightRecord]) freeSlot_book

theorem State.Ledger.reserveLowest (l : s.Ledger extra) (hn : s.lowestFree = some n) (h : Holder) :
    (s.reserveSlot n h).Ledger ((n, h) :: extra) :=
  l.of_same (by constructor <;> simp [State.inflightRecord]) fun b => reserveSlot_book b hn h

theorem State.Ledger.pass (l : s.Ledger ((n, h) :: extra)) (g : Holder) : (s.reserveSlot n g).Ledger ((n, g) :: extra) :=
  l.of_same (by constructor <;> simp [State.inflightRecord]) fun b => b.pass g

theorem State.Ledger.answer {slot : Option Nat} (l : s.Ledger (replySlot slot ++ extra)) (f : Frame) :
    (s.answer slot f).Ledger extra :=
  l.of_same (by constructor <;> simp [State.inflightRecord]) fun b => answer_book (List.append_assoc .. ▸ b) f

theorem State.Ledger.releaseReply {slot : Option Nat} (l : s.Ledger (replySlot slot ++ extra)) :
    (s.releaseReply slot).Ledger extra :=
  l.of_same (by constructor <;> simp [State.inflightRecord]) fun b => releaseReply_book (List.append_assoc .. ▸ b)

theorem State.Ledger.fillLowest (l : s.Ledger extra) (f : Frame) : (s.fillLowest f).Ledger extra :=
  l.of_same (by constructor <;> simp [State.inflightRecord]) fun b => fillLowest_book b f

theorem State.Ledger.answered (l : s.Ledger ((n, h) :: extra)) (f : Frame) (code : AckCode) (payload : List Byte) :
    (s.answered f n code payload).Ledger extra :=
  l.of_same (by constructor <;> simp [State.inflightRecord]) fun b => answered_book b f code payload

theorem State.Ledger.scanJudged {r : ScanRecord} (l : s.Ledger (replySlot r.slot ++ extra)) (o : OutcomeCode)
    (data : List Byte) : (s.scanJudged r o data).Ledger extra :=
  l.of_same (by constructor <;> simp [State.inflightRecord]) fun b => scanJudged_book (List.append_assoc .. ▸ b) o data

theorem State.Ledger.bump (l : s.Ledger extra) (c : Counter) : (s.bump c).Ledger extra :=
  l.unchanged (by constructor <;> simp [State.inflightRecord]) rfl

end Slots

/-! ### Records enter and leave -/

/-- The reply slots of some records as reservations. -/
def replySlots (rs : List ExRecord) : List (Nat × Holder) :=
  (rs.filterMap ExRecord.slot).map fun n => (n, Holder.exchange)

@[simp] theorem replySlots_cons (r : ExRecord) (rs : List ExRecord) :
    replySlots (r :: rs) = replySlot r.slot ++ replySlots rs := by
  cases h : r.slot <;> simp [replySlots, replySlot, h]

@[simp] theorem replySlots_nil : replySlots [] = [] := rfl

/-- The slots that a state holds, its records and its commit apart. -/
theorem heldSlots_eq (s : State) :
    s.heldSlots = replySlots s.records ++ (s.commit.bind PendingCommit.slot).toList.map fun n => (n, Holder.commit) := rfl

theorem replySlots_perm {a b : List ExRecord} (p : a.Perm b) : (replySlots a).Perm (replySlots b) :=
  (p.filterMap _).map _

theorem replySlots_append (a b : List ExRecord) : replySlots (a ++ b) = replySlots a ++ replySlots b := by
  simp [replySlots]

/-- Records that leave a state leave their slots behind, reserved. -/
theorem heldSlots_perm {s t : State} {gone : List ExRecord} (records : (gone ++ t.records).Perm s.records)
    (commit : t.commit = s.commit) : s.heldSlots.Perm (replySlots gone ++ t.heldSlots) := by
  rw [heldSlots_eq, heldSlots_eq, commit, ← List.append_assoc, ← replySlots_append]
  exact (replySlots_perm records.symm).append_right _

section Records
variable {s : State} {extra : List (Nat × Holder)}

/-- Records leave the queue; their slots are in the hands of the event. -/
theorem State.Ledger.leave (l : s.Ledger extra) {gone : List ExRecord} {q : ExchangeQueue}
    (p : (gone ++ q.all).Perm s.queue.all) : ({ s with queue := q } : State).Ledger (replySlots gone ++ extra) := by
  obtain ⟨book, queued, flying, through, outward⟩ := l
  have records : (gone ++ ({ s with queue := q } : State).records).Perm s.records := by
    rw [State.records, State.records, ← List.append_assoc]
    exact p.append_right _
  refine ⟨book.perm ?_, fun r hr => queued r (p.mem_iff.mp (List.mem_append_right _ hr)), flying, through, outward⟩
  rw [List.append_assoc]
  exact ((heldSlots_perm records rfl).append_left extra).trans (List.perm_append_comm_assoc ..)

/-- A record enters the queue, its slot with it. -/
theorem State.Ledger.enqueue {r : ExRecord} (l : s.Ledger (replySlot r.slot ++ extra))
    (own : r.slot.isSome = r.isController) : (s.enqueue r).Ledger extra := by
  obtain ⟨book, queued, flying, through, outward⟩ := l
  have all : (s.enqueue r).queue.all.Perm (r :: s.queue.all) := insert_perm s.queue r
  have records : ([r] ++ s.records).Perm (s.enqueue r).records := (all.append_right _).symm
  refine ⟨book.perm ?_, fun x hx => ?_, flying, through, outward⟩
  · have held := heldSlots_perm records rfl
    rw [replySlots_cons, replySlots_nil, List.append_nil] at held
    rw [List.append_assoc]
    exact (List.perm_append_comm_assoc ..).trans (held.symm.append_left extra)
  · rcases List.mem_cons.mp (all.mem_iff.mp hx) with rfl | hx
    · exact own
    · exact queued x hx

/-- The exchange in flight completes: its slot is used up. -/
theorem State.Ledger.complete {x : Exchange} (l : s.Ledger extra) (hx : s.inflightRecord = some x.record)
    (o : Option OutcomeCode) (data : List Byte) : (s.complete x o data).Ledger extra := by
  obtain ⟨book, queued, flying, through, outward⟩ := l
  have lost : s.dlc.sessionLost = true → x.record.slot = none := by
    intro hl
    have := flying _ hx
    simpa [hl] using this
  have landed : (s.complete x o data).inflightRecord = none := by simp [State.inflightRecord]
  have records : ([x.record] ++ (s.complete x o data).records).Perm s.records := by
    rw [State.records, State.records, landed, hx, complete_queue]
    simpa using List.perm_append_comm (l₁ := [x.record]) (l₂ := s.queue.all)
  have held := heldSlots_perm records (complete_commit x o data s)
  rw [replySlots_cons, replySlots_nil, List.append_nil] at held
  have sent : (s.complete x o data).sentSlot = s.sentSlot := by simp [State.sentSlot]
  refine ⟨?_, by simpa using queued, fun r hr => by simp [landed] at hr, by simpa using through, by simpa using outward⟩
  rw [sent]
  exact complete_book (book.perm ((held.append_left extra).trans (List.perm_append_comm_assoc ..))) lost o data

/-- A record that the event has taken goes into flight with its slot (R38). -/
theorem State.Ledger.startExchange {r : ExRecord} (l : s.Ledger (replySlot r.slot ++ extra))
    (idle : s.inflightRecord = none) (own : r.slot.isSome = !r.isProbe) : (s.startExchange r).Ledger extra := by
  obtain ⟨book, queued, flying, through, outward⟩ := l
  have records : ([r] ++ s.records).Perm (s.startExchange r).records := by
    rw [State.records, State.records, startExchange_inflightRecord, startExchange_queue, idle]
    simpa using List.perm_append_comm (l₁ := [r]) (l₂ := s.queue.all)
  have held := heldSlots_perm records (startExchange_commit r s).symm
  rw [replySlots_cons, replySlots_nil, List.append_nil] at held
  have sent : (s.startExchange r).sentSlot = s.sentSlot := by simp [State.sentSlot]
  refine ⟨?_, by simpa using queued, fun x hx => ?_, by simpa using through, by simpa using outward⟩
  · rw [sent, startExchange_loq]
    rw [List.append_assoc] at book
    exact book.perm ((List.perm_append_comm_assoc ..).trans (held.symm.append_left extra))
  · rw [startExchange_inflightRecord] at hx
    cases hx
    simp [own]

end Records

end Sys2Proof.Machine
end

section
/-! ## The ledger is kept by every event -/

namespace Sys2Proof.Machine

/-! ### Dues, expiry, the revival point -/

section Ticks
variable {s : State} {extra : List (Nat × Holder)}

theorem State.Ledger.missDue (l : s.Ledger extra) (i : Nat) : (s.missDue i).Ledger extra :=
  l.unchanged (by constructor <;> simp [State.inflightRecord]) (by simp)

theorem State.Ledger.judgeDue (l : s.Ledger extra) (i : Nat) : (s.judgeDue i).Ledger extra := by
  unfold State.judgeDue
  dsimp only
  split
  · exact l.missDue i
  · split
    · exact l.of_same (by constructor <;> simp [State.inflightRecord]) fun b => offlineDue_book b i _
    · split
      · exact (l.enqueue (r := .scan _) rfl).withScan _
      · exact l.missDue i

theorem State.Ledger.settleDues (l : s.Ledger extra) : s.settleDues.Ledger extra := by
  have fold : ∀ (dues : List Nat) (t : State), t.Ledger extra → (dues.foldl (fun t i => t.judgeDue i) t).Ledger extra := by
    intro dues
    induction dues with
    | nil => exact fun _ h => h
    | cons i dues ih => exact fun t h => ih _ (h.judgeDue i)
  exact fold _ _ (l.withScan _)

/-- Queued records that have left are done with one by one, when each step uses up its record's slot. -/
theorem State.Ledger.foldGone {f : State → ExRecord → State} {gone : List ExRecord}
    (l : s.Ledger (replySlots gone ++ extra)) (own : ∀ r ∈ gone, r.slot.isSome = r.isController)
    (each : ∀ (t : State) (r : ExRecord) (e : List (Nat × Holder)), r.slot.isSome = r.isController →
      t.Ledger (replySlot r.slot ++ e) → (f t r).Ledger e) : (gone.foldl f s).Ledger extra := by
  induction gone generalizing s with
  | nil => exact l
  | cons r gone ih =>
    rw [replySlots_cons, List.append_assoc] at l
    exact ih (each s r _ (own r List.mem_cons_self) l) fun x hx => own x (List.mem_cons_of_mem r hx)

/-- A queued record that is no CONTROLLER record holds no slot. -/
theorem replySlot_of_not_controller {slot : Option Nat} (own : slot.isSome = false) : replySlot slot = [] := by
  rw [Option.isSome_eq_false_iff, Option.isNone_iff_eq_none] at own
  rw [own]; rfl

theorem State.Ledger.expireOne (l : s.Ledger (replySlot r.slot ++ extra)) (own : r.slot.isSome = r.isController) :
    (s.expireOne r).Ledger extra := by
  cases r with
  | controller c => exact (l.answer _).bump _
  | scan c => rw [replySlot_of_not_controller own] at l; exact l
  | probe n => exact l

theorem State.Ledger.takeExpired (l : s.Ledger extra) : s.takeExpired.Ledger extra :=
  (l.leave (remove_perm s.queue (ExRecord.isExpired s.timer.count))).foldGone
    (fun r hr => l.queued r (List.mem_filter.mp hr).1) fun _ _ _ own h => h.expireOne own

theorem State.Ledger.reviveNow (l : s.Ledger extra) : s.reviveNow.Ledger extra := by
  unfold State.reviveNow
  split
  · exact l
  · split
    · exact l
    · split
      · exact (l.enqueue (r := .probe _) rfl).withScan _
      · exact l

theorem State.Ledger.settleRevival (l : s.Ledger extra) : s.settleRevival.Ledger extra := by
  unfold State.settleRevival
  split
  · exact (l.withScan _).reviveNow
  · exact l

theorem State.Ledger.settleTick (l : s.Ledger extra) : s.settleTick.Ledger extra :=
  l.takeExpired.settleRevival.settleDues

theorem State.Ledger.nextDue (l : s.Ledger extra) : s.nextDue.Ledger extra := by
  unfold State.nextDue
  split
  · exact l
  · exact (l.withScan _).judgeDue _

theorem State.Ledger.tick (l : s.Ledger extra) :
    s.settleTick.countTick.revivalTick.holdoffTick.scanStep.Ledger extra :=
  l.settleTick.unchanged (by constructor <;> simp [State.inflightRecord]) (by simp)

theorem State.Ledger.settleBefore (l : s.Ledger extra) (want : Frame → Bool) : (s.settleBefore want).Ledger extra := by
  unfold State.settleBefore
  split
  · exact l
  · split
    · exact l.settleDues
    · exact l

end Ticks

/-! ### Links and frames -/

section Links
variable {s : State} {extra : List (Nat × Holder)}

/-- A state without a record, a commit and a frame being sent on Port U, all of whose slots are FREE. -/
theorem ledger_of_empty {t : State} (loq : t.loq = Vector.replicate 64 .free) (queue : t.queue = {})
    (slotless : ∀ r, t.inflightRecord = some r → r.slot = none ∧ (r.isProbe = true ∨ t.dlc.sessionLost = true))
    (commit : t.commit.bind PendingCommit.slot = none) (sent : t.sentSlot = none)
    (through : ∀ x, t.uTx = some x → x.source = .htq → t.htq.head? = some x.frame)
    (outward : ∀ f, t.dTx = some f → t.otq.head? = some f) : t.Ledger [] := by
  have slots : t.exchangeSlots = [] := by
    rw [exchangeSlots_eq, queue]
    cases hr : t.inflightRecord with
    | none => rfl
    | some r => simp [(slotless r hr).1, ExchangeQueue.all]
  refine ⟨?_, by simp [queue, ExchangeQueue.all], fun r hr => ?_, through, outward⟩
  · rw [loq, sent, State.heldSlots, slots, commit]
    exact SlotBook.empty
  · obtain ⟨free, gone⟩ := slotless r hr
    rcases gone with gone | gone <;> simp [free, gone]

theorem loseSession_inflight (d : Dlc) :
    d.loseSession.inflight = d.inflight.map fun x => { x with record := x.record.withSlot none } := by
  unfold Dlc.loseSession
  split <;> rename_i h <;> simp [h]

theorem loseSession_sessionLost {d : Dlc} (h : d.inflight.isSome = true) : d.loseSession.sessionLost = true := by
  unfold Dlc.loseSession
  split
  · next e => simp [e] at h
  · rfl

@[simp] theorem withSlot_isProbe (slot : Option Nat) (r : ExRecord) : (r.withSlot slot).isProbe = r.isProbe := by
  cases r <;> rfl

@[simp] theorem withSlot_none_slot (r : ExRecord) : (r.withSlot none).slot = none := by cases r <;> rfl

theorem State.Ledger.uplinkLoss (l : s.Ledger []) : s.uplinkLoss.Ledger [] := by
  refine ledger_of_empty rfl rfl (fun r hr => ?_) ?_ rfl nofun l.outward
  · have flight : s.uplinkLoss.inflightRecord = s.dlc.loseSession.inflight.map Exchange.record := rfl
    rw [flight, loseSession_inflight, Option.map_map] at hr
    obtain ⟨x, hx, rfl⟩ := Option.map_eq_some_iff.mp hr
    exact ⟨withSlot_none_slot x.record, .inr (loseSession_sessionLost (by simp [hx]))⟩
  · show (s.commit.map fun c => { c with slot := none }).bind PendingCommit.slot = none
    cases s.commit <;> rfl

theorem State.Ledger.setPort (l : s.Ledger extra) (p : PortId) (q : Port) : (s.setPort p q).Ledger extra :=
  l.unchanged (by constructor <;> simp [State.inflightRecord]) (by simp)

theorem State.Ledger.noticeLink (l : s.Ledger extra) (p : PortId) (k : LinkState) : (s.noticeLink p k).Ledger extra :=
  l.unchanged (by constructor <;> simp [State.inflightRecord]) (by simp)

theorem State.Ledger.checkError (l : s.Ledger extra) (p : PortId) : (s.checkError p).Ledger extra :=
  l.unchanged (by constructor <;> simp [State.inflightRecord]) (by simp)

theorem State.Ledger.judgeU (l : s.Ledger extra) : s.judgeU.Ledger extra :=
  ⟨l.book, l.queued, l.flying, l.through, l.outward⟩

theorem State.Ledger.judgeD (l : s.Ledger extra) : s.judgeD.Ledger extra :=
  ⟨l.book, l.queued, l.flying, l.through, l.outward⟩

/-- The OTQ is emptied and nothing of it is being sent any more (R155). -/
theorem State.Ledger.discardOtq (l : s.Ledger extra) : s.discardOtq.Ledger extra := by
  have emptied : ({ s with otq := [], dTx := none } : State).Ledger extra :=
    ⟨l.book, l.queued, l.flying, l.through, nofun⟩
  have fold : ∀ (fs : List Frame) (t : State), t.Ledger extra → (fs.foldl State.discardOutward t).Ledger extra := by
    intro fs
    induction fs with
    | nil => exact fun _ h => h
    | cons f fs ih =>
      exact fun t h => ih _ (h.unchanged (by constructor <;> simp [State.inflightRecord]) (by simp))
  exact fold _ _ emptied

theorem State.Ledger.enterDown (l : s.Ledger []) (p : PortId) : (s.enterDown p).Ledger [] := by
  cases p with
  | u => exact (((l.settleDues.setPort .u _).uplinkLoss).noticeLink .u .down).judgeD
  | d => exact (((l.setPort .d _).discardOtq).noticeLink .d .down).judgeU

theorem State.Ledger.placeOtq (l : s.Ledger extra) (f : Frame) : (s.placeOtq f).Ledger extra := by
  refine l.unchanged ?_ (by simp)
  refine ⟨by simp, by simp [State.inflightRecord], by simp, by simp, by simp, by simp, by simp, fun g hg => ?_⟩
  unfold State.placeOtq
  split
  · exact List.mem_head?_append_of_mem_head? hg
  · simpa using hg

theorem State.Ledger.placeHtq (l : s.Ledger extra) (f : Frame) : (s.placeHtq f).Ledger extra := by
  refine l.unchanged ?_ (by simp)
  refine ⟨by simp, by simp [State.inflightRecord], by simp, by simp, by simp, fun g hg => ?_, by simp, by simp⟩
  unfold State.placeHtq
  split
  · exact List.mem_head?_append_of_mem_head? hg
  · simpa using hg

theorem State.Ledger.placeInbox (l : s.Ledger extra) (f : Frame) : (s.placeInbox f).Ledger extra :=
  l.unchanged (by constructor <;> simp [State.inflightRecord]) (by simp)

theorem State.Ledger.unreachableFrame (l : s.Ledger extra) (p : BitVec 6) : (s.unreachableFrame p).Ledger extra :=
  l.unchanged (by constructor <;> simp [State.inflightRecord]) (by simp)

theorem State.Ledger.enumerateAt (l : s.Ledger extra) (h : Header) (c : Byte) : (s.enumerateAt h c).Ledger extra := by
  unfold State.enumerateAt
  dsimp only
  split
  · exact State.Ledger.placeOtq (s := { s with position := positionAfter c })
      ⟨l.book, l.queued, l.flying, l.through, l.outward⟩ _
  · exact ⟨l.book, l.queued, l.flying, l.through, l.outward⟩

theorem State.Ledger.broadcastControl (l : s.Ledger extra) (f : Frame) : (s.broadcastControl f).Ledger extra := by
  unfold State.broadcastControl
  have inward : (if s.selectedBy f && broadcastable f.code then s.placeInbox f else s).Ledger extra := by
    split
    · exact l.placeInbox f
    · exact l
  dsimp only
  split
  · exact inward.placeOtq f
  · exact inward

theorem State.Ledger.forwardOutward (l : s.Ledger extra) (f : Frame) : (s.forwardOutward f).Ledger extra := by
  unfold State.forwardOutward
  split
  · exact l.placeOtq f
  · exact l.unreachableFrame _

theorem State.Ledger.outwardSwitch (l : s.Ledger extra) (f : Frame) : (s.outwardSwitch f).Ledger extra := by
  unfold State.outwardSwitch
  split
  · exact l.enumerateAt _ _
  · split
    · exact l.placeInbox f
    · split
      · exact l.bump _
      · exact l.forwardOutward f
  · split
    · exact l.placeInbox f
    · split
      · exact l.broadcastControl f
      · exact l.forwardOutward f
  all_goals exact l.bump _

theorem State.Ledger.homewardSwitch (l : s.Ledger extra) (f : Frame) : (s.homewardSwitch f).Ledger extra := by
  unfold State.homewardSwitch
  split
  · exact l.placeHtq f
  · exact l.bump _

end Links

/-! ### Sending -/

section Sending
variable {s : State} {extra : List (Nat × Holder)}

/-- The slot that the Local Output Queue offers is FILLED, with the offered frame. -/
theorem bestSlot_mem {sending : Nat → Bool} {l : List Slot} {start n k : Nat} {f : Frame}
    (h : bestSlot sending start l = some (n, f, k)) : start ≤ n ∧ l[n - start]? = some (.filled f k) := by
  induction l generalizing start n f k with
  | nil => cases h
  | cons x rest ih =>
    have later : ∀ {m g j}, bestSlot sending (start + 1) rest = some (m, g, j) →
        start ≤ m ∧ (x :: rest)[m - start]? = some (.filled g j) := by
      intro m g j hm
      obtain ⟨le, at_m⟩ := ih hm
      refine ⟨by omega, ?_⟩
      rw [show m - start = (m - (start + 1)) + 1 by omega, List.getElem?_cons_succ]
      exact at_m
    cases x with
    | free => exact later h
    | reserved _ => exact later h
    | filled g j =>
      simp only [bestSlot] at h
      have here : (n, f, k) = (start, g, j) → start ≤ n ∧ (Slot.filled g j :: rest)[n - start]? = some (.filled f k) := by
        intro e
        cases e
        simp
      split at h
      · exact later h
      · split at h
        · exact here (Option.some.inj h).symm
        · next found =>
          split at h
          · exact here (Option.some.inj h).symm
          · cases h
            exact later found

theorem nextLocal_filled {n : Nat} {f : Frame} (h : s.nextLocal = some (n, f)) : ∃ k, s.slot n = .filled f k := by
  obtain ⟨⟨m, g, k⟩, hb, e⟩ := Option.map_eq_some_iff.mp h
  cases e
  obtain ⟨-, at_n⟩ := bestSlot_mem hb
  refine ⟨k, ?_⟩
  rw [State.slot, vget_toList, List.getD]
  exact congrArg (fun o => o.getD Slot.free) at_n

theorem State.Ledger.sendThrough (l : s.Ledger extra) {f : Frame} (hf : s.htq.head? = some f) (k : Nat) :
    (s.sendThrough f k).Ledger extra := by
  refine ⟨l.book.notSending, l.queued, l.flying, fun x hx _ => ?_, l.outward⟩
  cases hx
  exact hf

theorem State.Ledger.sendLocal (l : s.Ledger extra) {n k : Nat} {f g : Frame} (filled : s.slot n = .filled g k) :
    (s.sendLocal n f).Ledger extra := by
  have full : (vget s.loq n .free).isFilled = true := by
    show (s.slot n).isFilled = true
    rw [filled]; rfl
  refine ⟨l.book.notSending.send full, l.queued, l.flying, fun x hx src => ?_, l.outward⟩
  cases hx
  cases src

theorem State.Ledger.grant (l : s.Ledger extra) : s.grant.Ledger extra := by
  unfold State.grant
  split
  · exact l
  · next hq _ => exact l.sendThrough (by rw [hq]; rfl) _
  · next hn =>
    obtain ⟨k, filled⟩ := nextLocal_filled hn
    exact l.sendLocal filled
  · next hq hn =>
    split
    · exact l.sendThrough (by rw [hq]; rfl) _
    · obtain ⟨k, filled⟩ := nextLocal_filled hn
      exact l.sendLocal filled

/-- The slot whose frame has been sent becomes FREE (R122, R127). -/
theorem State.Ledger.freeSent (l : s.Ledger extra) {x : UTx} {n : Nat} (hx : s.uTx = some x) (src : x.source = .slot n) :
    (State.freeSlot n { s with uTx := none }).Ledger extra := by
  have sent : s.sentSlot = some n := by simp [State.sentSlot, hx, src, TxSource.slot?]
  have filled : (s.slot n).isFilled = true := l.book.sending n sent
  cases hs : s.slot n with
  | free => rw [hs] at filled; cases filled
  | reserved h => rw [hs] at filled; cases filled
  | filled f k =>
    have freed : State.freeSlot n { s with uTx := none } =
        { s with uTx := none, loq := vmap (Slot.lower k) (vset s.loq n .free) } := by
      unfold State.freeSlot
      rw [show State.slot { s with uTx := none } n = .filled f k from hs]
    rw [freed]
    exact ⟨l.book.freeFilled hs, l.queued, l.flying, nofun, l.outward⟩

theorem State.Ledger.idleU (l : s.Ledger extra) : s.idleU.Ledger extra :=
  l.unchanged (by constructor <;> simp [State.inflightRecord]) (by simp)

theorem State.Ledger.endUTx (l : s.Ledger extra) : s.endUTx.Ledger extra := by
  unfold State.endUTx
  split
  · exact l
  · next x hx =>
    have cleared : ∀ htq, ({ s with uTx := none, htq := htq } : State).Ledger extra := fun _ =>
      ⟨l.book.notSending, l.queued, l.flying, nofun, l.outward⟩
    refine State.Ledger.idleU ?_
    split
    · next src => exact l.freeSent hx src
    · exact (cleared _).judgeD
    · exact cleared _

theorem State.Ledger.placeNotice (l : s.Ledger extra) : s.placeNotice.Ledger extra := by
  unfold State.placeNotice
  exact (l.fillLowest _).withNotice _

end Sending

end Sys2Proof.Machine
end

section
/-! ## The ledger through the Inbox head, the commands, the selection and the exchange -/

namespace Sys2Proof.Machine

/-- What is taken from the Inbox is its head, into the lowest FREE slot (R8). -/
theorem takeHead_cases {s t : State} {want : Frame → Bool} {f : Frame} {n : Nat} (h : s.takeHead want = some (f, n, t)) :
    want f = true ∧ ∃ rest, s.inbox = f :: rest ∧ s.lowestFree = some n ∧ t = s.took rest n := by
  unfold State.takeHead at h
  split at h
  · cases h
  · next g rest hi =>
    split at h
    · next hw =>
      split at h
      · cases h
      · next m hm =>
        cases h
        exact ⟨hw, rest, hi, hm, rfl⟩
    · cases h

section Heads
variable {s t : State} {f : Frame} {n : Nat}

theorem State.Ledger.took (l : s.Ledger []) (rest : List Frame) (hn : s.lowestFree = some n) :
    (s.took rest n).Ledger [(n, .dispatch)] := by
  have reserved : (s.reserveSlot n .dispatch).Ledger [(n, .dispatch)] := l.reserveLowest hn .dispatch
  exact ⟨reserved.book, reserved.queued, reserved.flying, reserved.through, reserved.outward⟩

theorem State.Ledger.takeHead {want : Frame → Bool} (l : s.Ledger []) (h : s.takeHead want = some (f, n, t)) :
    t.Ledger [(n, .dispatch)] := by
  obtain ⟨-, rest, -, hn, rfl⟩ := takeHead_cases h
  exact l.took rest hn

theorem State.Ledger.finishControl {r : CommandResult} (l : r.state.Ledger [(n, .dispatch)]) (f : Frame) :
    (finishControl f n r).Ledger [] := by
  rw [finishControl_eq]
  exact l.answered f r.code r.payload

/-- A command keeps the ledger when its own rule does, its slot claimed. -/
theorem State.Ledger.dispatch {c : Command} {run : List Byte → State → CommandResult} (l : s.Ledger [])
    (rule : ∀ ops n (t : State), t.Ledger [(n, .dispatch)] → (run ops t).state.Ledger [(n, .dispatch)]) :
    (dispatch c run s).Ledger [] := by
  unfold Machine.dispatch
  split
  · exact l
  · next f n t ht =>
    refine State.Ledger.finishControl ?_ f
    unfold runCommand
    split
    · exact rule _ _ _ (l.takeHead ht)
    · exact l.takeHead ht

theorem State.Ledger.admitRequest (l : s.Ledger [(n, .dispatch)]) (f : Frame) : (s.admitRequest f n).Ledger [] := by
  unfold State.admitRequest
  split
  · exact (l.fillSlot _).bump _
  · exact State.Ledger.enqueue (r := .controller _) (l.pass .exchange) rfl

end Heads

/-! ### Each command's own rule -/

section Rules
variable {s : State} {extra : List (Nat × Holder)}

@[simp] theorem writeOwnParam_loq (id v : Nat) (s : State) : (s.writeOwnParam id v).loq = s.loq := by
  unfold State.writeOwnParam; (repeat' split) <;> rfl

@[simp] theorem writeOwnParam_queue (id v : Nat) (s : State) : (s.writeOwnParam id v).queue = s.queue := by
  unfold State.writeOwnParam; (repeat' split) <;> rfl

theorem State.Ledger.runSetParam (l : s.Ledger extra) (ops : List Byte) : (runSetParam ops s).state.Ledger extra := by
  unfold Machine.runSetParam
  dsimp only
  split
  · exact l
  · split
    · exact l
    · dsimp only
      split
      · refine State.Ledger.unchanged (t := s.writeLineSetting _ _) l ?_ (by simp)
        constructor <;> simp [State.inflightRecord, writeLineSetting_inflight, writeLineSetting_sessionLost]
      · refine State.Ledger.unchanged (t := s.writeOwnParam _ _) l ?_ (by simp)
        constructor <;> simp [State.inflightRecord]

theorem State.Ledger.runClearFaults (l : s.Ledger extra) (ops : List Byte) :
    (runClearFaults ops s).state.Ledger extra := by
  unfold Machine.runClearFaults
  dsimp only
  split
  · exact l
  · exact ⟨l.book, l.queued, l.flying, l.through, l.outward⟩

theorem State.Ledger.runReadCounters (l : s.Ledger extra) (ops : List Byte) :
    (runReadCounters ops s).state.Ledger extra := by
  unfold Machine.runReadCounters
  dsimp only
  split
  · exact ⟨l.book, l.queued, l.flying, l.through, l.outward⟩
  · exact l

theorem State.Ledger.setBank (l : s.Ledger extra) (i : BankId) (b : Bank) : (s.setBank i b).Ledger extra :=
  l.unchanged (by constructor <;> simp [State.inflightRecord]) (by simp)

theorem State.Ledger.runTableWrite (l : s.Ledger extra) (ops : List Byte) :
    (runTableWrite ops s).state.Ledger extra := by
  unfold Machine.runTableWrite
  split
  · exact l
  · dsimp only
    split
    · exact l
    · split
      · exact l
      · exact l.setBank _ _

theorem runTableRead_state (ops : List Byte) (s : State) : (runTableRead ops s).state = s := by
  unfold runTableRead
  split
  · dsimp only
    split <;> rfl
  · rfl

theorem runGetParam_state (ops : List Byte) (s : State) : (runGetParam ops s).state = s := by
  unfold runGetParam
  dsimp only
  split <;> rfl

theorem runNodeRead_state (ops : List Byte) (s : State) : (runNodeRead ops s).state = s := by
  unfold runNodeRead
  dsimp only
  split <;> rfl

theorem State.Ledger.runShadowLoad (l : s.Ledger extra) (ops : List Byte) :
    (runShadowLoad ops s).state.Ledger extra := by
  unfold Machine.runShadowLoad
  split
  · exact l
  · exact l.setBank _ _

theorem State.Ledger.runNodeReset (l : s.Ledger extra) (ops : List Byte) : (runNodeReset ops s).state.Ledger extra := by
  unfold Machine.runNodeReset
  dsimp only
  split
  · exact l
  · split
    · exact l
    · exact l.unchanged (by constructor <;> simp [State.inflightRecord]) (by simp)

/-- A queued record that is cancelled is answered in its slot (R27). -/
theorem State.Ledger.cancelOne {r : ExRecord} (l : s.Ledger (replySlot r.slot ++ extra))
    (own : r.slot.isSome = r.isController) : (s.cancelOne r).Ledger extra := by
  cases r with
  | controller c => exact l.answer _
  | scan c => rw [replySlot_of_not_controller own] at l; exact l
  | probe n => exact l

theorem mark_slot (r : ExRecord) : r.mark.slot = r.slot := by cases r <;> rfl
theorem mark_isProbe (r : ExRecord) : r.mark.isProbe = r.isProbe := by cases r <;> rfl

theorem State.Ledger.takeFirst {p : ExRecord → Bool} {r : ExRecord} {q : ExchangeQueue} (l : s.Ledger extra)
    (h : s.queue.takeFirst p = some (r, q)) :
    ({ s with queue := q } : State).Ledger (replySlot r.slot ++ extra) ∧ r.slot.isSome = r.isController := by
  have gone := l.leave (gone := [r]) (takeFirst_perm h).symm
  rw [replySlots_cons, replySlots_nil, List.append_nil] at gone
  exact ⟨gone, l.queued r (takeFirst_mem h).1⟩

theorem State.Ledger.runCancel (l : s.Ledger extra) (ops : List Byte) : (runCancel ops s).state.Ledger extra := by
  unfold Machine.runCancel
  dsimp only
  split
  · next r q hq =>
    obtain ⟨gone, own⟩ := l.takeFirst hq
    exact gone.cancelOne own
  · split
    · next x hx =>
      split
      · refine l.unchanged ?_ rfl
        constructor <;> simp [State.inflightRecord, hx, mark_slot, mark_isProbe]
      · exact l
    · exact l

theorem State.Ledger.runFlush (l : s.Ledger extra) (ops : List Byte) : (runFlush ops s).state.Ledger extra :=
  (l.leave (remove_perm s.queue (ExRecord.flushed (opByte ops 0)))).foldGone
    (fun r hr => l.queued r (List.mem_filter.mp hr).1) fun _ _ _ _ h => h.releaseReply

theorem State.Ledger.haltLine (l : s.Ledger extra) : s.haltLine.Ledger extra :=
  l.unchanged (by constructor <;> simp [State.inflightRecord, haltLine_inflight, haltLine_sessionLost]) (by simp)

theorem State.Ledger.runLine (l : s.Ledger extra) : s.runLine.Ledger extra :=
  l.unchanged (by constructor <;> simp [State.inflightRecord, runLine_inflight, runLine_sessionLost]) (by simp)

end Rules

/-! ### Commits and soft resets -/

section Commits
variable {s : State} {extra : List (Nat × Holder)}

/-- The slots that the exchange records hold, apart from the commit's. -/
theorem heldSlots_of_commit (s : State) :
    s.heldSlots.Perm ((s.commit.bind PendingCommit.slot).toList.map (fun n => (n, Holder.commit)) ++
      ({ s with commit := none } : State).heldSlots) := by
  have bare : ({ s with commit := none } : State).heldSlots = replySlots s.records := by
    rw [heldSlots_eq]
    exact List.append_nil _
  rw [bare, heldSlots_eq]
  exact List.perm_append_comm

/-- The pending commit ends and leaves its slot to the event. -/
theorem State.Ledger.endCommit (l : s.Ledger []) :
    ({ s with commit := none } : State).Ledger
      ((s.commit.bind PendingCommit.slot).toList.map fun n => (n, Holder.commit)) :=
  ⟨l.book.perm (heldSlots_of_commit s), l.queued, l.flying, l.through, l.outward⟩

/-- A commit begins with the slot that the event hands it. -/
theorem State.Ledger.beginCommit {c : PendingCommit} (free : s.commit = none)
    (l : s.Ledger (c.slot.toList.map fun n => (n, Holder.commit))) : ({ s with commit := some c } : State).Ledger [] := by
  have held := heldSlots_of_commit { s with commit := some c }
  rw [show ({ s with commit := none } : State) = s by rw [← free]] at held
  exact ⟨l.book.perm held.symm, l.queued, l.flying, l.through, l.outward⟩

theorem State.Ledger.ackCommit (c : PendingCommit) (code : AckCode) (payload : List Byte)
    (l : s.Ledger (c.slot.toList.map fun n => (n, Holder.commit))) : (s.ackCommit c code payload).Ledger [] := by
  unfold State.ackCommit State.answer
  cases hs : c.slot with
  | none => rw [hs] at l; exact l
  | some n => rw [hs] at l; exact l.fillSlot _

theorem State.Ledger.rejectCommit {c : PendingCommit} (l : s.Ledger []) (hc : s.commit = some c) (t : TableId) (i : Nat)
    (r : Reason) : (s.rejectCommit c t i r).Ledger [] := by
  have ended := l.endCommit
  rw [hc] at ended
  exact ended.ackCommit c _ _

theorem State.Ledger.startCommit {n : Nat} (l : s.Ledger [(n, .dispatch)]) (idle : s.validating = false) (f : Frame) :
    (s.startCommit f n).Ledger [] := by
  have free : s.commit = none := by simpa [State.validating] using idle
  unfold State.startCommit
  cases broadcastFrame f with
  | true => exact State.Ledger.beginCommit (by simpa using free) l.freeSlot
  | false => exact State.Ledger.beginCommit (by simpa using free) (l.pass .commit)

theorem State.Ledger.takeCommit (l : s.Ledger []) : s.takeCommit.Ledger [] := by
  unfold State.takeCommit
  split
  · exact l
  · next f n t ht =>
    split
    · exact State.Ledger.finishControl (l.takeHead ht) f
    · split
      · exact State.Ledger.finishControl (l.takeHead ht) f
      · next idle => exact (l.takeHead ht).startCommit (by simpa using idle) f

/-- The SCAN records that a swap removes hold no slot (R22). -/
theorem replySlots_scans {gone : List ExRecord} (own : ∀ r ∈ gone, r.slot.isSome = r.isController)
    (scans : ∀ r ∈ gone, r.isScan = true) : replySlots gone = [] := by
  induction gone with
  | nil => rfl
  | cons r gone ih =>
    have mine : r.slot.isSome = false := by
      rw [own r List.mem_cons_self]
      have := scans r List.mem_cons_self
      cases r with
      | scan c => rfl
      | controller c => cases this
      | probe n => cases this
    rw [replySlots_cons, replySlot_of_not_controller mine,
      ih (fun x hx => own x (List.mem_cons_of_mem r hx)) fun x hx => scans x (List.mem_cons_of_mem r hx)]
    rfl

theorem State.Ledger.takeSwap {c : PendingCommit} (l : s.Ledger []) (hc : s.commit = some c) :
    (s.takeSwap c).Ledger [] := by
  have left := l.leave (remove_perm s.queue ExRecord.isScan)
  rw [replySlots_scans (fun r hr => l.queued r (List.mem_filter.mp hr).1) fun r hr => (List.mem_filter.mp hr).2] at left
  have ended := left.endCommit
  rw [show ({ s with queue := s.queue.remove ExRecord.isScan } : State).commit = some c from hc] at ended
  have swapped : s.swapBanks.Ledger (c.slot.toList.map fun n => (n, Holder.commit)) :=
    ⟨ended.book, ended.queued, ended.flying, ended.through, ended.outward⟩
  exact swapped.ackCommit c _ _

theorem State.Ledger.idleStep (l : s.Ledger []) : s.idleStep.Ledger [] := by
  unfold State.idleStep
  split
  · exact l
  · next c hc =>
    have same : ({ s with commit := some { c with cursor := sweepAdvance s.shadow c.cursor } } : State).heldSlots =
        s.heldSlots := by
      rw [heldSlots_eq, heldSlots_eq s, hc]
      rfl
    exact ⟨by rw [same]; exact l.book, l.queued, l.flying, l.through, l.outward⟩

theorem resetDlc_inflight (s : State) : s.resetDlc.dlc.inflight = none := by
  unfold State.resetDlc
  cases s.dlc.state <;> rfl

theorem resetQueues_inflight (s : State) : s.resetQueues.dlc.inflight = none := resetDlc_inflight s

theorem resetLineSettings_inflight (s : State) : s.resetLineSettings.dlc.inflight = s.dlc.inflight := by
  unfold State.resetLineSettings; split <;> rfl

theorem State.Ledger.resetQueues (l : s.Ledger extra) : s.resetQueues.Ledger [] := by
  have uTx : s.resetQueues.uTx = s.uTx.map UTx.detach := rfl
  refine ledger_of_empty rfl rfl (fun r hr => ?_) rfl ?_ (fun x hx src => ?_) (by simpa [State.resetQueues] using l.outward)
  · rw [State.inflightRecord, resetQueues_inflight] at hr
    cases hr
  · rw [State.sentSlot, uTx]
    cases s.uTx with
    | none => rfl
    | some y => obtain ⟨source, frame⟩ := y; cases source <;> rfl
  · rw [uTx] at hx
    obtain ⟨y, hy, rfl⟩ := Option.map_eq_some_iff.mp hx
    obtain ⟨source, frame⟩ := y
    cases source with
    | htq => simpa [State.resetQueues, UTx.detach] using l.through _ hy rfl
    | slot n => cases src
    | detached => cases src

theorem State.Ledger.resetLineSettings (l : s.Ledger extra) : s.resetLineSettings.Ledger extra := by
  unfold State.resetLineSettings
  split <;> exact ⟨l.book, l.queued, l.flying, l.through, l.outward⟩

theorem State.Ledger.softReset (l : s.Ledger extra) (level : ResetLevel) : (s.softReset level).Ledger [] := by
  cases level with
  | queues =>
    have distrusted : s.distrustNode.Ledger extra :=
      l.unchanged (by constructor <;> simp [State.inflightRecord]) (by simp)
    exact distrusted.resetQueues.judgeU
  | full =>
    have lines := l.resetQueues.resetLineSettings
    have full : s.resetQueues.resetFull.Ledger [] :=
      ⟨lines.book, lines.queued, lines.flying, lines.through, lines.outward⟩
    exact full.judgeU

theorem State.Ledger.takeSoftReset (l : s.Ledger []) : s.takeSoftReset.Ledger [] := by
  unfold State.takeSoftReset
  split
  · exact l
  · next f n t ht =>
    split
    · exact State.Ledger.finishControl (l.takeHead ht) f
    · split
      · exact State.Ledger.finishControl (l.takeHead ht) f
      · next level _ =>
        dsimp only
        split
        · exact (l.takeHead ht).softReset level
        · exact ((l.takeHead ht).softReset level).fillLowest _

end Commits

/-! ### Selection and the exchange in flight -/

section Exchanges
variable {s : State} {extra : List (Nat × Holder)}

theorem claimScanSlot_of_not_scan {r : ExRecord} (h : r.isScan = false) (s : State) :
    s.claimScanSlot r = (r, s) := by simp [State.claimScanSlot, h]

/-- A startable SCAN record finds a FREE slot, the lowest one (R20, R22). -/
theorem claimScanSlot_of_scan {c : ScanRecord} (h : s.startable (.scan c) = true) :
    ∃ n, s.lowestFree = some n ∧
      s.claimScanSlot (.scan c) = (.scan { c with slot := some n }, s.reserveSlot n .exchange) := by
  have four : 4 ≤ s.freeCount := by simpa [State.startable, ExRecord.isScan] using h
  obtain ⟨n, hn⟩ := lowestFree_isSome (s := s) (by omega)
  exact ⟨n, hn, by simp [State.claimScanSlot, ExRecord.isScan, hn, ExRecord.withSlot]⟩

/-- A taken record is run with its slot: a SCAN record claims it now, a CONTROLLER record brings it (R18, R22). -/
theorem State.Ledger.claimScanSlot {r : ExRecord} (l : s.Ledger (replySlot r.slot ++ extra))
    (own : r.slot.isSome = r.isController) (start : s.startable r = true) :
    (s.claimScanSlot r).2.Ledger (replySlot (s.claimScanSlot r).1.slot ++ extra) ∧
      (s.claimScanSlot r).1.slot.isSome = !(s.claimScanSlot r).1.isProbe := by
  cases r with
  | controller c => exact ⟨l, own⟩
  | probe n => exact ⟨l, rfl⟩
  | scan c =>
    obtain ⟨n, hn, e⟩ := claimScanSlot_of_scan start
    rw [replySlot_of_not_controller own] at l
    rw [e]
    exact ⟨l.reserveLowest hn .exchange, rfl⟩

theorem State.Ledger.completeOffline {r : ExRecord} (l : s.Ledger (replySlot r.slot ++ extra)) :
    (s.completeOffline r).Ledger extra := by
  cases r with
  | controller c => exact (l.answer _).bump _
  | scan c => exact l.scanJudged _ _
  | probe n => exact l

theorem State.Ledger.runRecord {r : ExRecord} (l : s.Ledger (replySlot r.slot ++ extra))
    (idle : s.inflightRecord = none) (own : r.slot.isSome = !r.isProbe) : (s.runRecord r).Ledger extra := by
  unfold State.runRecord
  split
  · exact l.completeOffline
  · exact l.startExchange idle own

theorem State.Ledger.select (l : s.Ledger extra) (idle : s.inflightRecord = none) : s.select.Ledger extra := by
  unfold State.select
  split
  · exact l
  · next r q hq =>
    obtain ⟨gone, own⟩ := l.takeFirst hq
    have start : State.startable { s with queue := q } r = true := (takeFirst_mem hq).2
    obtain ⟨claimed, own'⟩ := gone.claimScanSlot own start
    exact claimed.runRecord (by simpa [State.inflightRecord] using idle) own'

theorem State.Ledger.setInflight {x : Exchange} (l : s.Ledger extra) (hx : s.inflightRecord = some x.record) :
    (s.setInflight (some x)).Ledger extra := by
  have same : (s.setInflight (some x)).inflightRecord = s.inflightRecord := hx.symm
  exact l.unchanged (by constructor <;> simp [same]) rfl

theorem State.Ledger.enterGuard (l : s.Ledger extra) (n : Nat) : (s.enterGuard n).Ledger extra :=
  ⟨l.book, l.queued, l.flying, l.through, l.outward⟩

theorem State.Ledger.leaveGuard (l : s.Ledger extra) : s.leaveGuard.Ledger extra :=
  l.unchanged (by constructor <;> simp [State.inflightRecord, leaveGuard_inflight, leaveGuard_sessionLost]) (by simp)

theorem State.Ledger.latch (l : s.Ledger extra) (k : FaultKind) : (s.latch k).Ledger extra :=
  ⟨l.book, l.queued, l.flying, l.through, l.outward⟩

theorem State.Ledger.endAttempt {x : Exchange} (l : s.Ledger extra) (hx : s.inflightRecord = some x.record)
    (o : OutcomeCode) (data : List Byte) : (s.endAttempt x o data).Ledger extra := by
  refine State.Ledger.enterGuard ?_ _
  obtain ⟨result, payload, e⟩ | e := recordAttempt_cases x o data s
  · rw [e]; exact l.complete (x := x.noted o) hx result payload
  · rw [e]; exact l.setInflight (x := x.noted o) hx

theorem State.Ledger.stray (l : s.Ledger extra) : s.stray.Ledger extra := (l.bump _).latch _

theorem State.Ledger.receiveChar (l : s.Ledger extra) (c : DropChar) : (s.receiveChar c).Ledger extra := by
  unfold State.receiveChar
  split
  · exact l.stray
  · exact l.stray
  · exact l.stray
  · exact l
  · split
    · split
      · exact l
      · next x hx =>
        have same := l.setInflight (x := { x with response := [c] }) (inflightRecord_of_some (x := x) hx)
        exact ⟨same.book, same.queued, same.flying, same.through, same.outward⟩
    · exact l.stray
  · split
    · exact l
    · next x hx =>
      have flight := inflightRecord_of_some hx
      dsimp only
      split
      · exact l.endAttempt (x := { x with response := x.response ++ [c] }) flight _ _
      · exact l.setInflight (x := { x with response := x.response ++ [c] }) flight

theorem State.Ledger.beginAttempt {x : Exchange} (l : s.Ledger extra) (hx : s.inflightRecord = some x.record) :
    (s.beginAttempt x).Ledger extra := by
  refine l.unchanged ?_ (by simp)
  constructor <;> simp [hx]

theorem State.Ledger.endGuard (l : s.Ledger extra) : s.endGuard.Ledger extra := by
  unfold State.endGuard
  split
  · exact l.leaveGuard
  · next x hx =>
    have flight := inflightRecord_of_some hx
    split
    · exact (l.complete (x := x.noted .sent) flight _ _).leaveGuard
    · split
      · exact (l.complete flight _ _).leaveGuard
      · unfold State.continueExchange
        split
        · exact l.beginAttempt (x := s.mainStep x) flight
        · exact l.beginAttempt flight

theorem transmitting_inflight {x : Exchange} (h : s.transmitting = some x) : s.inflightRecord = some x.record :=
  inflightRecord_of_some (transmitting_eq_some.mp h).2.2

end Exchanges

/-! ### Every command -/

theorem State.Ledger.live {f : State → State} {s t : State} (l : s.Ledger []) (hf : (f s).Ledger [])
    (h : Machine.live f s = .next t) : t.Ledger [] :=
  live_keeps (P := fun s => s.Ledger []) l hf h

theorem ledger_reset (pending : List Instr) (held : Bool) :
    ({ State.reset with inReset := held, pending := pending } : State).Ledger [] :=
  ledger_of_empty rfl rfl nofun rfl rfl nofun nofun

/-- Every command keeps the slots with their holders and the frames being sent. -/
theorem exec_ledger {c : Instr} {s t : State} (l : s.Ledger []) (d : s.DlcLaw) (h : exec c s = .next t) :
    t.Ledger [] := by
  cases c with
  | hardReset cause =>
    obtain rfl : _ = t := Host.Outcome.next.inj h
    split
    · exact ledger_reset _ _
    · exact l
  | resetNRise =>
    obtain rfl : _ = t := Host.Outcome.next.inj h
    split
    · exact ledger_reset _ _
    · exact l
  | tick =>
    rw [exec, execTick] at h
    exact l.live l.tick h
  | expiry =>
    rw [exec, execExpiry] at h
    exact l.live l.takeExpired h
  | revivalPoint =>
    rw [exec, execRevivalPoint] at h
    exact l.live l.settleRevival h
  | scanDue =>
    rw [exec, execScanDue] at h
    exact l.live l.nextDue h
  | linkUp p times =>
    rw [exec, execLinkUp] at h
    refine l.live ?_ h
    split
    · exact l
    · split
      · exact l.setPort p _
      · exact l.unchanged (by constructor <;> simp [State.inflightRecord]) (by simp)
  | linkDown p times =>
    rw [exec, execLinkDown] at h
    refine l.live ?_ h
    split
    · split
      · exact l.setPort p _
      · exact l.enterDown p
    · exact l
  | hold p =>
    rw [exec, execHold] at h
    refine l.live ?_ h; split; exacts [l.setPort p _, l]
  | go p =>
    rw [exec, execGo] at h
    refine l.live ?_ h; split; exacts [l.setPort p _, l]
  | uFrameArrival bytes invalid =>
    rw [exec, execUFrameArrival] at h
    refine l.live ?_ h
    split
    · refine State.Ledger.judgeU ?_
      split
      · exact (l.setPort .u _).checkError .u
      · exact (l.setPort .u _).outwardSwitch _
    · exact l
  | enumerate header count =>
    rw [exec, execEnumerate] at h
    refine l.live ?_ h
    split
    · exact ((l.setPort .u _).enumerateAt _ _).judgeU
    · exact l
  | dFrameArrival bytes invalid =>
    rw [exec, execDFrameArrival] at h
    refine l.live ?_ h
    split
    · refine State.Ledger.judgeD ?_
      split
      · exact (l.setPort .d _).checkError .d
      · exact (l.setPort .d _).homewardSwitch _
    · exact l
  | chainEndAck =>
    rw [exec, execChainEndAck] at h
    refine l.live ?_ h
    split
    · next a n _ hn =>
      have e := l.fillLowest (ackFrame a.cls a.tag enumerateCode .chainEnd [a.count])
      rw [State.fillLowest, hn] at e
      exact ⟨e.book, e.queued, e.flying, e.through, e.outward⟩
    · exact l
  | mergeGrant =>
    rw [exec, execMergeGrant] at h
    refine l.live ?_ h; split; exacts [l.grant, l]
  | uTxFrameEnd =>
    rw [exec, execUTxFrameEnd] at h
    exact l.live l.endUTx h
  | otqSendStart =>
    rw [exec, execOtqSendStart] at h
    refine l.live ?_ h
    split
    · exact l
    · next f rest ho =>
      split
      · refine ⟨l.book, l.queued, l.flying, l.through, fun g hg => ?_⟩
        cases hg
        rw [ho]; rfl
      · exact l
  | otqSendEnd =>
    rw [exec, execOtqSendEnd] at h
    refine l.live ?_ h
    split
    · exact l
    · have ended : ({ s with dTx := none, otq := s.otq.drop 1 } : State).Ledger [] :=
        ⟨l.book, l.queued, l.flying, l.through, nofun⟩
      exact ended.judgeU.unchanged (by constructor <;> simp [State.inflightRecord]) (by simp)
  | noticePlace =>
    rw [exec, execNoticePlace] at h
    refine l.live ?_ h; split; exacts [l.placeNotice, l]
  | requestAdmission =>
    rw [exec, execRequestAdmission] at h
    refine l.live ?_ h
    split
    · exact l
    · next ht => exact (l.takeHead ht).admitRequest _
  | badCommand =>
    rw [exec, execBadCommand] at h
    refine l.live ?_ h
    split
    · exact l
    · next ht => exact State.Ledger.finishControl (l.takeHead ht) _
  | readStatus =>
    rw [exec, execReadStatus] at h
    exact l.live (l.dispatch fun _ _ _ k => k) h
  | getParam =>
    rw [exec, execGetParam] at h
    exact l.live (l.dispatch fun ops _ t k => by rw [runGetParam_state]; exact k) h
  | setParam =>
    rw [exec, execSetParam] at h
    exact l.live ((l.settleBefore _).dispatch fun ops _ _ k => k.runSetParam ops) h
  | clearFaults =>
    rw [exec, execClearFaults] at h
    exact l.live (l.dispatch fun ops _ _ k => k.runClearFaults ops) h
  | readCounters =>
    rw [exec, execReadCounters] at h
    exact l.live (l.dispatch fun ops _ _ k => k.runReadCounters ops) h
  | tableWrite =>
    rw [exec, execTableWrite] at h
    exact l.live (l.dispatch fun ops _ _ k => k.runTableWrite ops) h
  | tableRead =>
    rw [exec, execTableRead] at h
    exact l.live (l.dispatch fun ops _ t k => by rw [runTableRead_state]; exact k) h
  | shadowLoad =>
    rw [exec, execShadowLoad] at h
    exact l.live (l.dispatch fun ops _ _ k => k.runShadowLoad ops) h
  | commit =>
    rw [exec, execCommit] at h
    exact l.live l.takeCommit h
  | commitReject =>
    rw [exec, execCommitReject] at h
    refine l.live ?_ h
    split
    · exact l
    · next c hc =>
      split
      · exact l
      · exact l.rejectCommit hc _ _ _
  | swap =>
    rw [exec, execSwap] at h
    refine l.live ?_ h
    split
    · exact l
    · next c hc =>
      split
      · exact l
      · exact l.settleDues.takeSwap (by simpa using hc)
  | cancel =>
    rw [exec, execCancel] at h
    exact l.live (l.dispatch fun ops _ _ k => k.runCancel ops) h
  | flush =>
    rw [exec, execFlush] at h
    exact l.live (l.dispatch fun ops _ _ k => k.runFlush ops) h
  | nodeReset =>
    rw [exec, execNodeReset] at h
    exact l.live (l.dispatch fun ops _ _ k => k.runNodeReset ops) h
  | nodeRead =>
    rw [exec, execNodeRead] at h
    exact l.live (l.dispatch fun ops _ t k => by rw [runNodeRead_state]; exact k) h
  | lineHalt =>
    rw [exec, execLineHalt] at h
    exact l.live (l.dispatch fun _ _ _ k => k.haltLine) h
  | lineRun =>
    rw [exec, execLineRun] at h
    exact l.live (l.dispatch fun _ _ _ k => k.runLine) h
  | softReset =>
    rw [exec, execSoftReset] at h
    exact l.live (l.settleBefore _).takeSoftReset h
  | selection =>
    rw [exec, execSelection] at h
    refine l.live ?_ h
    split
    · next idle =>
      have quiet : s.dlc.inflight = none := by
        have law : s.dlc.Lawful := d
        rw [Dlc.Lawful, idle] at law
        exact law.1
      exact l.select (by simp [State.inflightRecord, quiet])
    · exact l
  | readBackComplete =>
    rw [exec, execReadBackComplete] at h
    refine l.live ?_ h
    split
    · exact l
    · next x hx =>
      have counted : (if x.step = .sync then s.bump .syncs else s).Ledger [] := by split; exacts [l.bump _, l]
      have flight : (if x.step = .sync then s.bump .syncs else s).inflightRecord = some x.record := by
        split <;> exact transmitting_inflight hx
      dsimp only
      split
      · exact (counted.setInflight (x := { x with broadcastDone := true }) flight).enterGuard _
      · exact ⟨counted.book, counted.queued, counted.flying, counted.through, counted.outward⟩
  | lineContention k rb =>
    rw [exec, execLineContention] at h
    refine l.live ?_ h
    split
    · exact l
    · next x hx =>
      split
      · exact ((l.bump _).latch _).endAttempt (transmitting_inflight hx) _ _
      · exact l
  | lineFault =>
    rw [exec, execLineFault] at h
    refine l.live ?_ h
    split
    · exact l
    · next x hx =>
      have done := (l.latch .dropLineDead).complete (x := x.noted .lineFault) (transmitting_inflight (x := x) hx)
        (some .lineFault) []
      exact ⟨done.book, done.queued, done.flying, done.through, done.outward⟩
  | responseStart data framing =>
    rw [exec, execResponseStart] at h
    exact l.live (l.receiveChar _) h
  | noResponse =>
    rw [exec, execNoResponse] at h
    refine l.live ?_ h
    split
    · next x _ hx => exact l.endAttempt (inflightRecord_of_some hx) _ _
    · exact l
  | responseCharacter c =>
    rw [exec, execResponseCharacter] at h
    exact l.live (l.receiveChar c) h
  | responseEnd =>
    rw [exec, execResponseEnd] at h
    refine l.live ?_ h
    split
    · next x _ hx => exact l.endAttempt (inflightRecord_of_some hx) _ _
    · exact l
  | guardEnd =>
    rw [exec, execGuardEnd] at h
    refine l.live ?_ h; split; exacts [l.endGuard, l]
  | strayCharacter c =>
    rw [exec, execStrayCharacter] at h
    exact l.live (l.receiveChar c) h
  | frameStartInReception p data =>
    rw [exec, execFrameStartInReception] at h
    refine l.live ?_ h
    split
    · dsimp only
      split
      · exact (l.setPort p _).checkError p
      · exact l.setPort p _
    · exact l
  | resetCharacterFinished =>
    rw [exec, execResetCharacterFinished] at h
    refine l.live ?_ h
    split
    · exact ⟨l.book, l.queued, l.flying, l.through, l.outward⟩
    · exact l

/-- Settles O60: the slot law with the law of the frame being sent is the ledger with nothing in the hands of an event;
each command and the idle step keep it. -/
theorem stepKeepsTheSlotLaw : Obligations.StepKeepsTheSlotLaw := by
  intro s t slots sending _ dlc hs
  have l : s.Ledger [] := (ledger_iff s).mpr ⟨slots, sending⟩
  refine (ledger_iff t).mp ?_
  cases hp : s.pending with
  | nil =>
    rw [step_nil hp] at hs
    cases hs
    exact l.idleStep
  | cons c rest =>
    rw [step_cons hp] at hs
    exact exec_ledger (s := { s with pending := rest }) ⟨l.book, l.queued, l.flying, l.through, l.outward⟩ dlc hs

end Sys2Proof.Machine
end

section
/-! ## The laws of the queues: what may enter them, and that nothing else does

An event either takes things out of the queues and the class lists (`NothingNew`), or writes frames of the bridge's own into
slots (`HomewardSlots`), or is one of the few that place a frame or let a record enter. -/

namespace Sys2Proof.Machine

/-! ### Frames in the slots -/

/-- Every FILLED slot holds a frame of a homeward kind (R125). -/
def HomewardSlots (v : Vector Slot 64) : Prop := ∀ f k, Slot.filled f k ∈ v.toList → f.kind.homeward = true

theorem HomewardSlots.write {v : Vector Slot 64} (w : HomewardSlots v) (n : Nat) {x : Slot}
    (hx : ∀ f k, x = .filled f k → f.kind.homeward = true) : HomewardSlots (vset v n x) := by
  intro f k hf
  rcases mem_vset hf with hf | rfl
  · exact w f k hf
  · exact hx f k rfl

theorem HomewardSlots.lower {v : Vector Slot 64} (w : HomewardSlots v) (k : Nat) :
    HomewardSlots (vmap (Slot.lower k) v) := by
  intro f j hf
  rw [vmap_toList, List.mem_map] at hf
  obtain ⟨x, hx, e⟩ := hf
  cases x with
  | filled g m => cases e; exact w f m hx
  | free => cases e
  | reserved h => cases e

theorem HomewardSlots.empty : HomewardSlots (Vector.replicate 64 .free) := by
  intro f k hf
  rw [Vector.toList_replicate] at hf
  cases List.eq_of_mem_replicate hf

section Slots
variable {s : State} {f : Frame} {n : Nat}

theorem fillSlot_homeward (w : HomewardSlots s.loq) (hf : f.kind.homeward = true) :
    HomewardSlots (s.fillSlot n f).loq :=
  w.write n fun _ _ e => (Slot.filled.inj e).1 ▸ hf

theorem freeSlot_homeward (w : HomewardSlots s.loq) : HomewardSlots (s.freeSlot n).loq := by
  unfold State.freeSlot
  split
  · exact (w.write n (x := .free) nofun).lower _
  · exact w.write n nofun
  · exact w.write n nofun

theorem answer_homeward (w : HomewardSlots s.loq) (hf : f.kind.homeward = true) (slot : Option Nat) :
    HomewardSlots (s.answer slot f).loq := by
  cases slot with
  | none => exact w
  | some n => exact fillSlot_homeward w hf

theorem releaseReply_homeward (w : HomewardSlots s.loq) (slot : Option Nat) :
    HomewardSlots (s.releaseReply slot).loq := by
  cases slot with
  | none => exact w
  | some n => exact freeSlot_homeward w

theorem fillLowest_homeward (w : HomewardSlots s.loq) (hf : f.kind.homeward = true) :
    HomewardSlots (s.fillLowest f).loq := by
  unfold State.fillLowest
  split
  · exact fillSlot_homeward w hf
  · exact w

theorem answered_homeward (w : HomewardSlots s.loq) (code : AckCode) (payload : List Byte) :
    HomewardSlots (s.answered f n code payload).loq := by
  unfold State.answered
  split
  · exact freeSlot_homeward w
  · exact fillSlot_homeward w rfl

theorem scanJudged_homeward (w : HomewardSlots s.loq) (r : ScanRecord) (o : OutcomeCode) (data : List Byte) :
    HomewardSlots (s.scanJudged r o data).loq := by
  unfold State.scanJudged
  dsimp only
  split
  · exact answer_homeward w rfl _
  · exact releaseReply_homeward w _

theorem handResult_homeward (w : HomewardSlots s.loq) (x : Exchange) (o : Option OutcomeCode) (data : List Byte) :
    HomewardSlots (s.handResult x o data).loq := by
  unfold State.handResult
  cases x.record with
  | probe n => exact w
  | controller r =>
    dsimp only
    split
    · exact w
    · cases o with
      | none => exact releaseReply_homeward w _
      | some o => exact answer_homeward w rfl _
  | scan r =>
    dsimp only
    split
    · exact w
    · split
      · cases o with
        | none => exact releaseReply_homeward w _
        | some o => exact answer_homeward w rfl _
      · cases o with
        | none => exact releaseReply_homeward w _
        | some o => exact scanJudged_homeward w r o data

theorem complete_homeward (w : HomewardSlots s.loq) (x : Exchange) (o : Option OutcomeCode) (data : List Byte) :
    HomewardSlots (s.complete x o data).loq := by
  have : (s.complete x o data).loq = (s.handResult x o data).loq := by simp [State.complete]
  rw [this]
  exact handResult_homeward w x o data

theorem offlineDue_homeward (w : HomewardSlots s.loq) (i : Nat) (img : Image) :
    HomewardSlots (s.offlineDue i img).loq := by
  unfold State.offlineDue
  dsimp only
  split
  · split
    · exact fillLowest_homeward w rfl
    · simpa using w
  · exact w

end Slots

/-! ### The laws of the queues in one structure -/

/-- What tells two records apart for R6 and R7: the tag of a CONTROLLER record, and whether it is a PROBE. -/
def ExRecord.identity (r : ExRecord) : Option Tag × Bool := (r.tag?, r.isProbe)

/-- The five laws of the queues (R3, R4, R6, R7, R125, R144 to R146); `queueLaws_iff` says that they are these. -/
structure State.QueueLaws (s : State) : Prop where
  size : s.queue.size ≤ 48
  own : ∀ c, ∀ r ∈ s.queue.list c, r.cls = c
  tags : (s.records.filterMap ExRecord.tag?).Nodup
  probes : s.records.countP ExRecord.isProbe ≤ 1
  slots : HomewardSlots s.loq
  htq : s.htq.length ≤ 8 ∧ ∀ f ∈ s.htq, f.kind.homeward = true
  otq : s.otq.length ≤ 4 ∧ ∀ f ∈ s.otq, f.kind.homeward = false
  inbox : s.inbox.length ≤ 4 ∧ ∀ f ∈ s.inbox, f.kind = .request ∨ f.kind = .control

theorem queueLaws_iff (s : State) :
    s.QueueLaws ↔ s.CapacityLaw ∧ s.ClassLaw ∧ s.KindLaw ∧ s.TagLaw ∧ s.ProbeLaw := by
  constructor
  · rintro ⟨size, own, tags, probes, slots, ⟨htq, homeward⟩, ⟨otq, outward⟩, ⟨inbox, kinds⟩⟩
    exact ⟨⟨size, otq, htq, inbox⟩, ⟨own 0#2, own 1#2, own 2#2, own 3#2⟩, ⟨slots, homeward, outward, kinds⟩, tags, probes⟩
  · rintro ⟨⟨size, otq, htq, inbox⟩, ⟨c0, c1, c2, c3⟩, ⟨slots, homeward, outward, kinds⟩, tags, probes⟩
    refine ⟨size, fun c => ?_, tags, probes, slots, ⟨htq, homeward⟩, ⟨otq, outward⟩, ⟨inbox, kinds⟩⟩
    rcases cls_cases c with rfl | rfl | rfl | rfl
    exacts [c0, c1, c2, c3]

/-- Nothing has entered a queue, a class list or the flight: what `t` has there was there in `s`, in order. -/
structure NothingNew (s t : State) : Prop where
  lists : ∀ c, (t.queue.list c).Sublist (s.queue.list c)
  records : (t.records.map ExRecord.identity).Subperm (s.records.map ExRecord.identity)
  htq : t.htq.Sublist s.htq
  otq : t.otq.Sublist s.otq
  inbox : t.inbox.Sublist s.inbox

/-- Fewer records of each class are fewer records. -/
theorem size_le_of_lists {q q' : ExchangeQueue} (h : ∀ c, (q'.list c).Sublist (q.list c)) : q'.size ≤ q.size :=
  Nat.add_le_add (Nat.add_le_add (Nat.add_le_add (h 0#2).length_le (h 1#2).length_le) (h 2#2).length_le) (h 3#2).length_le

theorem filterMap_tag?_eq (l : List ExRecord) :
    l.filterMap ExRecord.tag? = (l.map ExRecord.identity).filterMap Prod.fst := by
  rw [List.filterMap_map]; rfl

theorem countP_isProbe_eq (l : List ExRecord) :
    l.countP ExRecord.isProbe = (l.map ExRecord.identity).countP Prod.snd := by
  rw [List.countP_map]; rfl

theorem State.QueueLaws.less {s t : State} (l : s.QueueLaws) (n : NothingNew s t) (slots : HomewardSlots t.loq) :
    t.QueueLaws := by
  obtain ⟨size, own, tags, probes, -, ⟨htq, homeward⟩, ⟨otq, outward⟩, ⟨inbox, kinds⟩⟩ := l
  refine ⟨(size_le_of_lists n.lists).trans size, fun c r hr => own c r ((n.lists c).subset hr), ?_, ?_, slots,
    ⟨n.htq.length_le.trans htq, fun f hf => homeward f (n.htq.subset hf)⟩,
    ⟨n.otq.length_le.trans otq, fun f hf => outward f (n.otq.subset hf)⟩,
    ⟨n.inbox.length_le.trans inbox, fun f hf => kinds f (n.inbox.subset hf)⟩⟩
  · rw [filterMap_tag?_eq] at tags ⊢
    obtain ⟨mid, p, sub⟩ := n.records
    exact (p.filterMap _).nodup_iff.mp ((sub.filterMap _).nodup tags)
  · rw [countP_isProbe_eq] at probes ⊢
    exact (n.records.countP_le _).trans probes

/-! ### Records enter: the tag is not in use, a PROBE is not outstanding, an entry is free -/

theorem hasTag_iff {tag : Tag} {r : ExRecord} : r.hasTag tag = true ↔ r.tag? = some tag := by
  cases r <;> simp [ExRecord.hasTag, ExRecord.tag?]

theorem tagInUse_iff {s : State} {tag : Tag} : s.tagInUse tag = true ↔ tag ∈ s.records.filterMap ExRecord.tag? := by
  rw [State.tagInUse, State.records]
  cases s.inflightRecord <;> simp [hasTag_iff]

theorem probeOutstanding_iff {s : State} : s.probeOutstanding = true ↔ s.records.any ExRecord.isProbe = true := by
  rw [State.probeOutstanding, State.records]
  cases s.inflightRecord <;> simp

/-- The capacity rule lets nothing in while no entry is free (R4). -/
theorem size_lt_of_admits {s : State} {c : Cls} (h : s.admits c = true) : s.queue.size < 48 := by
  have capacity : Config.eqCapacity = 48 := rfl
  unfold State.admits State.freeEntries at h
  split at h <;> simp only [decide_eq_true_eq] at h <;> omega

theorem State.QueueLaws.enqueue {s : State} {r : ExRecord} (l : s.QueueLaws)
    (freshTag : ∀ tag, r.tag? = some tag → s.tagInUse tag = false)
    (freshProbe : r.isProbe = true → s.probeOutstanding = false) (room : s.admits r.cls = true) :
    (s.enqueue r).QueueLaws := by
  obtain ⟨size, own, tags, probes, slots, htq, otq, inbox⟩ := l
  have all : (s.enqueue r).queue.all.Perm (r :: s.queue.all) := insert_perm s.queue r
  have records : (s.enqueue r).records.Perm (r :: s.records) := all.append_right _
  refine ⟨?_, fun c x hx => ?_, ?_, ?_, slots, htq, otq, inbox⟩
  · have := size_lt_of_admits room
    rw [size_eq_length] at this ⊢
    rw [all.length_eq, List.length_cons]
    omega
  · rw [enqueue_queue, insert_eq_setList, list_setList] at hx
    split at hx
    · next e =>
      subst e
      rcases List.mem_append.mp hx with hx | hx
      · exact own _ x hx
      · rw [List.mem_singleton.mp hx]
    · exact own c x hx
  · refine (records.filterMap _).nodup_iff.mpr ?_
    cases ht : r.tag? with
    | none => rwa [List.filterMap_cons_none ht]
    | some tag =>
      rw [List.filterMap_cons_some ht]
      refine List.nodup_cons.mpr ⟨fun hm => ?_, tags⟩
      have used := tagInUse_iff.mpr hm
      rw [freshTag tag ht] at used
      cases used
  · rw [records.countP_eq, List.countP_cons]
    split
    · next hp =>
      have absent : s.records.countP ExRecord.isProbe = 0 := by
        rw [List.countP_eq_zero]
        intro x hx e
        have out := probeOutstanding_iff.mpr (List.any_eq_true.mpr ⟨x, hx, e⟩)
        rw [freshProbe hp] at out
        cases out
      omega
    · exact probes

/-! ### The queue laws through the operations -/

section Keeps
variable {s t : State}

/-- An event that leaves the queues and the records alone. -/
theorem State.QueueLaws.same (l : s.QueueLaws) (queue : t.queue = s.queue)
    (flight : t.inflightRecord.map ExRecord.identity = s.inflightRecord.map ExRecord.identity) (htq : t.htq = s.htq)
    (otq : t.otq = s.otq) (inbox : t.inbox = s.inbox) (slots : HomewardSlots s.loq → HomewardSlots t.loq) :
    t.QueueLaws := by
  refine l.less ⟨fun c => by rw [queue], ?_, by rw [htq], by rw [otq], by rw [inbox]⟩ (slots l.slots)
  have records : t.records.map ExRecord.identity = s.records.map ExRecord.identity := by
    rw [State.records, State.records, List.map_append, List.map_append, queue, ← Option.toList_map, flight,
      Option.toList_map]
  rw [records]

/-- Records leave the queue. -/
theorem State.QueueLaws.leave (l : s.QueueLaws) {q : ExchangeQueue} (lists : ∀ c, (q.list c).Sublist (s.queue.list c)) :
    ({ s with queue := q } : State).QueueLaws := by
  have all : q.all.Sublist s.queue.all :=
    (((lists 0#2).append (lists 1#2)).append (lists 2#2)).append (lists 3#2)
  exact l.less ⟨lists, ((all.append (List.Sublist.refl _)).map _).subperm, .refl _, .refl _, .refl _⟩ l.slots

theorem lists_of_remove (q : ExchangeQueue) (p : ExRecord → Bool) (c : Cls) :
    ((q.remove p).list c).Sublist (q.list c) := by
  rw [list_remove]; exact List.filter_sublist

theorem lists_of_takeFirst {q q' : ExchangeQueue} {p : ExRecord → Bool} {r : ExRecord}
    (h : q.takeFirst p = some (r, q')) (c : Cls) : (q'.list c).Sublist (q.list c) := by
  obtain ⟨-, d, before, after, hl, rfl⟩ := takeFirst_cases h
  rw [list_setList]
  split
  · next e => rw [e, hl]; exact (List.Sublist.refl _).append (List.sublist_cons_self _ _)
  · exact .refl _

/-- A taken record goes into flight; whatever was in flight is no more. -/
theorem State.QueueLaws.launch (l : s.QueueLaws) {p : ExRecord → Bool} {r r' : ExRecord} {q : ExchangeQueue}
    (h : s.queue.takeFirst p = some (r, q)) (identity : r'.identity = r.identity) (queue : t.queue = q)
    (flight : t.inflightRecord = some r') (htq : t.htq = s.htq) (otq : t.otq = s.otq) (inbox : t.inbox = s.inbox)
    (slots : HomewardSlots t.loq) : t.QueueLaws := by
  refine l.less ⟨fun c => by rw [queue]; exact lists_of_takeFirst h c, ?_, by rw [htq], by rw [otq], by rw [inbox]⟩ slots
  have moved : (t.records.map ExRecord.identity).Perm (s.queue.all.map ExRecord.identity) := by
    rw [State.records, flight, queue, List.map_append, Option.toList_some, List.map_singleton, identity]
    exact (List.perm_append_comm.trans (List.Perm.refl _)).trans ((takeFirst_perm h).map ExRecord.identity).symm
  exact moved.subperm.trans ((List.sublist_append_left _ _).map _).subperm

theorem State.QueueLaws.fillSlot (l : s.QueueLaws) (n : Nat) {f : Frame} (hf : f.kind.homeward = true) :
    (s.fillSlot n f).QueueLaws := l.same rfl rfl rfl rfl rfl fun w => fillSlot_homeward w hf

theorem State.QueueLaws.freeSlot (l : s.QueueLaws) (n : Nat) : (s.freeSlot n).QueueLaws :=
  l.same (by simp) (by simp [State.inflightRecord]) (by simp) (by simp) (by simp) freeSlot_homeward

theorem State.QueueLaws.reserveSlot (l : s.QueueLaws) (n : Nat) (h : Holder) : (s.reserveSlot n h).QueueLaws :=
  l.same rfl rfl rfl rfl rfl fun w => w.write n nofun

theorem State.QueueLaws.answer (l : s.QueueLaws) (slot : Option Nat) {f : Frame} (hf : f.kind.homeward = true) :
    (s.answer slot f).QueueLaws := by
  cases slot with
  | none => exact l
  | some n => exact l.fillSlot n hf

theorem State.QueueLaws.releaseReply (l : s.QueueLaws) (slot : Option Nat) : (s.releaseReply slot).QueueLaws := by
  cases slot with
  | none => exact l
  | some n => exact l.freeSlot n

theorem State.QueueLaws.fillLowest (l : s.QueueLaws) {f : Frame} (hf : f.kind.homeward = true) :
    (s.fillLowest f).QueueLaws :=
  l.same (by simp) (by simp [State.inflightRecord]) (by simp) (by simp) (by simp) fun w => fillLowest_homeward w hf

theorem State.QueueLaws.bump (l : s.QueueLaws) (c : Counter) : (s.bump c).QueueLaws := l.same rfl rfl rfl rfl rfl id

theorem State.QueueLaws.latch (l : s.QueueLaws) (k : FaultKind) : (s.latch k).QueueLaws :=
  l.same rfl rfl rfl rfl rfl id

theorem State.QueueLaws.setPort (l : s.QueueLaws) (p : PortId) (q : Port) : (s.setPort p q).QueueLaws := by
  cases p <;> exact l.same rfl rfl rfl rfl rfl id

theorem State.QueueLaws.judgeU (l : s.QueueLaws) : s.judgeU.QueueLaws := l.same rfl rfl rfl rfl rfl id

theorem State.QueueLaws.judgeD (l : s.QueueLaws) : s.judgeD.QueueLaws := l.same rfl rfl rfl rfl rfl id

theorem State.QueueLaws.noticeLink (l : s.QueueLaws) (p : PortId) (k : LinkState) : (s.noticeLink p k).QueueLaws := by
  cases p <;> exact l.same rfl rfl rfl rfl rfl id

theorem State.QueueLaws.withScan (l : s.QueueLaws) (e : ScanEngine) : ({ s with scan := e } : State).QueueLaws :=
  l.same rfl rfl rfl rfl rfl id

/-! Dues, expiry, the revival point -/

theorem State.QueueLaws.judgeDue (l : s.QueueLaws) (i : Nat) : (s.judgeDue i).QueueLaws := by
  have miss : (s.missDue i).QueueLaws :=
    l.same (by simp) (by simp [State.inflightRecord]) (by simp) (by simp) (by simp) (by simp)
  unfold State.judgeDue
  dsimp only
  split
  · exact miss
  · split
    · exact l.same (by simp) (by simp [State.inflightRecord]) (by simp) (by simp) (by simp)
        fun w => offlineDue_homeward w i _
    · split
      · next room => exact (l.enqueue (r := .scan (scanRecordOf i _ s.epoch)) nofun nofun room).withScan _
      · exact miss

theorem State.QueueLaws.settleDues (l : s.QueueLaws) : s.settleDues.QueueLaws := by
  have fold : ∀ (dues : List Nat) (t : State), t.QueueLaws → (dues.foldl (fun t i => t.judgeDue i) t).QueueLaws := by
    intro dues
    induction dues with
    | nil => exact fun _ h => h
    | cons i dues ih => exact fun t h => ih _ (h.judgeDue i)
  exact fold _ _ (l.withScan _)

/-- Records that have left are done with one by one. -/
theorem State.QueueLaws.foldGone {f : State → ExRecord → State}
    (each : ∀ (t : State) (r : ExRecord), t.QueueLaws → (f t r).QueueLaws) (gone : List ExRecord) (l : s.QueueLaws) :
    (gone.foldl f s).QueueLaws := by
  induction gone generalizing s with
  | nil => exact l
  | cons r gone ih => exact ih (each s r l)

theorem State.QueueLaws.expireOne (l : s.QueueLaws) (r : ExRecord) : (s.expireOne r).QueueLaws := by
  cases r with
  | controller c => exact (l.answer c.slot rfl).bump _
  | scan c => exact l
  | probe n => exact l

theorem State.QueueLaws.takeExpired (l : s.QueueLaws) : s.takeExpired.QueueLaws :=
  .foldGone (fun _ r h => h.expireOne r) _ (l.leave (lists_of_remove _ _))

theorem State.QueueLaws.settleRevival (l : s.QueueLaws) : s.settleRevival.QueueLaws := by
  have revive : ∀ {t : State}, t.QueueLaws → t.reviveNow.QueueLaws := by
    intro t l
    unfold State.reviveNow
    split
    · exact l
    · next free =>
      split
      · exact l
      · split
        · next room => exact (l.enqueue (r := .probe _) nofun (fun _ => by simpa using free) room).withScan _
        · exact l
  unfold State.settleRevival
  split
  · exact revive (l.withScan _)
  · exact l

theorem State.QueueLaws.tick (l : s.QueueLaws) : s.settleTick.countTick.revivalTick.holdoffTick.scanStep.QueueLaws :=
  State.QueueLaws.same (s := s.settleTick) l.takeExpired.settleRevival.settleDues (by simp)
    (by simp [State.inflightRecord]) (by simp) (by simp) (by simp) (by simp)

theorem State.QueueLaws.settleBefore (l : s.QueueLaws) (want : Frame → Bool) : (s.settleBefore want).QueueLaws := by
  unfold State.settleBefore
  split
  · exact l
  · split
    · exact l.settleDues
    · exact l

/-! Links and frames -/

theorem State.QueueLaws.overflow (l : s.QueueLaws) : s.overflow.QueueLaws := (l.bump _).latch _

theorem State.QueueLaws.placeOtq (l : s.QueueLaws) {f : Frame} (hf : f.kind.homeward = false) :
    (s.placeOtq f).QueueLaws := by
  unfold State.placeOtq
  split
  · next room =>
    have room : s.otq.length < 4 := room
    refine ⟨l.size, l.own, l.tags, l.probes, l.slots, l.htq, ⟨?_, fun g hg => ?_⟩, l.inbox⟩
    · rw [List.length_append, List.length_singleton]; omega
    · rcases List.mem_append.mp hg with hg | hg
      · exact l.otq.2 g hg
      · rw [List.mem_singleton.mp hg]; exact hf
  · exact l.overflow

theorem State.QueueLaws.placeHtq (l : s.QueueLaws) {f : Frame} (hf : f.kind.homeward = true) :
    (s.placeHtq f).QueueLaws := by
  unfold State.placeHtq
  split
  · next room =>
    have room : s.htq.length < 8 := room
    refine ⟨l.size, l.own, l.tags, l.probes, l.slots, ⟨?_, fun g hg => ?_⟩, l.otq, l.inbox⟩
    · rw [List.length_append, List.length_singleton]; omega
    · rcases List.mem_append.mp hg with hg | hg
      · exact l.htq.2 g hg
      · rw [List.mem_singleton.mp hg]; exact hf
  · exact l.overflow

theorem State.QueueLaws.placeInbox (l : s.QueueLaws) {f : Frame} (hf : f.kind = .request ∨ f.kind = .control) :
    (s.placeInbox f).QueueLaws := by
  unfold State.placeInbox
  split
  · next room =>
    have room : s.inbox.length < 4 := room
    refine ⟨l.size, l.own, l.tags, l.probes, l.slots, l.htq, l.otq, ⟨?_, fun g hg => ?_⟩⟩
    · rw [List.length_append, List.length_singleton]; omega
    · rcases List.mem_append.mp hg with hg | hg
      · exact l.inbox.2 g hg
      · rw [List.mem_singleton.mp hg]; exact hf
  · exact l.overflow

theorem State.QueueLaws.unreachableFrame (l : s.QueueLaws) (p : BitVec 6) : (s.unreachableFrame p).QueueLaws :=
  l.same rfl rfl rfl rfl rfl id

theorem State.QueueLaws.enumerateAt (l : s.QueueLaws) (h : Header) (c : Byte) : (s.enumerateAt h c).QueueLaws := by
  unfold State.enumerateAt
  dsimp only
  split
  · exact State.QueueLaws.placeOtq (s := { s with position := positionAfter c }) (l.same rfl rfl rfl rfl rfl id) rfl
  · exact l.same rfl rfl rfl rfl rfl id

/-- A REQUEST or CONTROL is no homeward frame. -/
theorem outward_of_inward {f : Frame} (h : f.kind = .request ∨ f.kind = .control) : f.kind.homeward = false := by
  rcases h with h | h <;> rw [h] <;> rfl

theorem State.QueueLaws.forwardOutward (l : s.QueueLaws) {f : Frame} (hf : f.kind = .request ∨ f.kind = .control) :
    (s.forwardOutward f).QueueLaws := by
  unfold State.forwardOutward
  split
  · exact l.placeOtq (outward_of_inward hf)
  · exact l.unreachableFrame _

theorem State.QueueLaws.broadcastControl (l : s.QueueLaws) {f : Frame} (hf : f.kind = .control) :
    (s.broadcastControl f).QueueLaws := by
  have inward : (if s.selectedBy f && broadcastable f.code then s.placeInbox f else s).QueueLaws := by
    split
    · exact l.placeInbox (.inr hf)
    · exact l
  unfold State.broadcastControl
  dsimp only
  split
  · exact inward.placeOtq (outward_of_inward (.inr hf))
  · exact inward

theorem State.QueueLaws.outwardSwitch (l : s.QueueLaws) (f : Frame) : (s.outwardSwitch f).QueueLaws := by
  unfold State.outwardSwitch
  split
  · exact l.enumerateAt _ _
  · next hf =>
    split
    · exact l.placeInbox (.inl hf)
    · split
      · exact l.bump _
      · exact l.forwardOutward (.inl hf)
  · next hf =>
    split
    · exact l.placeInbox (.inr hf)
    · split
      · exact l.broadcastControl hf
      · exact l.forwardOutward (.inr hf)
  all_goals exact l.bump _

theorem State.QueueLaws.homewardSwitch (l : s.QueueLaws) (f : Frame) : (s.homewardSwitch f).QueueLaws := by
  unfold State.homewardSwitch
  split
  · next hf => exact l.placeHtq hf
  · exact l.bump _

theorem State.QueueLaws.checkError (l : s.QueueLaws) (p : PortId) : (s.checkError p).QueueLaws := by
  cases p <;> exact (l.bump _).latch _

theorem withSlot_identity (slot : Option Nat) (r : ExRecord) : (r.withSlot slot).identity = r.identity := by
  cases r <;> rfl

theorem State.QueueLaws.uplinkLoss (l : s.QueueLaws) : s.uplinkLoss.QueueLaws := by
  refine l.less ⟨fun c => ?_, ?_, List.nil_sublist _, by simp, List.nil_sublist _⟩ HomewardSlots.empty
  · rcases cls_cases c with rfl | rfl | rfl | rfl <;> exact List.nil_sublist _
  · have flight : s.uplinkLoss.inflightRecord.map ExRecord.identity = s.inflightRecord.map ExRecord.identity := by
      show (s.dlc.loseSession.inflight.map Exchange.record).map _ = (s.dlc.inflight.map Exchange.record).map _
      rw [loseSession_inflight]
      cases s.dlc.inflight <;> simp [withSlot_identity]
    rw [State.records, State.records, List.map_append, List.map_append, ← Option.toList_map, flight, Option.toList_map]
    exact (List.sublist_append_right _ _).subperm

theorem State.QueueLaws.discardOtq (l : s.QueueLaws) : s.discardOtq.QueueLaws := by
  have emptied : ({ s with otq := [], dTx := none } : State).QueueLaws :=
    ⟨l.size, l.own, l.tags, l.probes, l.slots, l.htq, ⟨by simp, nofun⟩, l.inbox⟩
  have fold : ∀ (fs : List Frame) (t : State), t.QueueLaws → (fs.foldl State.discardOutward t).QueueLaws := by
    intro fs
    induction fs with
    | nil => exact fun _ h => h
    | cons f fs ih =>
      exact fun t h => ih _ (h.same (by simp) (by simp [State.inflightRecord]) (by simp) (by simp) (by simp) (by simp))
  exact fold _ _ emptied

theorem State.QueueLaws.enterDown (l : s.QueueLaws) (p : PortId) : (s.enterDown p).QueueLaws := by
  cases p with
  | u => exact (((l.settleDues.setPort .u _).uplinkLoss).noticeLink .u .down).judgeD
  | d => exact (((l.setPort .d _).discardOtq).noticeLink .d .down).judgeU

/-! Sending -/

theorem State.QueueLaws.grant (l : s.QueueLaws) : s.grant.QueueLaws := by
  unfold State.grant
  split
  · exact l
  · exact l.same rfl rfl rfl rfl rfl id
  · exact l.same rfl rfl rfl rfl rfl id
  · split
    · exact l.same rfl rfl rfl rfl rfl id
    · exact l.same rfl rfl rfl rfl rfl id

theorem State.QueueLaws.endUTx (l : s.QueueLaws) : s.endUTx.QueueLaws := by
  have done : ({ s with uTx := none } : State).QueueLaws := l.same rfl rfl rfl rfl rfl id
  have idle : ∀ {t : State}, t.QueueLaws → t.idleU.QueueLaws := fun k =>
    k.same (by simp) (by simp [State.inflightRecord]) (by simp) (by simp) (by simp) (by simp)
  unfold State.endUTx
  split
  · exact l
  · refine idle ?_
    split
    · exact done.freeSlot _
    · refine State.QueueLaws.judgeD ?_
      exact ⟨l.size, l.own, l.tags, l.probes, l.slots,
        ⟨((List.drop_sublist 1 _).length_le).trans l.htq.1, fun f hf => l.htq.2 f (List.mem_of_mem_drop hf)⟩, l.otq, l.inbox⟩
    · exact done

/-! The Inbox head and the commands -/

theorem State.QueueLaws.takeHead {want : Frame → Bool} {f : Frame} {n : Nat} (l : s.QueueLaws)
    (h : s.takeHead want = some (f, n, t)) : t.QueueLaws := by
  obtain ⟨-, rest, inbox, -, rfl⟩ := takeHead_cases h
  refine l.less ⟨fun _ => .refl _, List.Subperm.refl _, .refl _, .refl _, ?_⟩ (l.slots.write n nofun)
  rw [inbox]
  exact List.sublist_cons_self _ _

theorem State.QueueLaws.finishControl {r : CommandResult} (l : r.state.QueueLaws) (f : Frame) (n : Nat) :
    (finishControl f n r).QueueLaws := by
  rw [finishControl_eq]
  exact l.same (by simp) (by simp [State.inflightRecord]) (by simp) (by simp) (by simp) fun w => answered_homeward w _ _

theorem State.QueueLaws.dispatch {c : Command} {run : List Byte → State → CommandResult} (l : s.QueueLaws)
    (rule : ∀ ops (t : State), t.QueueLaws → (run ops t).state.QueueLaws) : (dispatch c run s).QueueLaws := by
  unfold Machine.dispatch
  split
  · exact l
  · next f n t ht =>
    refine State.QueueLaws.finishControl ?_ f n
    unfold runCommand
    split
    · exact rule _ _ (l.takeHead ht)
    · exact l.takeHead ht

/-- A REQUEST that is accepted has passed the checks of its tag and of the queue's room (R12, R17). -/
theorem judgeRequest_accept {f : Frame} {img : Image} (h : s.judgeRequest f = .accept img) :
    s.tagInUse f.tag = false ∧ s.admits (resolveClass img f.cls) = true := by
  unfold State.judgeRequest at h
  split at h
  · cases h
  · split at h
    · cases h
    · split at h
      · cases h
      · next tag =>
        split at h
        · cases h
        · split at h
          · cases h
          · split at h
            · cases h
            · split at h
              · cases h
              · next room =>
                cases h
                exact ⟨by simpa using tag, by simpa using room⟩

theorem State.QueueLaws.admitRequest (l : s.QueueLaws) (f : Frame) (n : Nat) : (s.admitRequest f n).QueueLaws := by
  unfold State.admitRequest
  split
  · exact (l.fillSlot n rfl).bump _
  · next img h =>
    obtain ⟨tag, room⟩ := judgeRequest_accept h
    refine (l.reserveSlot n .exchange).enqueue (r := .controller _) (fun _ e => ?_) nofun room
    cases e
    exact tag

theorem State.QueueLaws.runSetParam (l : s.QueueLaws) (ops : List Byte) : (runSetParam ops s).state.QueueLaws := by
  unfold Machine.runSetParam
  dsimp only
  split
  · exact l
  · split
    · exact l
    · dsimp only
      split
      · exact State.QueueLaws.same (t := s.writeLineSetting _ _) l (by simp)
          (by simp [State.inflightRecord, writeLineSetting_inflight]) (by simp) (by simp) (by simp) (by simp)
      · exact State.QueueLaws.same (t := s.writeOwnParam _ _) l (by simp) (by simp [State.inflightRecord]) (by simp)
          (by simp) (by simp) (by simp)

theorem State.QueueLaws.runClearFaults (l : s.QueueLaws) (ops : List Byte) : (runClearFaults ops s).state.QueueLaws := by
  unfold Machine.runClearFaults
  dsimp only
  split
  · exact l
  · exact l.same rfl rfl rfl rfl rfl id

theorem State.QueueLaws.runReadCounters (l : s.QueueLaws) (ops : List Byte) :
    (runReadCounters ops s).state.QueueLaws := by
  unfold Machine.runReadCounters
  dsimp only
  split
  · exact l.same rfl rfl rfl rfl rfl id
  · exact l

theorem State.QueueLaws.setBank (l : s.QueueLaws) (i : BankId) (b : Bank) : (s.setBank i b).QueueLaws := by
  cases i <;> exact l.same rfl rfl rfl rfl rfl id

theorem State.QueueLaws.runTableWrite (l : s.QueueLaws) (ops : List Byte) : (runTableWrite ops s).state.QueueLaws := by
  unfold Machine.runTableWrite
  split
  · exact l
  · dsimp only
    split
    · exact l
    · split
      · exact l
      · exact l.setBank _ _

theorem State.QueueLaws.runShadowLoad (l : s.QueueLaws) (ops : List Byte) : (runShadowLoad ops s).state.QueueLaws := by
  unfold Machine.runShadowLoad
  split
  · exact l
  · exact l.setBank _ _

theorem State.QueueLaws.runNodeReset (l : s.QueueLaws) (ops : List Byte) : (runNodeReset ops s).state.QueueLaws := by
  unfold Machine.runNodeReset
  dsimp only
  split
  · exact l
  · split
    · exact l
    · exact l.same (by simp) (by simp [State.inflightRecord]) (by simp) (by simp) (by simp) (by simp)

theorem mark_identity (r : ExRecord) : r.mark.identity = r.identity := by cases r <;> rfl

theorem State.QueueLaws.runCancel (l : s.QueueLaws) (ops : List Byte) : (runCancel ops s).state.QueueLaws := by
  unfold Machine.runCancel
  dsimp only
  split
  · next r q hq =>
    have left := l.leave (lists_of_takeFirst hq)
    cases r with
    | controller c => exact left.answer c.slot rfl
    | scan c => exact left
    | probe n => exact left
  · split
    · next x hx =>
      split
      · refine l.same rfl ?_ rfl rfl rfl id
        simp [State.inflightRecord, hx, mark_identity]
      · exact l
    · exact l

theorem State.QueueLaws.runFlush (l : s.QueueLaws) (ops : List Byte) : (runFlush ops s).state.QueueLaws :=
  .foldGone (fun _ r h => h.releaseReply r.slot) _ (l.leave (lists_of_remove _ _))

theorem State.QueueLaws.startCommit (l : s.QueueLaws) (f : Frame) (n : Nat) : (s.startCommit f n).QueueLaws := by
  unfold State.startCommit
  cases broadcastFrame f with
  | true => exact State.QueueLaws.same (s := s.freeSlot n) (l.freeSlot n) rfl rfl rfl rfl rfl id
  | false => exact State.QueueLaws.same (s := s.reserveSlot n .commit) (l.reserveSlot n .commit) rfl rfl rfl rfl rfl id

theorem State.QueueLaws.takeCommit (l : s.QueueLaws) : s.takeCommit.QueueLaws := by
  unfold State.takeCommit
  split
  · exact l
  · next f n t ht =>
    split
    · exact State.QueueLaws.finishControl (l.takeHead ht) f n
    · split
      · exact State.QueueLaws.finishControl (l.takeHead ht) f n
      · exact (l.takeHead ht).startCommit f n

theorem State.QueueLaws.takeSwap (l : s.QueueLaws) (c : PendingCommit) : (s.takeSwap c).QueueLaws := by
  have swapped : s.swapBanks.QueueLaws :=
    State.QueueLaws.same (l.leave (lists_of_remove _ ExRecord.isScan)) rfl rfl rfl rfl rfl id
  exact swapped.answer c.slot rfl

theorem State.QueueLaws.resetQueues (l : s.QueueLaws) : s.resetQueues.QueueLaws := by
  refine l.less ⟨fun c => ?_, ?_, by simp, by simp, List.nil_sublist _⟩ HomewardSlots.empty
  · rcases cls_cases c with rfl | rfl | rfl | rfl <;> exact List.nil_sublist _
  · have emptied : s.resetQueues.records = [] := by
      rw [State.records, State.inflightRecord, resetQueues_inflight]; rfl
    rw [emptied]
    exact (List.nil_sublist _).subperm

theorem State.QueueLaws.softReset (l : s.QueueLaws) (level : ResetLevel) : (s.softReset level).QueueLaws := by
  cases level with
  | queues =>
    have distrusted : s.distrustNode.QueueLaws :=
      l.same (by simp) (by simp [State.inflightRecord]) (by simp) (by simp) (by simp) (by simp)
    exact distrusted.resetQueues.judgeU
  | full =>
    have lines : s.resetQueues.resetLineSettings.QueueLaws := by
      unfold State.resetLineSettings
      split <;> exact l.resetQueues.same rfl rfl rfl rfl rfl id
    exact State.QueueLaws.judgeU (State.QueueLaws.same lines rfl rfl rfl rfl rfl id)

theorem State.QueueLaws.takeSoftReset (l : s.QueueLaws) : s.takeSoftReset.QueueLaws := by
  unfold State.takeSoftReset
  split
  · exact l
  · next f n t ht =>
    split
    · exact State.QueueLaws.finishControl (l.takeHead ht) f n
    · split
      · exact State.QueueLaws.finishControl (l.takeHead ht) f n
      · next level _ =>
        dsimp only
        split
        · exact (l.takeHead ht).softReset level
        · exact ((l.takeHead ht).softReset level).fillLowest rfl

/-! Selection and the exchange in flight -/

theorem claimScanSlot_identity (r : ExRecord) (s : State) : (s.claimScanSlot r).1.identity = r.identity := by
  unfold State.claimScanSlot
  split
  · split
    · exact withSlot_identity _ r
    · rfl
  · rfl

theorem State.QueueLaws.claimScanSlot (l : s.QueueLaws) (r : ExRecord) : (s.claimScanSlot r).2.QueueLaws := by
  unfold State.claimScanSlot
  split
  · split
    · exact l.reserveSlot _ _
    · exact l
  · exact l

theorem State.QueueLaws.completeOffline (l : s.QueueLaws) (r : ExRecord) : (s.completeOffline r).QueueLaws := by
  cases r with
  | controller c => exact (l.answer c.slot rfl).bump _
  | scan c =>
    exact State.QueueLaws.same (t := s.scanJudged c .nodeOffline []) l (by simp) (by simp [State.inflightRecord])
      (by simp) (by simp) (by simp) fun w => scanJudged_homeward w c _ _
  | probe n => exact l

theorem State.QueueLaws.select (l : s.QueueLaws) : s.select.QueueLaws := by
  unfold State.select
  split
  · exact l
  · next r q hq =>
    have claimed := (l.leave (lists_of_takeFirst hq)).claimScanSlot r
    dsimp only
    unfold State.runRecord
    split
    · exact claimed.completeOffline _
    · exact l.launch hq (claimScanSlot_identity r _) (by simp) (startExchange_inflightRecord _ _) (by simp) (by simp)
        (by simp) (by simpa using claimed.slots)

theorem State.QueueLaws.complete (l : s.QueueLaws) (x : Exchange) (o : Option OutcomeCode) (data : List Byte) :
    (s.complete x o data).QueueLaws := by
  refine l.less ⟨fun c => by simp, ?_, by simp, by simp, by simp⟩ (complete_homeward l.slots x o data)
  rw [State.records, State.records, complete_queue, State.inflightRecord, complete_dlc]
  exact ((List.Sublist.refl s.queue.all).append (List.nil_sublist _)).map _ |>.subperm

theorem State.QueueLaws.setInflight {x : Exchange} (l : s.QueueLaws) (hx : s.inflightRecord = some x.record) :
    (s.setInflight (some x)).QueueLaws :=
  l.same rfl (congrArg (Option.map ExRecord.identity) hx.symm) rfl rfl rfl id

theorem State.QueueLaws.enterGuard (l : s.QueueLaws) (n : Nat) : (s.enterGuard n).QueueLaws :=
  l.same rfl rfl rfl rfl rfl id

theorem State.QueueLaws.leaveGuard (l : s.QueueLaws) : s.leaveGuard.QueueLaws :=
  l.same (by simp) (by simp [State.inflightRecord, leaveGuard_inflight]) (by simp) (by simp) (by simp) (by simp)

theorem State.QueueLaws.endAttempt {x : Exchange} (l : s.QueueLaws) (hx : s.inflightRecord = some x.record)
    (o : OutcomeCode) (data : List Byte) : (s.endAttempt x o data).QueueLaws := by
  refine State.QueueLaws.enterGuard ?_ _
  obtain ⟨result, payload, e⟩ | e := recordAttempt_cases x o data s
  · rw [e]; exact l.complete _ result payload
  · rw [e]; exact l.setInflight (x := x.noted o) hx

theorem State.QueueLaws.stray (l : s.QueueLaws) : s.stray.QueueLaws := (l.bump _).latch _

theorem State.QueueLaws.receiveChar (l : s.QueueLaws) (c : DropChar) : (s.receiveChar c).QueueLaws := by
  unfold State.receiveChar
  split
  · exact l.stray
  · exact l.stray
  · exact l.stray
  · exact l
  · split
    · split
      · exact l
      · next x hx =>
        exact (l.setInflight (x := { x with response := [c] }) (inflightRecord_of_some (x := x) hx)).same
          rfl rfl rfl rfl rfl id
    · exact l.stray
  · split
    · exact l
    · next x hx =>
      have flight := inflightRecord_of_some hx
      dsimp only
      split
      · exact l.endAttempt (x := { x with response := x.response ++ [c] }) flight _ _
      · exact l.setInflight (x := { x with response := x.response ++ [c] }) flight

theorem State.QueueLaws.beginAttempt {x : Exchange} (l : s.QueueLaws) (hx : s.inflightRecord = some x.record) :
    (s.beginAttempt x).QueueLaws :=
  l.same (by simp) (by simp [hx]) (by simp) (by simp) (by simp) (by simp)

theorem State.QueueLaws.endGuard (l : s.QueueLaws) : s.endGuard.QueueLaws := by
  unfold State.endGuard
  split
  · exact l.leaveGuard
  · next x hx =>
    have flight := inflightRecord_of_some hx
    split
    · exact (l.complete _ _ _).leaveGuard
    · split
      · exact (l.complete _ _ _).leaveGuard
      · unfold State.continueExchange
        split
        · exact l.beginAttempt (x := s.mainStep x) flight
        · exact l.beginAttempt flight

end Keeps

/-! ### Every command -/

theorem queueLaws_reset (pending : List Instr) (held : Bool) :
    ({ State.reset with inReset := held, pending := pending } : State).QueueLaws := by
  refine ⟨Nat.zero_le 48, fun c r hr => ?_, List.nodup_nil, Nat.zero_le _, HomewardSlots.empty, ⟨Nat.zero_le _, nofun⟩,
    ⟨Nat.zero_le _, nofun⟩, ⟨Nat.zero_le _, nofun⟩⟩
  rcases cls_cases c with rfl | rfl | rfl | rfl <;> cases hr

theorem State.QueueLaws.live {f : State → State} {s t : State} (l : s.QueueLaws) (hf : (f s).QueueLaws)
    (h : Machine.live f s = .next t) : t.QueueLaws :=
  live_keeps (P := State.QueueLaws) l hf h

/-- Every command keeps the laws of the queues. -/
theorem exec_queueLaws {c : Instr} {s t : State} (l : s.QueueLaws) (h : exec c s = .next t) : t.QueueLaws := by
  cases c with
  | hardReset cause =>
    obtain rfl : _ = t := Host.Outcome.next.inj h
    split
    · exact queueLaws_reset _ _
    · exact l
  | resetNRise =>
    obtain rfl : _ = t := Host.Outcome.next.inj h
    split
    · exact queueLaws_reset _ _
    · exact l
  | tick =>
    rw [exec, execTick] at h
    exact l.live l.tick h
  | expiry =>
    rw [exec, execExpiry] at h
    exact l.live l.takeExpired h
  | revivalPoint =>
    rw [exec, execRevivalPoint] at h
    exact l.live l.settleRevival h
  | scanDue =>
    rw [exec, execScanDue] at h
    refine l.live ?_ h
    unfold State.nextDue
    split
    · exact l
    · exact (l.withScan _).judgeDue _
  | linkUp p times =>
    rw [exec, execLinkUp] at h
    refine l.live ?_ h
    split
    · exact l
    · split
      · exact l.setPort p _
      · exact l.same (by simp) (by simp [State.inflightRecord]) (by simp) (by simp) (by simp) (by simp)
  | linkDown p times =>
    rw [exec, execLinkDown] at h
    refine l.live ?_ h
    split
    · split
      · exact l.setPort p _
      · exact l.enterDown p
    · exact l
  | hold p =>
    rw [exec, execHold] at h
    refine l.live ?_ h
    split; exacts [l.setPort p _, l]
  | go p =>
    rw [exec, execGo] at h
    refine l.live ?_ h
    split; exacts [l.setPort p _, l]
  | uFrameArrival bytes invalid =>
    rw [exec, execUFrameArrival] at h
    refine l.live ?_ h
    split
    · refine State.QueueLaws.judgeU ?_
      split
      · exact (l.setPort .u _).checkError .u
      · exact (l.setPort .u _).outwardSwitch _
    · exact l
  | enumerate header count =>
    rw [exec, execEnumerate] at h
    refine l.live ?_ h
    split
    · exact ((l.setPort .u _).enumerateAt _ _).judgeU
    · exact l
  | dFrameArrival bytes invalid =>
    rw [exec, execDFrameArrival] at h
    refine l.live ?_ h
    split
    · refine State.QueueLaws.judgeD ?_
      split
      · exact (l.setPort .d _).checkError .d
      · exact (l.setPort .d _).homewardSwitch _
    · exact l
  | chainEndAck =>
    rw [exec, execChainEndAck] at h
    refine l.live ?_ h
    split
    · next a n _ _ =>
      exact (l.fillSlot n (f := ackFrame a.cls a.tag enumerateCode .chainEnd [a.count]) rfl).same rfl rfl rfl rfl rfl id
    · exact l
  | mergeGrant =>
    rw [exec, execMergeGrant] at h
    refine l.live ?_ h
    split; exacts [l.grant, l]
  | uTxFrameEnd =>
    rw [exec, execUTxFrameEnd] at h
    exact l.live l.endUTx h
  | otqSendStart =>
    rw [exec, execOtqSendStart] at h
    refine l.live ?_ h
    split
    · exact l
    · split
      · exact l.same rfl rfl rfl rfl rfl id
      · exact l
  | otqSendEnd =>
    rw [exec, execOtqSendEnd] at h
    refine l.live ?_ h
    split
    · exact l
    · have ended : ({ s with dTx := none, otq := s.otq.drop 1 } : State).QueueLaws :=
        l.less ⟨fun _ => .refl _, List.Subperm.refl _, .refl _, List.drop_sublist 1 _, .refl _⟩ l.slots
      exact ended.judgeU.same (by simp) (by simp [State.inflightRecord]) (by simp) (by simp) (by simp) (by simp)
  | noticePlace =>
    rw [exec, execNoticePlace] at h
    refine l.live ?_ h
    split
    · exact State.QueueLaws.same (l.fillLowest (f := noticeFrame _ _) rfl) rfl rfl rfl rfl rfl id
    · exact l
  | requestAdmission =>
    rw [exec, execRequestAdmission] at h
    refine l.live ?_ h
    split
    · exact l
    · next ht => exact (l.takeHead ht).admitRequest _ _
  | badCommand =>
    rw [exec, execBadCommand] at h
    refine l.live ?_ h
    split
    · exact l
    · next ht => exact State.QueueLaws.finishControl (l.takeHead ht) _ _
  | readStatus =>
    rw [exec, execReadStatus] at h
    exact l.live (l.dispatch fun _ _ k => k) h
  | getParam =>
    rw [exec, execGetParam] at h
    exact l.live (l.dispatch fun ops t k => by rw [runGetParam_state]; exact k) h
  | setParam =>
    rw [exec, execSetParam] at h
    exact l.live ((l.settleBefore _).dispatch fun ops _ k => k.runSetParam ops) h
  | clearFaults =>
    rw [exec, execClearFaults] at h
    exact l.live (l.dispatch fun ops _ k => k.runClearFaults ops) h
  | readCounters =>
    rw [exec, execReadCounters] at h
    exact l.live (l.dispatch fun ops _ k => k.runReadCounters ops) h
  | tableWrite =>
    rw [exec, execTableWrite] at h
    exact l.live (l.dispatch fun ops _ k => k.runTableWrite ops) h
  | tableRead =>
    rw [exec, execTableRead] at h
    exact l.live (l.dispatch fun ops t k => by rw [runTableRead_state]; exact k) h
  | shadowLoad =>
    rw [exec, execShadowLoad] at h
    exact l.live (l.dispatch fun ops _ k => k.runShadowLoad ops) h
  | commit =>
    rw [exec, execCommit] at h
    exact l.live l.takeCommit h
  | commitReject =>
    rw [exec, execCommitReject] at h
    refine l.live ?_ h
    split
    · exact l
    · next c _ =>
      split
      · exact l
      · exact State.QueueLaws.answer (s := { s with commit := none }) (l.same rfl rfl rfl rfl rfl id) c.slot rfl
  | swap =>
    rw [exec, execSwap] at h
    refine l.live ?_ h
    split
    · exact l
    · split
      · exact l
      · exact l.settleDues.takeSwap _
  | cancel =>
    rw [exec, execCancel] at h
    exact l.live (l.dispatch fun ops _ k => k.runCancel ops) h
  | flush =>
    rw [exec, execFlush] at h
    exact l.live (l.dispatch fun ops _ k => k.runFlush ops) h
  | nodeReset =>
    rw [exec, execNodeReset] at h
    exact l.live (l.dispatch fun ops _ k => k.runNodeReset ops) h
  | nodeRead =>
    rw [exec, execNodeRead] at h
    exact l.live (l.dispatch fun ops t k => by rw [runNodeRead_state]; exact k) h
  | lineHalt =>
    rw [exec, execLineHalt] at h
    exact l.live (l.dispatch fun _ t k => State.QueueLaws.same (t := t.haltLine) k (by simp)
      (by simp [State.inflightRecord, haltLine_inflight]) (by simp) (by simp) (by simp) (by simp)) h
  | lineRun =>
    rw [exec, execLineRun] at h
    exact l.live (l.dispatch fun _ t k => State.QueueLaws.same (t := t.runLine) k (by simp)
      (by simp [State.inflightRecord, runLine_inflight]) (by simp) (by simp) (by simp) (by simp)) h
  | softReset =>
    rw [exec, execSoftReset] at h
    exact l.live (l.settleBefore _).takeSoftReset h
  | selection =>
    rw [exec, execSelection] at h
    refine l.live ?_ h
    split; exacts [l.select, l]
  | readBackComplete =>
    rw [exec, execReadBackComplete] at h
    refine l.live ?_ h
    split
    · exact l
    · next x hx =>
      have counted : (if x.step = .sync then s.bump .syncs else s).QueueLaws := by split; exacts [l.bump _, l]
      have flight : (if x.step = .sync then s.bump .syncs else s).inflightRecord = some x.record := by
        split <;> exact transmitting_inflight hx
      dsimp only
      split
      · exact (counted.setInflight (x := { x with broadcastDone := true }) flight).enterGuard _
      · exact counted.same rfl rfl rfl rfl rfl id
  | lineContention k rb =>
    rw [exec, execLineContention] at h
    refine l.live ?_ h
    split
    · exact l
    · next x hx =>
      split
      · exact ((l.bump _).latch _).endAttempt (transmitting_inflight hx) _ _
      · exact l
  | lineFault =>
    rw [exec, execLineFault] at h
    refine l.live ?_ h
    split
    · exact l
    · next x _ =>
      exact ((l.latch .dropLineDead).complete (x.noted .lineFault) (some .lineFault) []).same rfl rfl rfl rfl rfl id
  | responseStart data framing =>
    rw [exec, execResponseStart] at h
    exact l.live (l.receiveChar _) h
  | noResponse =>
    rw [exec, execNoResponse] at h
    refine l.live ?_ h
    split
    · next x _ hx => exact l.endAttempt (inflightRecord_of_some hx) _ _
    · exact l
  | responseCharacter c =>
    rw [exec, execResponseCharacter] at h
    exact l.live (l.receiveChar c) h
  | responseEnd =>
    rw [exec, execResponseEnd] at h
    refine l.live ?_ h
    split
    · next x _ hx => exact l.endAttempt (inflightRecord_of_some hx) _ _
    · exact l
  | guardEnd =>
    rw [exec, execGuardEnd] at h
    refine l.live ?_ h
    split; exacts [l.endGuard, l]
  | strayCharacter c =>
    rw [exec, execStrayCharacter] at h
    exact l.live (l.receiveChar c) h
  | frameStartInReception p data =>
    rw [exec, execFrameStartInReception] at h
    refine l.live ?_ h
    split
    · dsimp only
      split
      · exact (l.setPort p _).checkError p
      · exact l.setPort p _
    · exact l
  | resetCharacterFinished =>
    rw [exec, execResetCharacterFinished] at h
    refine l.live ?_ h
    split
    · exact l.same rfl rfl rfl rfl rfl id
    · exact l

/-- Settles O54: the five laws are one structure, kept when the queue of commands moves on, by the idle step and by every
command. -/
theorem stepKeepsTheQueueLaws : Obligations.StepKeepsTheQueueLaws := by
  intro s t capacity classes kinds tags probes hs
  have l : s.QueueLaws := (queueLaws_iff s).mpr ⟨capacity, classes, kinds, tags, probes⟩
  refine (queueLaws_iff t).mp (step_keeps (P := State.QueueLaws) ?_ ?_ (fun c u v h => exec_queueLaws h) l hs)
  · exact fun u _ h => h.same rfl rfl rfl rfl rfl id
  · intro u h
    unfold State.idleStep
    split
    · exact h
    · exact h.same rfl rfl rfl rfl rfl id

end Sys2Proof.Machine
end

section
/-! ## Resets, the waiting head, a scan due, the uplink loss -/

namespace Sys2Proof.Machine

/-! ### The state after a reset -/

theorem routeFails_zero : routeFails Image.zero = none := by decide
theorem scanFails_zero : scanFails Image.zero = none := by decide

theorem reset_paramLaw : State.reset.ParamLaw := by
  refine ⟨by decide, fun id hid v hv => ?_⟩
  have unset : ∀ id ∈ List.range' 1 14, paramPending State.reset.dlc.pend id = none := by decide
  rw [unset id hid] at hv
  cases hv

theorem reset_nodeLaw : State.reset.NodeLaw := by
  refine ⟨fun r hr => ?_, by decide, by decide⟩
  have fresh : r = {} := by simpa [State.reset] using hr
  rw [fresh]
  exact ⟨fun _ => rfl, nofun, nofun, fun _ => rfl⟩

theorem reset_bankLaw : State.reset.BankLaw := by
  refine ⟨fun img h => ?_, fun img h => ?_, nofun⟩
  · have zero : img = Image.zero := by simpa [State.reset, State.active, State.bank] using h
    rw [zero]
    exact routeFails_zero
  · have zero : img = Image.zero := by simpa [State.reset, State.active, State.bank] using h
    rw [zero]
    exact scanFails_zero

theorem reset_downLaw : State.reset.DownLaw := by
  refine ⟨fun _ => ⟨rfl, rfl, rfl, rfl, fun x hx => ?_, nofun, nofun, nofun⟩, fun _ => ⟨rfl, rfl⟩⟩
  simpa [State.reset] using hx

/-- Settles O53: the laws of the queues and of the slots hold of the empty bridge, the others by its reset values. -/
theorem resetIsLawful : Obligations.ResetIsLawful := by
  obtain ⟨capacity, classes, kinds, tags, probes⟩ := (queueLaws_iff _).mp (queueLaws_reset [] false)
  obtain ⟨slots, sending⟩ := (ledger_iff _).mp (ledger_reset [] false)
  exact ⟨capacity, classes, kinds, tags, probes, reset_paramLaw,
    ⟨by decide, by decide, by decide, by decide, by decide⟩, reset_nodeLaw, reset_bankLaw,
    ⟨rfl, rfl, rfl, rfl⟩, ⟨fun _ => ⟨rfl, rfl, rfl⟩, fun _ => ⟨rfl, rfl, rfl⟩, nofun, nofun⟩, reset_downLaw, slots, sending⟩

theorem isHardReset_of_long {cause : ResetCause} (h : ∀ ns, cause = .resetN ns → 1000 ≤ ns) :
    isHardReset cause = true := by
  cases cause with
  | powerOn => rfl
  | resetN ns => simpa [isHardReset] using h ns rfl

theorem exec_hardReset {cause : ResetCause} (h : ∀ ns, cause = .resetN ns → 1000 ≤ ns) (s : State) :
    exec (.hardReset cause) s = .next s.hardReset := by
  rw [exec, execHardReset, isHardReset_of_long h]
  rfl

theorem exec_resetNRise_of_held {s : State} (h : s.inReset = true) :
    exec .resetNRise s = .next { State.reset with pending := s.pending } := by
  rw [exec, execResetNRise, h]
  rfl

/-- Settles O4: what the rise leaves is the reset state, whose Exchange Queue, Inbox and slots are empty. -/
theorem hardResetEmptiesTheExchangeQueue : Obligations.HardResetEmptiesTheExchangeQueue := by
  intro cause s long
  refine ⟨_, _, exec_hardReset long s, exec_resetNRise_of_held rfl, rfl, rfl, rfl, rfl, rfl, fun _ => rfl,
    fun i _ => ?_, rfl, rfl, fun n _ => ?_, ?_, rfl, rfl⟩
  · simp [State.scanRecord, State.reset]
  · simp [State.slot, State.reset]
  · show (Vector.replicate 64 Slot.free).toList.countP Slot.isFree = 64
    rw [Vector.toList_replicate, List.countP_replicate]
    rfl

/-! ### The Inbox head waits, or is another command's -/

/-- A command whose head is not there to be taken changes nothing; it settles no dues for a head of another command. -/
theorem exec_command_untaken {c : Command} {s : State} (live : s.inReset = false)
    (untaken : s.takeHead (isCommand c) = none)
    (unsettled : ∀ want : Frame → Bool, (∀ f, want f = true → isCommand c f = true) → s.settleBefore want = s) :
    exec c.instr s = .next s := by
  cases c with
  | commit =>
    rw [Command.instr, exec, execCommit, live_of_live live, State.takeCommit, untaken]
  | softReset =>
    have owed : s.settleBefore namesLevel = s := unsettled _ fun f hf => by
      simp only [namesLevel, Bool.and_eq_true] at hf
      exact hf.1.1
    rw [Command.instr, exec, execSoftReset, live_of_live live, owed, State.takeSoftReset, untaken]
  | setParam =>
    have owed : s.settleBefore s.changesScanEnable = s := unsettled _ fun f hf => by
      simp only [State.changesScanEnable, Bool.and_eq_true] at hf
      exact hf.1.1.1.1
    rw [Command.instr, exec, execSetParam, live_of_live live, owed, dispatch_none untaken]
  | readStatus => rw [Command.instr, exec, execReadStatus, live_of_live live, dispatch_none untaken]
  | getParam => rw [Command.instr, exec, execGetParam, live_of_live live, dispatch_none untaken]
  | clearFaults => rw [Command.instr, exec, execClearFaults, live_of_live live, dispatch_none untaken]
  | readCounters => rw [Command.instr, exec, execReadCounters, live_of_live live, dispatch_none untaken]
  | tableWrite => rw [Command.instr, exec, execTableWrite, live_of_live live, dispatch_none untaken]
  | tableRead => rw [Command.instr, exec, execTableRead, live_of_live live, dispatch_none untaken]
  | shadowLoad => rw [Command.instr, exec, execShadowLoad, live_of_live live, dispatch_none untaken]
  | cancel => rw [Command.instr, exec, execCancel, live_of_live live, dispatch_none untaken]
  | flush => rw [Command.instr, exec, execFlush, live_of_live live, dispatch_none untaken]
  | nodeReset => rw [Command.instr, exec, execNodeReset, live_of_live live, dispatch_none untaken]
  | nodeRead => rw [Command.instr, exec, execNodeRead, live_of_live live, dispatch_none untaken]
  | lineHalt => rw [Command.instr, exec, execLineHalt, live_of_live live, dispatch_none untaken]
  | lineRun => rw [Command.instr, exec, execLineRun, live_of_live live, dispatch_none untaken]

theorem exec_requestAdmission_untaken {s : State} (live : s.inReset = false)
    (untaken : s.takeHead (fun f => decide (f.kind = .request)) = none) : exec .requestAdmission s = .next s := by
  rw [exec, execRequestAdmission, live_of_live live, untaken]

theorem exec_badCommand_untaken {s : State} (live : s.inReset = false)
    (untaken : s.takeHead (fun f => decide (f.kind = .control) && decide (Command.ofCode f.code = none)) = none) :
    exec .badCommand s = .next s := by
  rw [exec, execBadCommand, live_of_live live, untaken]

/-- Settles O28: a head that is not there, has no FREE slot or is another command's is not taken. -/
theorem inboxHeadIsTakenByItsOwnCommand : Obligations.InboxHeadIsTakenByItsOwnCommand := by
  intro s live
  refine ⟨fun waits => ⟨exec_requestAdmission_untaken live (takeHead_waits waits _),
    exec_badCommand_untaken live (takeHead_waits waits _),
    fun c => exec_command_untaken live (takeHead_waits waits _) fun want _ => settleBefore_waits waits want⟩,
    fun f rest inbox => ⟨fun other => ?_, fun other => ?_, fun c other => ?_⟩⟩
  · exact exec_requestAdmission_untaken live (takeHead_unwanted inbox (by simpa using other))
  · refine exec_badCommand_untaken live (takeHead_unwanted inbox ?_)
    rcases other with other | ⟨c, hc⟩
    · simp [other]
    · simp [hc, Command.ofCode_code]
  · have unwanted : isCommand c f = false := by
      rw [Bool.eq_false_iff]
      intro h
      obtain ⟨kind, code⟩ := isCommand_iff.mp h
      exact other.elim (fun k => k kind) fun k => k code
    refine exec_command_untaken live (takeHead_unwanted inbox unwanted) fun want sub => settleBefore_unwanted inbox ?_
    rw [Bool.eq_false_iff]
    intro h
    rw [sub f h] at unwanted
    cases unwanted

/-! ### A scan due -/

theorem exec_scanDue_nothing {s : State} (live : s.inReset = false) (idle : s.scan.duesOwed = []) :
    exec .scanDue s = .next s := by
  rw [exec, execScanDue, live_of_live live, State.nextDue, idle]

theorem exec_scanDue {s : State} {i : Nat} {rest : List Nat} (live : s.inReset = false)
    (owed : s.scan.duesOwed = i :: rest) :
    exec .scanDue s = .next (State.judgeDue i { s with scan := { s.scan with duesOwed := rest } }) := by
  rw [exec, execScanDue, live_of_live live, State.nextDue, owed]

/-- A missed due counts up to 255 and as a SCAN_OVERRUN (R111). -/
theorem missDue_eq (i : Nat) (s : State) : s.missDue i = { s with
    scan := { s.scan with
      records := vset s.scan.records i { s.scanRecord i with missed := min ((s.scanRecord i).missed + 1) 255 } }
    counters := vset s.counters 12 (saturate (s.counter .scanOverruns)) } := by
  have count : (if (s.scanRecord i).missed < 255 then (s.scanRecord i).missed + 1 else 255) =
      min ((s.scanRecord i).missed + 1) 255 := by split <;> omega
  rw [← count]
  rfl

/-- The capacity rule (R4) with the class as a number. -/
theorem admits_ofNat (s : State) (n : Nat) :
    s.admits (BitVec.ofNat 2 n) = true ↔
      if n % 4 = 0 then 1 ≤ 48 - s.queue.size else s.params.classReserve < 48 - s.queue.size := by
  have zero : BitVec.ofNat 2 n = 0#2 ↔ n % 4 = 0 := by
    rw [← BitVec.toNat_inj]; simp
  simp only [State.admits, State.freeEntries, Config.eqCapacity, zero]
  split <;> exact decide_eq_true_iff

/-- Settles O9: the first due owed is judged by the first of R110's conditions that holds. -/
theorem scanDueIsMissedOrInserted : Obligations.ScanDueIsMissedOrInserted := by
  intro s u i rest img live hu himg
  refine ⟨exec_scanDue_nothing live, fun owed => ?_⟩
  have room := admits_ofNat s img.scanClass
  rw [exec_scanDue live owed, ← hu]
  have record : u.scanRecord i = s.scanRecord i := by rw [hu]; rfl
  have offline : u.nodeOffline img.scanNode = s.nodeOffline img.scanNode := by rw [hu]; rfl
  have admits : u.admits (BitVec.ofNat 2 img.scanClass) = s.admits (BitVec.ofNat 2 img.scanClass) := by rw [hu]; rfl
  have judged : u.judgeDue i = if (s.scanRecord i).outstanding then u.missDue i
      else if s.nodeOffline img.scanNode then u.offlineDue i img
      else if s.admits (BitVec.ofNat 2 img.scanClass) then
        (u.enqueue (.scan (scanRecordOf i img u.epoch))).setScanRecord i { s.scanRecord i with outstanding := true }
      else u.missDue i := by
    rw [← record, ← offline, ← admits, himg, hu]
    rfl
  have missed : u.missDue i = { u with
      scan := { u.scan with
        records := vset s.scan.records i { s.scanRecord i with missed := min ((s.scanRecord i).missed + 1) 255 } }
      counters := vset s.counters 12 (saturate (s.counter .scanOverruns)) } := by
    rw [missDue_eq, record, hu]
    rfl
  refine ⟨?_, fun fresh online has => ?_⟩
  · intro why
    rw [judged, ← missed]
    by_cases out : (s.scanRecord i).outstanding = true
    · rw [if_pos out]
    · obtain ⟨online, full⟩ := why.resolve_left out
      have refused : ¬s.admits (BitVec.ofNat 2 img.scanClass) = true := fun h => full (room.mp h)
      rw [if_neg out, online, if_neg (by simp), if_neg refused]
  · rw [judged, fresh, online, if_neg (by simp), if_neg (by simp), if_pos (room.mpr has), State.enqueue,
      insert_eq_setList, hu]
    rfl

/-! ### The uplink loss -/

theorem exec_linkDown_limit {s : State} {p : PortId} {run rest : List SymbolTime} (live : s.inReset = false)
    (up : (s.port p).link = .up) (quiet : ∀ x ∈ run, validTime x = false) (limit : (s.port p).silence + run.length = 256)
    (nonempty : run ≠ []) : exec (.linkDown p (run ++ rest)) s = .next (s.enterDown p) := by
  rw [exec, execLinkDown, live_of_live live]
  dsimp only
  rw [if_pos (by simpa [State.isUp] using up), silence_limit _ _ _ quiet nonempty limit]

/-- A receive side whose queue is empty sends GO when it had sent HOLD (R148, R150). -/
theorem judge_of_empty (q : Port) :
    q.judge false true = if q.link = .up ∧ q.holdSent = true then { q with holdSent := false, flowOut := some .go } else q := by
  unfold Port.judge
  split <;> simp_all

/-- Settles O13: the loss is the state after the owed dues with what hangs on the uplink taken away. -/
theorem uplinkLossReachesEveryBlock : Obligations.UplinkLossReachesEveryBlock := by
  intro s u run rest live up quiet limit nonempty hu
  have flags := fun i (hi : i < 32) => clearQueuedFlags_scanRecord (u.setPort .u s.portU.fall) i hi
  refine ⟨_, exec_linkDown_limit live up quiet limit nonempty, ?_, ?_, ?_, rfl, fun n => ?_, fun noCommit => ?_, fun c hc => ?_,
    fun noExchange => ?_, fun x hx => ?_, fun i hi => ⟨fun queued => ?_, fun unqueued => ?_⟩⟩
  · rw [hu]; rfl
  · rfl
  · have portD : (s.enterDown .u).portD = s.settleDues.portD.judge false true := rfl
    rw [portD, judge_of_empty, settleDues_portD]
  · exact vget_replicate _ _
  · show (s.settleDues.commit.map fun c => { c with slot := none }) = none
    rw [← hu, noCommit]; rfl
  · show (s.settleDues.commit.map fun c => { c with slot := none }) = _
    rw [← hu, hc]; rfl
  · show s.settleDues.dlc.loseSession = _
    rw [← hu, Dlc.loseSession, noExchange]
  · show s.settleDues.dlc.loseSession = _
    rw [← hu, Dlc.loseSession, hx]
  · subst hu
    exact (flags i hi).1 queued
  · subst hu
    exact (flags i hi).2 fun c hc e => unqueued ⟨c, hc, e⟩

end Sys2Proof.Machine
end

section
/-! ## Expiry, FLUSH and CANCEL: records that leave the queue in the middle -/

namespace Sys2Proof.Machine

/-! ### Reply slots in the hands of an event -/

section Slots
variable {s : State} {held : List (Nat × Holder)} {sent : Option Nat} {n : Nat} {h : Holder}

/-- Filling a slot that is held RESERVED raises the number of FILLED slots. -/
theorem fillSlot_filledCount (b : SlotBook s.loq ((n, h) :: held) sent) (f : Frame) :
    (s.fillSlot n f).filledCount = s.filledCount + 1 := by
  have counted := countP_vset s.loq Slot.isFilled n (.filled f s.filledCount) .free (b.lt List.mem_cons_self)
  have old : (vget s.loq n .free).isFilled = false := b.unfilled
  rw [old, if_neg Bool.false_ne_true] at counted
  exact counted

theorem mem_replySlots {n : Nat} {rs : List ExRecord} : (n, Holder.exchange) ∈ replySlots rs ↔ ∃ r ∈ rs, r.slot = some n := by
  simp [replySlots]

/-- No two of the records that hold a slot hold the same one. -/
theorem SlotBook.apart {v : Vector Slot 64} {r r' : ExRecord} {rs : List ExRecord}
    (b : SlotBook v (replySlots (r :: rs) ++ held) sent) (hr : r.slot = some n) (hr' : r' ∈ rs) : r'.slot ≠ some n := by
  intro e
  have nodup : ((n, Holder.exchange) :: (replySlots rs ++ held)).Nodup := by
    have := b.nodup
    rwa [replySlots_cons, hr] at this
  exact (List.nodup_cons.mp nodup).1 (List.mem_append_left _ (mem_replySlots.mpr ⟨r', hr', e⟩))

/-- The state without the queued records that satisfy `p`. -/
def State.without (p : ExRecord → Bool) (s : State) : State := { s with queue := s.queue.remove p }

/-- The book of the queued records that leave, with the slots of the others. -/
theorem State.SlotLaw.leaveBook {s : State} (law : s.SlotLaw) (p : ExRecord → Bool) :
    SlotBook s.loq (replySlots (s.queue.all.filter p) ++ (s.without p).heldSlots) none := by
  have records : (s.queue.all.filter p ++ (s.without p).records).Perm s.records := by
    rw [State.records, State.records, ← List.append_assoc]
    exact (remove_perm s.queue p).append_right _
  exact law.book.perm (heldSlots_perm records rfl)

/-- A queued CONTROLLER record holds a slot (R18). -/
theorem State.SlotLaw.queuedSlot {s : State} (law : s.SlotLaw) {c : CtlRecord} (hc : .controller c ∈ s.queue.all) :
    ∃ n, c.slot = some n := by
  obtain ⟨-, -, -, -, -, -, queued, -⟩ := law
  exact Option.isSome_iff_exists.mp (queued _ hc)

end Slots

/-! ### EXPIRY (R25) -/

/-- An expired record's answer changes slots and counters alone. -/
theorem expireOne_frame (s : State) (r : ExRecord) :
    s.expireOne r = { s with loq := (s.expireOne r).loq, counters := (s.expireOne r).counters } := by
  cases r with
  | controller c => simp only [State.expireOne, State.answer]; split <;> rfl
  | scan c => rfl
  | probe n => rfl

theorem foldExpire_frame (gone : List ExRecord) (s : State) : gone.foldl State.expireOne s =
    { s with loq := (gone.foldl State.expireOne s).loq, counters := (gone.foldl State.expireOne s).counters } := by
  induction gone generalizing s with
  | nil => rfl
  | cons r gone ih =>
    rw [List.foldl_cons]
    refine (ih (s.expireOne r)).trans ?_
    generalize gone.foldl State.expireOne (s.expireOne r) = t
    rw [expireOne_frame]

/-- What the answers of a list of CONTROLLER records write, each in the slot that it holds. -/
structure Expired (gone : List ExRecord) (s t : State) : Prop where
  written : ∀ k c n, gone[k]? = some (.controller c) → c.slot = some n →
    t.slot n = .filled (c.reply .expired 0 []) (s.filledCount + k)
  others : ∀ n, (∀ r ∈ gone, r.slot ≠ some n) → t.slot n = s.slot n
  counted : (t.counter .expired).toNat = min 65535 ((s.counter .expired).toNat + gone.length)
  uncounted : ∀ c, c ≠ .expired → t.counter c = s.counter c

/-- One record answered, then the others. -/
theorem Expired.cons {s t : State} {c : CtlRecord} {n : Nat} {gone : List ExRecord} {held : List (Nat × Holder)}
    {sent : Option Nat} (b : SlotBook s.loq (replySlots (.controller c :: gone) ++ held) sent) (hn : c.slot = some n)
    (rest : Expired gone (s.expireOne (.controller c)) t) : Expired (.controller c :: gone) s t := by
  have one : s.expireOne (.controller c) = (s.fillSlot n (c.reply .expired 0 [])).bump .expired := by
    rw [State.expireOne, hn, State.answer]
  have mine : SlotBook s.loq ((n, .exchange) :: (replySlots gone ++ held)) sent := by
    rwa [replySlots_cons, ExRecord.slot, hn] at b
  obtain ⟨written, others, counted, uncounted⟩ := rest
  rw [one] at written others counted uncounted
  have count : ((s.fillSlot n (c.reply .expired 0 [])).bump .expired).filledCount = s.filledCount + 1 :=
    fillSlot_filledCount mine _
  have after : ∀ m, ((s.fillSlot n (c.reply .expired 0 [])).bump .expired).slot m =
      if n = m ∧ m < 64 then .filled (c.reply .expired 0 []) s.filledCount else s.slot m := fun m => slot_vset s n m _ _ rfl
  have bumped : ∀ d, ((s.fillSlot n (c.reply .expired 0 [])).bump .expired).counter d =
      if .expired = d then saturate (s.counter .expired) else s.counter d := fun d => counter_bump .expired d _
  refine ⟨fun k d m hk hm => ?_, fun m free => ?_, ?_, fun d hd => ?_⟩
  · cases k with
    | zero =>
      cases hk
      obtain rfl : n = m := Option.some.inj (hn.symm.trans hm)
      rw [others n fun r hr => b.apart hn hr, after, if_pos ⟨rfl, mine.lt List.mem_cons_self⟩]
      rfl
    | succ k =>
      rw [written k d m hk hm, count, Nat.add_right_comm]
      rfl
  · rw [others m fun r hr => free r (List.mem_cons_of_mem _ hr), after, if_neg]
    rintro ⟨rfl, -⟩
    exact free _ List.mem_cons_self hn
  · rw [counted, bumped, if_pos rfl, saturate_toNat, List.length_cons]
    omega
  · rw [uncounted d hd, bumped, if_neg (Ne.symm hd)]

theorem foldExpire_expired {gone : List ExRecord} {s : State} {held : List (Nat × Holder)} {sent : Option Nat}
    (b : SlotBook s.loq (replySlots gone ++ held) sent) (own : ∀ r ∈ gone, ∃ c n, r = .controller c ∧ c.slot = some n) :
    Expired gone s (gone.foldl State.expireOne s) := by
  induction gone generalizing s with
  | nil =>
    refine ⟨nofun, fun _ _ => rfl, ?_, fun _ _ => rfl⟩
    have := (s.counter .expired).isLt
    simp only [List.foldl_nil, List.length_nil]
    omega
  | cons r gone ih =>
    obtain ⟨c, n, rfl, hn⟩ := own r List.mem_cons_self
    refine Expired.cons b hn (ih ?_ fun x hx => own x (List.mem_cons_of_mem _ hx))
    rw [replySlots_cons, List.append_assoc] at b
    exact answer_book (slot := c.slot) b _

theorem exec_expiry {s : State} (live : s.inReset = false) : exec .expiry s = .next s.takeExpired := by
  rw [exec, execExpiry, live_of_live live]

/-- Settles O7: the expired records are answered one by one, each in its own slot and with the next fill number. -/
theorem expiryAnswersEveryExpiredRecord : Obligations.ExpiryAnswersEveryExpiredRecord := by
  intro s expired gone live law hexpired hgone
  obtain rfl : expired = ExRecord.isExpired s.timer.count := by
    funext r
    rw [Bool.eq_iff_iff, hexpired]
    cases r <;> simp [ExRecord.isExpired, BitVec.toNat_eq, Nat.pos_iff_ne_zero]
  subst hgone
  have frame : s.takeExpired = { s with
      queue := s.queue.remove (ExRecord.isExpired s.timer.count), loq := s.takeExpired.loq,
      counters := s.takeExpired.counters } := foldExpire_frame _ _
  have queue : s.takeExpired.queue = s.queue.remove (ExRecord.isExpired s.timer.count) := congrArg State.queue frame
  have own : ∀ r ∈ s.queue.all.filter (ExRecord.isExpired s.timer.count), ∃ c n, r = .controller c ∧ c.slot = some n := by
    intro r hr
    obtain ⟨hr, old⟩ := List.mem_filter.mp hr
    obtain ⟨c, rfl, -⟩ := (hexpired r).mp old
    obtain ⟨n, hn⟩ := law.queuedSlot hr
    exact ⟨c, n, rfl, hn⟩
  obtain ⟨written, others, counted, uncounted⟩ := foldExpire_expired
    (s := s.without (ExRecord.isExpired s.timer.count)) (law.leaveBook _) own
  refine ⟨_, exec_expiry live, by rw [queue]; exact frame, fun c => ?_, written, others, counted, uncounted⟩
  rw [queue, list_remove]

/-! ### FLUSH (R29) -/

/-- A list of records releases its slots; nothing else changes. -/
def State.releaseAll (gone : List ExRecord) (s : State) : State := gone.foldl (fun t r => t.releaseReply r.slot) s

theorem releaseReply_frame (o : Option Nat) (s : State) : s.releaseReply o = { s with loq := (s.releaseReply o).loq } := by
  cases o with
  | none => rfl
  | some n => simp only [State.releaseReply, State.freeSlot]; split <;> rfl

theorem releaseAll_frame (gone : List ExRecord) (s : State) :
    s.releaseAll gone = { s with loq := (s.releaseAll gone).loq } := by
  unfold State.releaseAll
  induction gone generalizing s with
  | nil => rfl
  | cons r gone ih =>
    rw [List.foldl_cons]
    refine (ih (s.releaseReply r.slot)).trans ?_
    generalize List.foldl _ (s.releaseReply r.slot) gone = t
    rw [releaseReply_frame]

@[simp] theorem releaseAll_queue (gone : List ExRecord) (s : State) : (s.releaseAll gone).queue = s.queue := by
  rw [releaseAll_frame]

/-- A slot after the release of a slot that is held RESERVED. -/
theorem releaseReply_slot {s : State} {o : Option Nat} {held : List (Nat × Holder)} {sent : Option Nat}
    (b : SlotBook s.loq (replySlot o ++ held) sent) (k : Nat) :
    (s.releaseReply o).slot k = if o = some k then .free else s.slot k := by
  cases o with
  | none => rfl
  | some m =>
    have m_lt : m < 64 := b.lt List.mem_cons_self
    rw [State.releaseReply, freeSlot_unfilled (SlotBook.unfilled b), slot_vset s m k .free _ rfl]
    by_cases e : m = k
    · subst e
      rw [if_pos ⟨rfl, m_lt⟩, if_pos rfl]
    · rw [if_neg fun c => e c.1, if_neg fun c => e (Option.some.inj c)]

/-- The slots of the records that leave are FREE, the others as they were. -/
theorem releaseAll_slot {gone : List ExRecord} {s : State} {held : List (Nat × Holder)} {sent : Option Nat}
    (b : SlotBook s.loq (replySlots gone ++ held) sent) (k : Nat) :
    ((∃ r ∈ gone, r.slot = some k) → (s.releaseAll gone).slot k = .free) ∧
      ((∀ r ∈ gone, r.slot ≠ some k) → (s.releaseAll gone).slot k = s.slot k) := by
  induction gone generalizing s with
  | nil => exact ⟨nofun, fun _ => rfl⟩
  | cons r gone ih =>
    rw [replySlots_cons, List.append_assoc] at b
    obtain ⟨freed, kept⟩ := ih (releaseReply_book b)
    have first := releaseReply_slot b k
    refine ⟨fun ⟨x, hx, hk⟩ => ?_, fun untouched => ?_⟩
    · by_cases later : ∃ x ∈ gone, x.slot = some k
      · exact freed later
      · have mine : r.slot = some k := by
          rcases List.mem_cons.mp hx with rfl | hx
          · exact hk
          · exact absurd ⟨x, hx, hk⟩ later
        rw [if_pos mine] at first
        exact (kept fun x hx e => later ⟨x, hx, e⟩).trans first
    · rw [if_neg (untouched r List.mem_cons_self)] at first
      exact (kept fun x hx => untouched x (List.mem_cons_of_mem _ hx)).trans first

/-- A command with its operand bytes runs, and answers in the slot of its dispatch (R162 to R165). -/
theorem State.HeadCommand.dispatch_run {s : State} {c : Command} {ops : List Byte} {f : Frame} {rest : List Frame} {n : Nat}
    (h : s.HeadCommand c ops f rest n) (len : ops.length = c.operandBytes) (run : List Byte → State → CommandResult) :
    Machine.dispatch c run s = (run ops (s.took rest n)).state.answered f n (run ops (s.took rest n)).code
      (run ops (s.took rest n)).payload := by
  rw [h.dispatch, if_pos len]

/-- Settles O38: the masked CONTROLLER records leave and release their slots one by one. -/
theorem flushReleasesTheMaskedClasses : Obligations.FlushReleasesTheMaskedClasses := by
  intro s t f rest n mask flushed gone head ht law hflushed hgone
  obtain rfl : flushed = ExRecord.flushed mask := by
    funext r
    rw [Bool.eq_iff_iff, hflushed]
    cases r <;> simp [ExRecord.flushed]
  subst hgone ht
  have book : SlotBook ((s.took rest n).without (ExRecord.flushed mask)).loq
      (replySlots (s.queue.all.filter (ExRecord.flushed mask)) ++ _) none :=
    ((law.leaveBook (ExRecord.flushed mask)).claim (lowestFree_spec head.slot).1 (lowestFree_spec head.slot).2.1
      .dispatch).perm List.perm_middle.symm
  refine ⟨((s.took rest n).without (ExRecord.flushed mask)).releaseAll (s.queue.all.filter (ExRecord.flushed mask)), ?_, ?_,
    fun cls => ?_, fun k => (releaseAll_slot book k).1, fun k => (releaseAll_slot book k).2⟩
  · rw [exec, execFlush, live_of_live head.live, head.dispatch_run rfl]
    rfl
  · rw [releaseAll_queue]
    exact releaseAll_frame _ _
  · rw [releaseAll_queue]
    exact list_remove s.queue _ cls

/-! ### CANCEL (R27) -/

/-- The target tag of a CANCEL: bits 11 to 0 of its operands. -/
theorem cancelTag {hi lo : Byte} {tag : Tag} (h : tag.toNat = hi.toNat % 16 * 256 + lo.toNat) :
    (opWord [hi, lo] 0).setWidth 12 = tag := by
  have low := lo.isLt
  have word : (opWord [hi, lo] 0).toNat = hi.toNat * 256 + lo.toNat := by
    show (hi ++ lo).toNat = _
    rw [BitVec.toNat_append, ← Nat.shiftLeft_add_eq_or_of_lt low, Nat.shiftLeft_eq]
  apply BitVec.eq_of_toNat_eq
  rw [BitVec.toNat_setWidth, word, h]
  omega

/-- The bytes of a tag as an ACK carries it. -/
theorem tagBytes {hi lo : Byte} {tag : Tag} (h : tag.toNat = hi.toNat % 16 * 256 + lo.toNat) :
    [hiByte (tag.setWidth 16), loByte (tag.setWidth 16)] = [BitVec.ofNat 8 (hi.toNat % 16), lo] := by
  have low := lo.isLt
  have high : hiByte (tag.setWidth 16) = BitVec.ofNat 8 (hi.toNat % 16) := by
    apply BitVec.eq_of_toNat_eq
    simp only [hiByte, BitVec.extractLsb'_toNat, BitVec.toNat_setWidth, BitVec.toNat_ofNat, h, Nat.shiftRight_eq_div_pow]
    omega
  have below : loByte (tag.setWidth 16) = lo := by
    apply BitVec.eq_of_toNat_eq
    simp only [loByte, BitVec.extractLsb'_toNat, BitVec.toNat_setWidth, h, Nat.shiftRight_eq_div_pow]
    omega
  rw [high, below]

/-- A record of the tag apart, no other record carries it (R6). -/
theorem State.TagLaw.others {s : State} (law : s.TagLaw) {c : CtlRecord} {others : List ExRecord}
    (p : s.records.Perm (.controller c :: others)) {r : ExRecord} (hr : r ∈ others) : r.hasTag c.tag = false := by
  have nodup := (p.filterMap ExRecord.tag?).nodup_iff.mp law
  rw [List.filterMap_cons_some (show ExRecord.tag? (.controller c) = some c.tag from rfl), List.nodup_cons] at nodup
  rw [Bool.eq_false_iff]
  intro h
  exact nodup.1 (List.mem_filterMap.mpr ⟨r, hr, hasTag_iff.mp h⟩)

/-- The record of the tag that a CANCEL finds in the queue. -/
theorem State.TagLaw.takeTag {s : State} (law : s.TagLaw) {cls : Cls} {before after : List ExRecord} {c : CtlRecord}
    (h : s.queue.list cls = before ++ .controller c :: after) :
    s.queue.takeFirst (ExRecord.hasTag c.tag) = some (.controller c, s.queue.setList cls (before ++ after)) := by
  have left : s.records.Perm (.controller c :: ((s.queue.setList cls (before ++ after)).all ++ s.inflightRecord.toList)) :=
    (perm_setList_erase h).append_right _
  have rest : ∀ d, ∀ r ∈ (s.queue.setList cls (before ++ after)).list d, r.hasTag c.tag = false := fun d r hr =>
    law.others left (List.mem_append_left _ ((mem_all _ _).mpr ⟨d, hr⟩))
  refine takeFirst_of_first h (by simp [ExRecord.hasTag]) (fun r hr => rest cls r ?_) fun d hd r hr => rest d r ?_
  · rw [list_setList, if_pos rfl]
    exact List.mem_append_left _ hr
  · rwa [list_setList, if_neg (BitVec.ne_of_lt hd)]

theorem exec_cancel {s : State} {hi lo : Byte} {f : Frame} {rest : List Frame} {n : Nat}
    (head : s.HeadCommand .cancel [hi, lo] f rest n) :
    exec .cancel s = .next ((runCancel [hi, lo] (s.took rest n)).state.answered f n
      (runCancel [hi, lo] (s.took rest n)).code (runCancel [hi, lo] (s.took rest n)).payload) := by
  rw [exec, execCancel, live_of_live head.live, head.dispatch_run rfl]

/-- CANCEL's rule with the queue's answer to its tag. -/
theorem runCancel_of_found {s : State} {ops : List Byte} {tag : Tag} (htag : (opWord ops 0).setWidth 12 = tag)
    {r : ExRecord} {q : ExchangeQueue} (found : s.queue.takeFirst (ExRecord.hasTag tag) = some (r, q)) :
    runCancel ops s = { state := ({ s with queue := q } : State).cancelOne r, code := .done,
                        payload := [hiByte (tag.setWidth 16), loByte (tag.setWidth 16)] } := by
  simp only [runCancel, htag, found]

theorem runCancel_of_inflight {s : State} {ops : List Byte} {tag : Tag} (htag : (opWord ops 0).setWidth 12 = tag)
    (unqueued : s.queue.takeFirst (ExRecord.hasTag tag) = none) {x : Exchange} (hx : s.dlc.inflight = some x)
    (mine : x.record.hasTag tag = true) :
    runCancel ops s = { state := s.setInflight (some { x with record := x.record.mark }), code := .inFlight,
                        payload := [hiByte (tag.setWidth 16), loByte (tag.setWidth 16)] } := by
  simp only [runCancel, htag, unqueued, hx, mine, if_true]

theorem runCancel_of_absent {s : State} {ops : List Byte} {tag : Tag} (htag : (opWord ops 0).setWidth 12 = tag)
    (unqueued : s.queue.takeFirst (ExRecord.hasTag tag) = none)
    (other : ∀ x, s.dlc.inflight = some x → x.record.hasTag tag = false) :
    runCancel ops s = refuseCommand s .notFound [hiByte (tag.setWidth 16), loByte (tag.setWidth 16)] := by
  simp only [runCancel, htag, unqueued]
  split
  · next x hx => simp only [other x hx, Bool.false_eq_true, if_false]
  · rfl

/-- Taking the head reserves a FREE slot; the number of FILLED slots stays. -/
theorem State.Head.took_filledCount {s : State} {f : Frame} {rest : List Frame} {n : Nat} (h : s.Head f rest n) :
    (s.took rest n).filledCount = s.filledCount := by
  have free : s.slot n = .free := (lowestFree_spec h.slot).2.1
  exact filledCount_vset (took_loq rest n s) (by rw [free]; rfl) rfl

/-- Settles O37: the tag law makes the record of the tag the only one, queued or in flight. -/
theorem cancelFindsTheRecordOfItsTag : Obligations.CancelFindsTheRecordOfItsTag := by
  intro s t f rest n hi lo tag pay head ht law htag hpay
  rw [exec_cancel head, ← ht, hpay, ← tagBytes htag]
  have target := cancelTag htag
  have queue : t.queue = s.queue := by rw [ht, took_queue]
  have dlc : t.dlc = s.dlc := by rw [ht, took_dlc]
  refine ⟨fun cls before after c m hq hc hm => ?_, fun x c hx hr hc => ?_, fun absent => ?_⟩
  · subst hc
    rw [runCancel_of_found target (queue.symm ▸ law.takeTag hq), ← head.took_filledCount, ← ht, State.cancelOne, hm, queue]
    rfl
  · subst hc
    have flying : s.records.Perm (.controller c :: s.queue.all) := by
      rw [State.records, inflightRecord_of_some hx, hr]
      exact List.perm_append_comm
    have unqueued : t.queue.takeFirst (ExRecord.hasTag c.tag) = none := by
      rw [queue]
      exact takeFirst_eq_none fun r hr => law.others flying hr
    rw [runCancel_of_inflight target unqueued (dlc.symm ▸ hx) (by simp [hr, ExRecord.hasTag]), hr, State.setInflight, dlc]
    rfl
  · have untagged : ∀ r ∈ s.records, r.hasTag tag = false := by
      intro r hr
      cases r with
      | controller c => simpa [ExRecord.hasTag] using absent c hr
      | scan c => rfl
      | probe m => rfl
    have unqueued : t.queue.takeFirst (ExRecord.hasTag tag) = none := by
      rw [queue]
      exact takeFirst_eq_none fun r hr => untagged r (List.mem_append_left _ hr)
    rw [runCancel_of_absent target unqueued fun x hx => untagged _ ?_]
    · rfl
    · rw [State.records, inflightRecord_of_some (dlc ▸ hx)]
      simp

end Sys2Proof.Machine
end

section
/-! ## The admission of a REQUEST -/

namespace Sys2Proof.Machine

/-! ### The fields of a REQUEST (R11, R185) -/

theorem requestFn_toNat (f : Frame) : (requestFn f).toNat = f.code.toNat / 64 := by
  have := f.code.isLt
  simp only [requestFn, BitVec.extractLsb'_toNat, Nat.shiftRight_eq_div_pow]
  omega

theorem requestCount_eq (f : Frame) : requestCount f = f.code.toNat % 64 := by
  simp [requestCount, BitVec.extractLsb'_toNat]

theorem isRead_iff {f : Frame} : isRead f = true ↔ f.code.toNat / 64 = 1 := by
  rw [isRead, beq_iff_eq, ← BitVec.toNat_inj, requestFn_toNat]
  rfl

theorem isWrite_iff {f : Frame} : isWrite f = true ↔ f.code.toNat / 64 = 2 := by
  rw [isWrite, beq_iff_eq, ← BitVec.toNat_inj, requestFn_toNat]
  rfl

theorem requestWidth_eq (f : Frame) :
    requestWidth f = if f.code.toNat / 64 = 1 then f.code.toNat % 64 else f.payload.length := by
  simp only [requestWidth, isRead_iff, requestCount_eq]

theorem requestFormOk_iff {f : Frame} : requestFormOk f = true ↔
    f.code.toNat / 64 = 1 ∧ 1 ≤ f.code.toNat % 64 ∧ f.code.toNat % 64 ≤ 32 ∧ f.payload = [] ∨
      f.code.toNat / 64 = 2 ∧ 1 ≤ f.payload.length ∧ f.payload.length ≤ 32 := by
  simp [requestFormOk, isRead_iff, isWrite_iff, requestCount_eq, and_assoc]

/-! ### The checks against the state (R10, R12 to R17) -/

theorem guarded_iff {s : State} : s.guarded = true ↔ s.params.checkPolicy = 0 ∧ s.latched .chainCheckU = true := by
  simp [State.guarded]

theorem tagFree_iff {s : State} {tag : Tag} : s.tagInUse tag = false ↔ ∀ c, .controller c ∈ s.records → c.tag ≠ tag := by
  rw [Bool.eq_false_iff, Ne, tagInUse_iff, List.mem_filterMap]
  refine ⟨fun h c hc e => h ⟨_, hc, congrArg some e⟩, fun h ⟨r, hr, e⟩ => ?_⟩
  cases r with
  | controller c => exact h c hr (Option.some.inj e)
  | scan c => cases e
  | probe n => cases e

theorem accessAllows_iff {img : Image} {f : Frame} : accessAllows img f = true ↔
    if img.byte 1 = 0 then f.code.toNat / 64 = 2 else
      img.byte 7 = 1 ∧ f.code.toNat / 64 = 1 ∨ img.byte 7 = 2 ∧ f.code.toNat / 64 = 2 ∨ img.byte 7 = 3 := by
  unfold accessAllows Image.routeNode Image.routeAccess
  split
  · exact isWrite_iff
  · by_cases h1 : img.byte 7 = 1
    · simp [Access.ofCode, h1, isRead_iff]
    · by_cases h2 : img.byte 7 = 2
      · simp [Access.ofCode, h2, isWrite_iff]
      · by_cases h3 : img.byte 7 = 3 <;> simp [Access.ofCode, h1, h2, h3]

theorem nodeOffline_iff {s : State} {m : Nat} :
    s.nodeOffline m = true ↔ 1 ≤ m ∧ m ≤ 31 ∧ (s.node m).state = .offline := by
  simp [State.nodeOffline, isNode, and_assoc]

theorem admits_iff {s : State} {c : Cls} : s.admits c = true ↔
    if c = 0#2 then 1 ≤ 48 - s.queue.size else s.params.classReserve < 48 - s.queue.size := by
  unfold State.admits
  split <;> exact decide_eq_true_iff

/-- The lookup finds the lowest-numbered entry that covers the address, when it covers the whole width (R75, R76). -/
theorem lookup_iff {s : State} {a w : Nat} {img : Image} : lookup s.active a w = some img ↔ s.RouteFor a w img := by
  have entry : ∀ i (h : i < s.active.routes.toList.length), vget s.active.routes i Image.zero = s.active.routes.toList[i] :=
    fun i h => by rw [vget_toList, List.getD, List.getElem?_eq_getElem h, Option.getD_some]
  have winner : ∀ img, s.active.routes.toList.find? (fun img => img.covers a) = some img ↔
      ∃ i, i < 128 ∧ vget s.active.routes i Image.zero = img ∧ img.covers a = true ∧
        ∀ j, j < i → (vget s.active.routes j Image.zero).covers a = false := by
    intro img
    rw [List.find?_eq_some_iff_getElem]
    constructor
    · rintro ⟨covers, i, hi, rfl, first⟩
      refine ⟨i, by simpa using hi, entry i hi, covers, fun j hj => ?_⟩
      rw [entry j (hj.trans hi)]
      simpa using first j hj
    · rintro ⟨i, hi, rfl, covers, first⟩
      have hi' : i < s.active.routes.toList.length := by simpa using hi
      refine ⟨covers, i, hi', (entry i hi').symm, fun j hj => ?_⟩
      rw [← entry j (hj.trans hi'), first j hj]
      rfl
  unfold lookup
  split
  · next uncovered =>
    refine ⟨nofun, fun ⟨i, hi, himg, covers, _, first⟩ => ?_⟩
    rw [(winner img).mpr ⟨i, hi, himg, covers, first⟩] at uncovered
    cases uncovered
  · next won hwon =>
    obtain ⟨i, hi, himg, covers, first⟩ := (winner won).mp hwon
    constructor
    · intro h
      split at h
      · next wide =>
        cases h
        exact ⟨i, hi, himg, covers, wide, first⟩
      · cases h
    · rintro ⟨i', hi', himg', covers', wide, first'⟩
      obtain rfl : won = img := Option.some.inj (hwon.symm.trans ((winner img).mpr ⟨i', hi', himg', covers', first'⟩))
      rw [if_pos wide]

/-! ### The verdict and what it writes -/

/-- The verdict does not depend on the Inbox and the slot that the REQUEST has taken. -/
theorem took_judgeRequest (s : State) (rest : List Frame) (n : Nat) (f : Frame) :
    (s.took rest n).judgeRequest f = s.judgeRequest f := rfl

/-- The REPLY of a refusal has no attempts and no data (R9, R19). -/
theorem admitRequest_refuse {t : State} {f : Frame} {n : Nat} {o : OutcomeCode} {cls : Cls}
    (h : t.judgeRequest f = .refuse o cls) : t.admitRequest f n = t.refusedWith f n o cls := by
  have code : (BitVec.ofNat 8 0) <<< 5 ||| o.code = o.code := by simp
  have aux : loByte t.epoch = t.epoch.setWidth 8 := by simp [loByte, BitVec.setWidth_eq_extractLsb']
  rw [State.admitRequest, h]
  show State.bump .refused (t.fillSlot n (replyFrame f.tag f.logical cls o 0 t.epoch [])) = _
  rw [replyFrame, code, aux]
  rfl

/-- The record of an admitted REQUEST enters at the tail of its class list, its slot with it (R18). -/
theorem admitRequest_accept {t : State} {f : Frame} {n : Nat} {img : Image} (h : t.judgeRequest f = .accept img) :
    t.admitRequest f n = { t with
      loq := vset t.loq n (.reserved .exchange)
      queue := t.queue.setList (resolveClass img f.cls) (t.queue.list (resolveClass img f.cls) ++ [.controller {
        tag := f.tag, epoch := t.epoch, cls := resolveClass img f.cls, node := img.byte 1
        fn := if f.code.toNat / 64 = 1 then .read (f.code.toNat % 64)
          else if img.byte 1 = 0 then .bwrite f.payload else .write f.payload
        index := img.byte 6 + (f.logical.toNat - img.routeBase), logical := f.logical, retry := img.byte 9
        ageLimit := f.aux, arrival := t.timer.count, slot := some n, cancelMark := false }]) } := by
  rw [State.admitRequest, h]
  show (t.reserveSlot n .exchange).enqueue (.controller (t.admittedRecord img f n)) = _
  rw [State.enqueue, insert_eq_setList, State.admittedRecord, admittedFn]
  simp only [isRead_iff, requestCount_eq]
  rfl

theorem exec_requestAdmission {s : State} {f : Frame} {rest : List Frame} {n : Nat} (head : s.Head f rest n)
    (kind : f.kind = .request) : exec .requestAdmission s = .next ((s.took rest n).admitRequest f n) := by
  rw [exec, execRequestAdmission, live_of_live head.live, head.takeHead (by simpa using kind)]

/-- Settles O27: the verdict of the seven checks, taken one by one. -/
theorem admissionTakesTheSevenChecksInOrder : Obligations.AdmissionTakesTheSevenChecksInOrder := by
  intro s t f rest n fn count width cls guarded formed tagFree permitted offline room head kind ht hfn hcount hwidth hcls
    hguarded hformed htagFree hpermitted hoffline hroom
  subst hfn hcount
  rw [← guarded_iff] at hguarded
  rw [← requestFormOk_iff] at hformed
  rw [← tagFree_iff] at htagFree
  rw [← requestWidth_eq] at hwidth
  subst hwidth
  have class_eq : ∀ img, resolveClass img f.cls = cls img := fun img => (hcls img).symm
  have access : ∀ img, permitted img ↔ accessAllows img f = true := fun img => (hpermitted img).trans accessAllows_iff.symm
  have down : ∀ img, offline img ↔ s.nodeOffline img.routeNode = true := fun img => (hoffline img).trans nodeOffline_iff.symm
  have space : ∀ img, room img ↔ s.admits (cls img) = true := fun img => (hroom img).trans admits_iff.symm
  rw [exec_requestAdmission head kind, ← ht]
  have refused : ∀ {o : OutcomeCode} {c : Cls}, s.judgeRequest f = .refuse o c →
      t.admitRequest f n = t.refusedWith f n o c := fun h =>
    admitRequest_refuse ((ht ▸ took_judgeRequest s rest n f).trans h)
  simp only [Host.Outcome.next.injEq, hguarded, hformed, htagFree, access, down, space, ← lookup_iff, ← class_eq]
  refine ⟨fun guard => refused ?_, fun unguarded bad => refused ?_, fun unguarded good used => refused ?_,
    fun unguarded good free routeless => refused ?_, fun img unguarded good free route => ⟨fun denied => refused ?_,
      fun allowed off => refused ?_, fun allowed on full => refused ?_, fun allowed on fits => ?_⟩⟩
  · simp [State.judgeRequest, guard]
  · simp [State.judgeRequest, unguarded, bad]
  · simp [State.judgeRequest, unguarded, good, used]
  · simp [State.judgeRequest, unguarded, good, free, Option.eq_none_iff_forall_ne_some.mpr routeless]
  · simp [State.judgeRequest, unguarded, good, free, route, denied]
  · simp [State.judgeRequest, unguarded, good, free, route, allowed, off]
  · simp [State.judgeRequest, unguarded, good, free, route, allowed, on, full]
  · have accepted : t.judgeRequest f = .accept img := by
      rw [ht, took_judgeRequest]
      simp [State.judgeRequest, unguarded, good, free, route, allowed, on, fits]
    rw [admitRequest_accept accepted, ht]
    rfl

end Sys2Proof.Machine
end

section
/-! ## The soft reset -/

namespace Sys2Proof.Machine

/-! ### What a soft reset does to each block -/

theorem resetDlc_frame (s : State) : s.resetDlc = { s with dlc := s.resetDlc.dlc } := by
  unfold State.resetDlc
  dsimp only
  split <;> rfl

theorem distrustNode_frame (s : State) : s.distrustNode = { s with nodes := s.distrustNode.nodes } := by
  unfold State.distrustNode
  split
  · rfl
  · split <;> rfl

/-- The DLC's change depends on the DLC alone. -/
theorem resetDlc_congr {s t : State} (h : t.dlc = s.dlc) : t.resetDlc.dlc = s.resetDlc.dlc := by
  unfold State.resetDlc
  rw [h]
  dsimp only
  split <;> rfl

/-- The DLC by its state (R57). -/
theorem eq_resetDlc {s : State} {dlc : Dlc}
    (idle : s.dlc.state = .idle → dlc = { s.dlc with inflight := none, haltReq := false })
    (transmit : s.dlc.state = .transmit → dlc = { s.dlc with inflight := none, haltReq := false, stopping := true })
    (waiting : s.dlc.state = .await ∨ s.dlc.state = .receive → dlc = {
      s.dlc with inflight := none, haltReq := false, state := .guard, interval := s.dlc.cur.tGuard })
    (guarding : s.dlc.state = .guard → dlc = { s.dlc with inflight := none, haltReq := false })
    (halted : s.dlc.state = .halted → dlc = {
      s.dlc with
      inflight := none, haltReq := false, state := .idle, interval := 0, cur := applyPending s.dlc.cur s.dlc.pend
      pend := {} }) : dlc = s.resetDlc.dlc := by
  unfold State.resetDlc
  dsimp only
  split
  · next h => exact transmit h
  · next h => exact waiting (.inl h)
  · next h => exact waiting (.inr h)
  · next h => exact guarding h
  · next h => exact idle h
  · next h => exact halted h

/-- The shared effects, on the state with the discarded exchange's node made NEEDS_SYNC. -/
theorem distrusted_resetQueues (s : State) : s.distrustNode.resetQueues = { s with
    queue := {}, loq := Vector.replicate 64 .free, streak := 0, inbox := [], chainEnd := none, commit := none
    uTx := s.uTx.map UTx.detach, dlc := s.resetDlc.dlc, nodes := s.distrustNode.nodes
    scan := { s.scan with
      records := vmap (fun r => { r with outstanding := false }) s.scan.records, retired := none } } := by
  have dlc : s.distrustNode.resetDlc.dlc = s.resetDlc.dlc := resetDlc_congr (by rw [distrustNode_frame])
  rw [State.resetQueues, resetDlc_frame, dlc]
  generalize s.resetDlc.dlc = d
  rw [distrustNode_frame]

/-- Level FULL starts from the shared effects; the Node Table goes to its defaults either way. -/
theorem resetQueues_eq (s : State) : s.resetQueues = { s with
    queue := {}, loq := Vector.replicate 64 .free, streak := 0, inbox := [], chainEnd := none, commit := none
    uTx := s.uTx.map UTx.detach, dlc := s.resetDlc.dlc
    scan := { s.scan with
      records := vmap (fun r => { r with outstanding := false }) s.scan.records, retired := none } } := by
  rw [State.resetQueues, resetDlc_frame]

theorem detach_eq (y : UTx) : y.detach = { y with source := if y.source = .htq then .htq else .detached } := by
  obtain ⟨source, frame⟩ := y
  cases source <;> rfl

theorem resetFull_eq (s : State) : s.resetFull = { s with
    dlc := if s.dlc.state = .idle then { s.dlc with cur := {}, pend := {} } else { s.dlc with pend := pendingDefaults }
    nodes := Vector.replicate 31 {}, bank0 := {}, bank1 := {}, activeBank := .bank0, epoch := 0#16, scan := {}, notice := {}
    params := {}, faults := 0#6, counters := Vector.replicate 14 0#16 } := by
  unfold State.resetFull State.resetLineSettings
  split <;> rfl

/-- At level FULL it makes no difference whether the node has been made NEEDS_SYNC. -/
theorem resetFull_distrusted (s : State) : s.distrustNode.resetQueues.resetFull = s.resetQueues.resetFull := by
  rw [distrusted_resetQueues, resetQueues_eq, resetFull_eq, resetFull_eq]

/-- The Node Table by the exchange in flight (R71). -/
theorem eq_distrustNode {s : State} {nodes : Vector NodeRecord 31}
    (kept : (∀ r, s.inflightRecord = some r → ¬(1 ≤ r.node ∧ r.node ≤ 31)) → nodes = s.nodes)
    (distrusted : ∀ r, s.inflightRecord = some r → 1 ≤ r.node → r.node ≤ 31 →
      nodes = vset s.nodes (r.node - 1) { s.node r.node with sync := .needsSync }) : nodes = s.distrustNode.nodes := by
  unfold State.distrustNode
  split
  · next idle =>
    exact kept fun r hr => by rw [idle] at hr; cases hr
  · next r hr =>
    split
    · next h =>
      obtain ⟨low, high⟩ := by simpa [isNode] using h
      exact distrusted r hr low high
    · next h =>
      refine kept fun x hx both => h ?_
      obtain rfl : r = x := Option.some.inj (hr.symm.trans hx)
      simpa [isNode] using both

/-- The Scan State records by their entries (R119). -/
theorem eq_vmap {α : Type} {k : Nat} {a b : Vector α k} {f : α → α} {d : α} (fixed : f d = d)
    (h : ∀ i, i < k → vget a i d = f (vget b i d)) : a = vmap f b := by
  refine Vector.ext fun i hi => ?_
  have entry : ∀ v : Vector α k, v[i] = vget v i d := fun v => by simp [vget, hi]
  have mapped := vget_vmap f b i d
  rw [fixed] at mapped
  rw [entry, entry, h i hi, mapped]

/-- The first frame of an empty queue takes slot 0 and fill number 0 (R122). -/
theorem fillLowest_empty {s : State} (h : s.loq = Vector.replicate 64 .free) (f : Frame) :
    s.fillLowest f = { s with loq := vset s.loq 0 (.filled f 0) } := by
  have lowest : s.lowestFree = some 0 := by rw [State.lowestFree, h]; decide
  have first : s.filledCount = 0 := by rw [State.filledCount, h]; decide
  rw [State.fillLowest, lowest]
  show s.fillSlot 0 f = _
  rw [State.fillSlot, first]

/-! ### The command -/

theorem State.HeadCommand.settled {s : State} {c : Command} {ops : List Byte} {f : Frame} {rest : List Frame} {n : Nat}
    (h : s.HeadCommand c ops f rest n) : ∃ m, s.settleDues.HeadCommand c ops f rest m := by
  obtain ⟨m, hm⟩ := h.toHead.settled
  exact ⟨m, hm, h.kind, h.code, h.operands⟩

section Command
variable {s : State} {f : Frame} {rest : List Frame} {n : Nat} {b : Byte}

theorem takeSoftReset_of_level {level : ResetLevel} (head : s.HeadCommand .softReset [b] f rest n)
    (h : ResetLevel.ofCode b = some level) : s.takeSoftReset =
      if f.position = 63#6 then (s.took rest n).softReset level
      else ((s.took rest n).softReset level).fillLowest (ackFrame f.cls f.tag f.code .done [b]) := by
  have byte : opByte [b] 0 = b := rfl
  simp only [State.takeSoftReset, head.toHead.takeHead head.isCommand, head.operands, byte, h, broadcastFrame, beq_iff_eq]
  exact if_neg (fun c => c rfl)

theorem takeSoftReset_of_no_level (head : s.HeadCommand .softReset [b] f rest n) (h : ResetLevel.ofCode b = none) :
    s.takeSoftReset = (s.took rest n).answered f n .badValue [] := by
  have byte : opByte [b] 0 = b := rfl
  simp only [State.takeSoftReset, head.toHead.takeHead head.isCommand, head.operands, byte, h, finishControl_eq]
  exact if_neg (fun c => c rfl)

theorem namesLevel_eq (head : s.HeadCommand .softReset [b] f rest n) : namesLevel f = (ResetLevel.ofCode b).isSome := by
  simp only [namesLevel, head.isCommand, head.operands]
  rfl

theorem exec_softReset (live : s.inReset = false) :
    exec .softReset s = .next (s.settleBefore namesLevel).takeSoftReset := by
  rw [exec, execSoftReset, live_of_live live]

end Command

/-- Settles O41: a level is a state of every block; the ACK takes slot 0 of the emptied queue. -/
theorem softResetReachesEveryBlock : Obligations.SoftResetReachesEveryBlock := by
  intro s t v u w x f rest n level dlc head ht hv idle transmit waiting guarding halted hu hrecords kept distrusted hw hx
  rw [exec_softReset head.live]
  refine ⟨fun not1 not2 => ?_, fun named => ?_⟩
  · have code : ResetLevel.ofCode level = none := by rw [ResetLevel.ofCode, if_neg not1, if_neg not2]
    rw [settleBefore_unwanted head.inbox (by rw [namesLevel_eq head, code]; rfl), takeSoftReset_of_no_level head code, ht]
  obtain ⟨m, settled⟩ := head.settled
  have records : u.scan.records = vmap (fun r => { r with outstanding := false }) v.scan.records :=
    eq_vmap (d := {}) rfl hrecords
  have line : dlc = (s.settleDues.took rest m).resetDlc.dlc := by
    rw [eq_resetDlc idle transmit waiting guarding halted]
    exact resetDlc_congr (settleDues_dlc s).symm
  have nodes : u.nodes = (s.settleDues.took rest m).distrustNode.nodes := by
    apply eq_distrustNode
    · rw [State.inflightRecord, took_dlc, took_nodes, settleDues_dlc, settleDues_nodes]
      exact kept
    · simp only [State.inflightRecord, State.node, took_dlc, took_nodes, settleDues_dlc, settleDues_nodes]
      exact distrusted
  have sending : s.uTx.map (fun y => { y with source := if y.source = .htq then .htq else .detached }) =
      (s.settleDues.took rest m).uTx.map UTx.detach := by
    rw [took_uTx, settleDues_uTx, funext detach_eq]
  have queues : (s.settleDues.took rest m).distrustNode.resetQueues = u := by
    refine Eq.trans ?_ hu.symm
    rw [distrusted_resetQueues, ← nodes, ← line, records, sending, hv]
    rfl
  have full : (s.settleDues.took rest m).resetQueues.resetFull = w := by
    have udlc : u.dlc = dlc := congrArg State.dlc hu
    rw [← resetFull_distrusted, queues, resetFull_eq, udlc, hw]
    rfl
  have emptied : x.loq = Vector.replicate 64 .free := by
    have uloq : u.loq = Vector.replicate 64 .free := congrArg State.loq hu
    rw [hx, hw]
    split <;> exact uloq
  obtain ⟨lv, code, softened⟩ : ∃ lv, ResetLevel.ofCode level = some lv ∧ (s.settleDues.took rest m).softReset lv = x := by
    rcases named with rfl | rfl
    · exact ⟨.queues, rfl, by rw [State.softReset, queues, hx, if_pos rfl]⟩
    · exact ⟨.full, rfl, by rw [State.softReset, full, hx, if_neg (by decide)]⟩
  rw [head.toHead.settleBefore (by rw [namesLevel_eq head, code]; rfl), takeSoftReset_of_level settled code, softened]
  refine ⟨fun addressed => ?_, fun broadcast => by rw [if_pos broadcast]⟩
  rw [if_neg addressed, fillLowest_empty emptied, ackFrame, head.code]
  rfl

end Sys2Proof.Machine
end

section
/-! ## The completion of an exchange -/

namespace Sys2Proof.Machine

/-! ### What each part of a completion writes -/

theorem setNode_nodes (n : Nat) (r : NodeRecord) (s : State) : (s.setNode n r).nodes = vset s.nodes (n - 1) r := by
  unfold State.setNode
  dsimp only
  split <;> rfl

theorem setNode_notice (n : Nat) (r : NodeRecord) (s : State) : (s.setNode n r).notice = { s.notice with
    nodes := if (s.node n).state = r.state then s.notice.nodes else vset s.notice.nodes (n - 1) (some r.state) } := by
  unfold State.setNode
  dsimp only
  split <;> rfl

theorem setNode_frame (n : Nat) (r : NodeRecord) (s : State) :
    s.setNode n r = { s with nodes := (s.setNode n r).nodes, notice := (s.setNode n r).notice } := by
  unfold State.setNode
  dsimp only
  split <;> rfl

theorem handVerdict_frame (x : Exchange) (o : Option OutcomeCode) (s : State) :
    s.handVerdict x o = { s with
      nodes := (s.handVerdict x o).nodes, notice := { s.notice with nodes := (s.handVerdict x o).notice.nodes } } := by
  unfold State.handVerdict
  split
  · refine (setNode_frame _ _ s).trans ?_
    rw [setNode_notice]
  · rfl

theorem answer_frame (slot : Option Nat) (f : Frame) (s : State) :
    s.answer slot f = { s with loq := (s.answer slot f).loq } := by
  cases slot <;> rfl

theorem scanJudged_frame (r : ScanRecord) (o : OutcomeCode) (data : List Byte) (s : State) :
    s.scanJudged r o data = { s with loq := (s.scanJudged r o data).loq, scan := (s.scanJudged r o data).scan } := by
  unfold State.scanJudged
  dsimp only
  split
  · rw [answer_frame]; rfl
  · rw [releaseReply_frame]; rfl

theorem handResult_frame (x : Exchange) (o : Option OutcomeCode) (data : List Byte) (s : State) :
    s.handResult x o data = { s with loq := (s.handResult x o data).loq, scan := (s.handResult x o data).scan } := by
  unfold State.handResult
  split
  · split
    · rfl
    · cases o with
      | none => dsimp only; rw [releaseReply_frame]
      | some p => dsimp only; rw [answer_frame]
  · next r _ =>
    split
    · rfl
    · split
      · unfold State.scanRetired
        cases o with
        | none => dsimp only; rw [releaseReply_frame]; rfl
        | some p => dsimp only; rw [answer_frame]; rfl
      · cases o with
        | none =>
          show s.scanUnjudged r = { s with loq := (s.scanUnjudged r).loq, scan := (s.scanUnjudged r).scan }
          unfold State.scanUnjudged
          rw [releaseReply_frame]; rfl
        | some p => exact scanJudged_frame r p data s
  · rfl

theorem countOutcome_frame (o : Option OutcomeCode) (s : State) :
    s.countOutcome o = { s with counters := (s.countOutcome o).counters } := by
  unfold State.countOutcome
  split <;> rfl

theorem countOutcome_counters_congr {s t : State} (h : s.counters = t.counters) (o : Option OutcomeCode) :
    (s.countOutcome o).counters = (t.countOutcome o).counters := by
  unfold State.countOutcome
  split <;> simp [State.counter, h]

/-- What a completion changes (R49). -/
theorem complete_frame (x : Exchange) (o : Option OutcomeCode) (data : List Byte) (s : State) :
    s.complete x o data = { s with
      loq := (s.complete x o data).loq, scan := (s.complete x o data).scan, nodes := (s.complete x o data).nodes
      notice := { s.notice with nodes := (s.complete x o data).notice.nodes }
      counters := (s.complete x o data).counters, dlc := { s.dlc with inflight := none } } := by
  obtain ⟨loq, scan, handed⟩ : ∃ l e, s.handResult x o data = { s with loq := l, scan := e } :=
    ⟨_, _, handResult_frame x o data s⟩
  obtain ⟨nodes, items, judged⟩ : ∃ v i, (s.handResult x o data).handVerdict x o =
      { s.handResult x o data with nodes := v, notice := { (s.handResult x o data).notice with nodes := i } } :=
    ⟨_, _, handVerdict_frame x o _⟩
  obtain ⟨counters, counted⟩ : ∃ c, ((s.handResult x o data).handVerdict x o).countOutcome o =
      { (s.handResult x o data).handVerdict x o with counters := c } := ⟨_, countOutcome_frame o _⟩
  rw [State.complete, counted, judged, handed]
  rfl

theorem complete_loq (x : Exchange) (o : Option OutcomeCode) (data : List Byte) (s : State) :
    (s.complete x o data).loq = (s.handResult x o data).loq := by simp [State.complete]

theorem complete_scan (x : Exchange) (o : Option OutcomeCode) (data : List Byte) (s : State) :
    (s.complete x o data).scan = (s.handResult x o data).scan := by simp [State.complete]

theorem complete_counters (x : Exchange) (o : Option OutcomeCode) (data : List Byte) (s : State) :
    (s.complete x o data).counters = (s.countOutcome o).counters :=
  countOutcome_counters_congr (by simp) o

/-- The node of the exchange gets the verdict and the last outcome (R52, R63, R64). -/
theorem complete_node {x : Exchange} {s : State} (low : 1 ≤ x.record.node) (high : x.record.node ≤ 31)
    (o : Option OutcomeCode) (data : List Byte) {r : NodeRecord} (hr : r =
      { (s.node x.record.node).apply s.params.offlineThreshold x.carried x.verdict with lastOutcome := x.recorded o }) :
    (s.complete x o data).nodes = vset s.nodes (x.record.node - 1) r ∧
      (s.complete x o data).notice.nodes = (if (s.node x.record.node).state = r.state then s.notice.nodes
        else vset s.notice.nodes (x.record.node - 1) (some r.state)) := by
  have node : (s.handResult x o data).node x.record.node = s.node x.record.node := node_congr (by simp) _
  have judged : (s.handResult x o data).handVerdict x o = (s.handResult x o data).setNode x.record.node r := by
    rw [State.handVerdict, if_pos (by simp [isNode, low, high]), node, handResult_params, ← hr]
  simp only [State.complete, judged]
  constructor
  · rw [setInflight_nodes, countOutcome_nodes, setNode_nodes, handResult_nodes]
  · rw [setInflight_notice, countOutcome_notice, setNode_notice, node, handResult_notice]

theorem complete_nodeless {x : Exchange} (h : x.record.node = 0) (o : Option OutcomeCode) (data : List Byte) (s : State) :
    (s.complete x o data).nodes = s.nodes ∧ (s.complete x o data).notice.nodes = s.notice.nodes := by
  simp [State.complete, State.handVerdict, isNode, h]

/-! ### The result by its origin -/

section Result
variable {s : State} {x : Exchange} {o : Option OutcomeCode} {data : List Byte}

theorem handResult_probe (h : x.record.isProbe = true) : s.handResult x o data = s := by
  unfold State.handResult
  split
  · next e => rw [e] at h; cases h
  · next e => rw [e] at h; cases h
  · rfl

theorem handResult_controller_scan {k : CtlRecord} (h : x.record = .controller k) :
    (s.handResult x o data).scan = s.scan := by
  simp only [State.handResult, h]
  split
  · rfl
  · split <;> simp

theorem handResult_controller_lost {k : CtlRecord} (h : x.record = .controller k) (lost : s.dlc.sessionLost = true) :
    s.handResult x o data = s := by
  simp [State.handResult, h, lost]

theorem handResult_controller {k : CtlRecord} {p : OutcomeCode} (h : x.record = .controller k)
    (live : s.dlc.sessionLost = false) :
    s.handResult x (some p) data = s.answer k.slot (k.reply p (x.syncSent + x.mainSent) data) := by
  simp [State.handResult, h, live, Exchange.attempts]

theorem handResult_scan_lost {k : ScanRecord} (h : x.record = .scan k) (lost : s.dlc.sessionLost = true) :
    s.handResult x o data = s.dropRetired := by
  simp [State.handResult, h, lost]

theorem handResult_retired {k : ScanRecord} {e : Retired} (h : x.record = .scan k) (live : s.dlc.sessionLost = false)
    (old : s.scan.retired = some e) : s.handResult x o data = s.scanRetired e k o data := by
  simp [State.handResult, h, live, old]

theorem handResult_judged {k : ScanRecord} {p : OutcomeCode} (h : x.record = .scan k) (live : s.dlc.sessionLost = false)
    (current : s.scan.retired = none) : s.handResult x (some p) data = s.scanJudged k p data := by
  simp [State.handResult, h, live, current]

theorem handResult_unjudged {k : ScanRecord} (h : x.record = .scan k) (live : s.dlc.sessionLost = false)
    (current : s.scan.retired = none) : s.handResult x none data = s.scanUnjudged k := by
  simp [State.handResult, h, live, current]

end Result

theorem reportDue_iff {mode : Nat} {r : ScanState} {o : OutcomeCode} {data : List Byte} :
    reportDue mode r o data = true ↔ mode ≠ 1 ∨ r.lastOutcome ≠ some o ∨ o = .ok ∧ r.lastData ≠ some data := by
  unfold reportDue
  split
  · next h => simp [h]
  · next h => simp [h]

/-- A slot that a completion releases. -/
theorem releaseReply_reserved {s : State} {n : Nat} {h : Holder} (reserved : s.slot n = .reserved h) :
    s.releaseReply (some n) = { s with loq := vset s.loq n .free } :=
  freeSlot_unfilled (by rw [reserved]; rfl)

/-! ### The frames of a result (R19, R116) -/

theorem reply_code (o : OutcomeCode) {used : Nat} (h : used ≤ 7) :
    BitVec.ofNat 8 used <<< 5 ||| o.code = BitVec.ofNat 8 (used * 32 + o.code.toNat) := by
  have small : o.code.toNat < 2 ^ 5 := by cases o <;> decide
  have shifted : (BitVec.ofNat 8 used <<< 5).toNat = used <<< 5 := by
    simp only [BitVec.toNat_shiftLeft, BitVec.toNat_ofNat, Nat.shiftLeft_eq]
    omega
  apply BitVec.eq_of_toNat_eq
  rw [BitVec.toNat_or, shifted, ← Nat.shiftLeft_add_eq_or_of_lt small, BitVec.toNat_ofNat, Nat.shiftLeft_eq]
  omega

theorem hiByte_setWidth (w : Word32) : hiByte (w.setWidth 16) = w.extractLsb' 8 8 := by
  apply BitVec.eq_of_toNat_eq
  simp only [hiByte, BitVec.extractLsb'_toNat, BitVec.toNat_setWidth, Nat.shiftRight_eq_div_pow]
  omega

theorem loByte_setWidth (w : Word32) : loByte (w.setWidth 16) = w.extractLsb' 0 8 := by
  apply BitVec.eq_of_toNat_eq
  simp only [loByte, BitVec.extractLsb'_toNat, BitVec.toNat_setWidth, Nat.shiftRight_eq_div_pow]
  omega

theorem replyFrame_eq (tag : Tag) (logical epoch : Word16) (cls : Cls) (o : OutcomeCode) {used : Nat} (data : List Byte)
    (h : used ≤ 7) : replyFrame tag logical cls o used epoch data = {
      kind := .reply, cls := cls, position := 0#6, tag := tag, logical := logical
      code := BitVec.ofNat 8 (used * 32 + o.code.toNat), aux := epoch.extractLsb' 0 8, payload := data } := by
  rw [replyFrame, reply_code o h]
  rfl

theorem scanReportFrame_eq (cls : Cls) (i missed : Nat) (epoch : Word16) (o : OutcomeCode) (sequence : Byte) (time : Word32)
    (data : List Byte) : scanReportFrame cls i epoch o sequence missed time data = {
      kind := .scanReport, cls := cls, position := 0#6, tag := BitVec.ofNat 12 i, logical := epoch, code := o.code
      aux := sequence
      payload := [BitVec.ofNat 8 missed, time.extractLsb' 8 8, time.extractLsb' 0 8] ++ if o = .ok then data else [] } := by
  rw [scanReportFrame, hiByte_setWidth, loByte_setWidth]

/-- The result of a scan whose epoch is over goes by the retired scan (R117). -/
theorem complete_retired {s : State} {x : Exchange} {k : ScanRecord} {n : Nat} {h : Holder} {e : Retired}
    (hx : x.record = .scan k) (live : s.dlc.sessionLost = false) (hn : k.slot = some n) (reserved : s.slot n = .reserved h)
    (old : s.scan.retired = some e) (o : Option OutcomeCode) (data : List Byte) :
    (s.complete x o data).scan = { s.scan with retired := none } ∧
      (o = none → (s.complete x o data).loq = vset s.loq n .free) ∧
      (∀ p, o = some p → (s.complete x o data).loq = vset s.loq n (.filled
        (scanReportFrame k.cls e.scanIndex k.epoch p e.sequence e.missed s.scan.time data) s.filledCount)) := by
  rw [complete_scan, complete_loq, handResult_retired hx live old]
  refine ⟨?_, ?_, ?_⟩
  · cases o <;> simp [State.scanRetired]
  · rintro rfl
    rw [State.scanRetired, hn, releaseReply_reserved reserved]
    rfl
  · rintro p rfl
    rw [State.scanRetired, hn]
    rfl

/-- A judged result of the current epoch: the Scan State record, and the report when one is due (R114, R115, R116). -/
theorem scanJudged_eq {s : State} {k : ScanRecord} {n : Nat} {h : Holder} (hn : k.slot = some n)
    (reserved : s.slot n = .reserved h) (p : OutcomeCode) (data : List Byte) : s.scanJudged k p data =
      if reportDue (s.scanMode k.scanIndex) (s.scanRecord k.scanIndex) p data then
        { s with
          loq := vset s.loq n (.filled (scanReportFrame k.cls k.scanIndex k.epoch p (s.scanRecord k.scanIndex).sequence
            (s.scanRecord k.scanIndex).missed s.scan.time data) s.filledCount)
          scan := { s.scan with
            records := vset s.scan.records k.scanIndex ((s.scanRecord k.scanIndex).judged p data).reported } }
      else { s with
        loq := vset s.loq n .free
        scan := { s.scan with records := vset s.scan.records k.scanIndex ((s.scanRecord k.scanIndex).judged p data) } } := by
  unfold State.scanJudged
  rw [hn, releaseReply_reserved reserved]
  rfl

/-- Settles O50: a completion is the result by its origin, the verdict and the count, each a change of its own fields. -/
theorem completionHandsTheResultOn : Obligations.CompletionHandsTheResultOn := by
  refine ⟨fun tag logical epoch cls o used data h => replyFrame_eq tag logical epoch cls o data h,
    fun cls i missed epoch o sequence time data => scanReportFrame_eq cls i missed epoch o sequence time data, by decide, ?_⟩
  intro s t x o data used ht hused
  subst ht hused
  refine ⟨complete_frame x o data s, ?_, ?_, ?_, ?_, fun h => complete_nodeless h o data s, fun probe => ?_,
    fun k hx => ⟨?_, fun lost => ?_, ?_⟩, fun k hx => ⟨fun lost => ?_, ?_⟩⟩
  · rw [complete_counters]
    rintro (rfl | rfl) <;> rfl
  · rw [complete_counters]
    simp only [List.mem_cons, List.not_mem_nil, or_false]
    rintro (rfl | rfl | rfl | rfl | rfl | rfl) <;> rfl
  · rw [complete_counters]
    rintro (rfl | rfl) <;> rfl
  · rintro n r rfl low high hr
    refine complete_node low high o data (hr.trans ?_)
    cases o <;> rfl
  · rw [complete_loq, complete_scan, handResult_probe probe]
    exact ⟨rfl, rfl⟩
  · rw [complete_scan, handResult_controller_scan hx]
  · rw [complete_loq, handResult_controller_lost hx lost]
  · rintro n p live hn rfl
    rw [complete_loq, handResult_controller hx live, hn]
    rfl
  · rw [complete_loq, complete_scan, handResult_scan_lost hx lost]
    exact ⟨rfl, rfl⟩
  · rintro n last live hn reserved rfl
    refine ⟨fun e old => complete_retired hx live hn reserved old o data, fun current => ⟨?_, ?_⟩⟩
    · rintro rfl
      rw [complete_loq, complete_scan, handResult_unjudged hx live current, State.scanUnjudged, hn,
        releaseReply_reserved reserved]
      exact ⟨rfl, rfl⟩
    · rintro p report judged rfl hreport rfl
      rw [complete_loq, complete_scan, handResult_judged hx live current, scanJudged_eq hn reserved]
      rw [← reportDue_iff] at hreport
      refine ⟨fun quiet => ?_, fun loud => ?_⟩
      · rw [if_neg (mt hreport.mpr quiet)]
        exact ⟨rfl, rfl⟩
      · rw [if_pos (hreport.mp loud)]
        exact ⟨rfl, rfl⟩

end Sys2Proof.Machine
end

section
/-! ## Selection -/

namespace Sys2Proof.Machine

/-! ### The record that a selection takes (R20, R21) -/

theorem startable_iff {s : State} {r : ExRecord} : s.startable r = true ↔ (r.isScan = true → 4 ≤ s.freeCount) := by
  cases h : r.isScan <;> simp [State.startable, h]

theorem exec_selection {s : State} (live : s.inReset = false) (idle : s.dlc.state = .idle) :
    exec .selection s = .next s.select := by
  rw [exec, execSelection, live_of_live live, if_pos idle]

theorem select_of_taken {s : State} {r : ExRecord} {q : ExchangeQueue} (h : s.queue.takeFirst s.startable = some (r, q)) :
    s.select = (State.claimScanSlot r { s with queue := q }).2.runRecord (State.claimScanSlot r { s with queue := q }).1 := by
  rw [State.select, h]

section First
variable {s : State} {startable : ExRecord → Prop} (hs : ∀ y, startable y ↔ (y.isScan = true → 4 ≤ s.freeCount))
include hs

theorem not_startable_iff {y : ExRecord} : s.startable y = false ↔ ¬startable y := by
  rw [Bool.eq_false_iff, hs, Ne, startable_iff]

/-- The oldest startable record of the first class that has one. -/
theorem takeFirst_startable {c : Cls} {before after : List ExRecord} {r : ExRecord}
    (h : s.queue.list c = before ++ r :: after) (hr : startable r) (hb : ∀ y ∈ before, ¬startable y)
    (hd : ∀ d : Cls, d < c → ∀ y ∈ s.queue.list d, ¬startable y) :
    s.queue.takeFirst s.startable = some (r, s.queue.setList c (before ++ after)) :=
  takeFirst_of_first h (startable_iff.mpr ((hs r).mp hr)) (fun y hy => (not_startable_iff hs).mpr (hb y hy))
    fun d lt y hy => (not_startable_iff hs).mpr (hd d lt y hy)

theorem takeFirst_unstartable (h : ∀ y ∈ s.queue.all, ¬startable y) : s.queue.takeFirst s.startable = none :=
  takeFirst_eq_none fun y hy => (not_startable_iff hs).mpr (h y hy)

end First

/-! ### A SCAN record's slot (R22) -/

theorem withSlot_node (slot : Option Nat) (r : ExRecord) : (r.withSlot slot).node = r.node := by cases r <;> rfl

theorem mainRequest_withSlot (slot : Option Nat) (r : ExRecord) : mainRequest (r.withSlot slot) = mainRequest r := by
  cases r <;> rfl

/-- A record starts with the state it is taken in, a SCAN record with a slot of its own: the same node and requests. -/
structure Claimed (s : State) (r : ExRecord) (r' : ExRecord) (u : State) : Prop where
  claim : s.claimScanSlot r = (r', u)
  node : r'.node = r.node
  probe : r'.isProbe = r.isProbe
  request : mainRequest r' = mainRequest r
  nodes : u.nodes = s.nodes
  dlc : u.dlc = s.dlc
  inReset : u.inReset = s.inReset

theorem claimed_of_not_scan {r : ExRecord} (h : r.isScan = false) (s : State) : Claimed s r r s :=
  ⟨claimScanSlot_of_not_scan h s, rfl, rfl, rfl, rfl, rfl, rfl⟩

theorem claimed_of_scan {s : State} {r : ExRecord} {n : Nat} (h : r.isScan = true) (hn : s.lowestFree = some n) :
    Claimed s r (r.withSlot (some n)) { s with loq := vset s.loq n (.reserved .exchange) } := by
  refine ⟨?_, withSlot_node _ r, withSlot_isProbe _ r, mainRequest_withSlot _ r, rfl, rfl, rfl⟩
  simp only [State.claimScanSlot, h, if_true, hn]
  rfl

/-! ### The first attempt (R38) -/

/-- The plan and the first attempt of an exchange, by whether it begins with a SYNC step. -/
theorem startExchange_eq {s : State} {r : ExRecord} {sync : Bool}
    (h : sync = true ↔ r.isProbe = true ∨ 1 ≤ r.node ∧ r.node ≤ 31 ∧ (s.node r.node).sync = .needsSync) :
    s.startExchange r = { s with dlc := {
      s.dlc with
      state := .transmit, interval := 1, sessionLost := false
      inflight := some {
        record := r, hasSync := sync, step := if sync then .sync else .main, syncSent := if sync then 1 else 0
        mainSent := if sync then 0 else 1, lastOutcome := none, anyBad := false
        toggle := if sync = true ∨ r.node = 0 then false else (s.node r.node).nextToggle
        request := if sync then requestChars r.node .sync false 0 0 []
          else mainRequest r (if r.node = 0 then false else (s.node r.node).nextToggle)
        response := [], broadcastDone := false } } } := by
  have needs : (r.isProbe || (isNode r.node && decide ((s.node r.node).sync = .needsSync))) = sync := by
    rw [Bool.eq_iff_iff, h]
    simp [isNode, and_assoc]
  rw [State.startExchange, State.planExchange, needs]
  cases sync with
  | true => rfl
  | false => by_cases node : r.node = 0 <;> simp [State.beginAttempt, State.mainStep, State.mainToggle, node]

theorem dtx_of_transmit {t : State} {x : Exchange} (awake : t.inReset = false) (sending : t.dlc.state = .transmit)
    (hx : t.dlc.inflight = some x) : t.dtx = .sends (x.request.flatMap DropChar.bits) :=
  dtx_sends (by rw [State.ddeAsserted, awake, sending]; rfl) hx

/-! ### The characters of a drop request (R33, R34, R187) -/

/-- The control character: the function, then the toggle in bit 0. -/
def controlByte (fn : LineFn) (toggle : Bool) : Byte := fn.code ++ (0#3 ++ BitVec.ofBool toggle)

theorem controlByte_read (toggle : Bool) : controlByte .read toggle = BitVec.ofNat 8 (0x10 + toggle.toNat) := by
  cases toggle <;> rfl

theorem controlByte_write (toggle : Bool) : controlByte .write toggle = BitVec.ofNat 8 (0x20 + toggle.toNat) := by
  cases toggle <;> rfl

section Characters
variable {chars : List Byte → List DropChar}
  (hchars : ∀ address rest, chars (address :: rest) = { mark := true, data := address, framing := false } ::
    (rest ++ [crc8 (address :: rest)]).map fun d => { mark := false, data := d, framing := false })
include hchars

theorem requestChars_eq {node : Nat} (h : node ≤ 31) (fn : LineFn) (toggle : Bool) (index count : Nat)
    (payload : List Byte) : requestChars node fn toggle index count payload =
      chars ([BitVec.ofNat 8 node, controlByte fn toggle, BitVec.ofNat 8 index, BitVec.ofNat 8 count] ++ payload) := by
  rw [requestChars, Nat.mod_eq_of_lt (by omega : node < 32)]
  exact (hchars _ _).symm

theorem mainRequest_read {k : CtlRecord} {n : Nat} (node : k.node ≤ 31) (h : k.fn = .read n) (toggle : Bool) :
    mainRequest (.controller k) toggle =
      chars [BitVec.ofNat 8 k.node, BitVec.ofNat 8 (0x10 + toggle.toNat), BitVec.ofNat 8 k.index, BitVec.ofNat 8 n] := by
  simp only [mainRequest, h]
  rw [requestChars_eq hchars node, controlByte_read, List.append_nil]

theorem mainRequest_write {k : CtlRecord} {d : List Byte} (node : k.node ≤ 31) (h : k.fn = .write d) (toggle : Bool) :
    mainRequest (.controller k) toggle = chars ([BitVec.ofNat 8 k.node, BitVec.ofNat 8 (0x20 + toggle.toNat),
      BitVec.ofNat 8 k.index, BitVec.ofNat 8 d.length] ++ d) := by
  simp only [mainRequest, h]
  rw [requestChars_eq hchars node, controlByte_write]

theorem mainRequest_bwrite {k : CtlRecord} {d : List Byte} (h : k.fn = .bwrite d) (toggle : Bool) :
    mainRequest (.controller k) toggle =
      chars ([0x00#8, 0x40#8, BitVec.ofNat 8 k.index, BitVec.ofNat 8 d.length] ++ d) := by
  simp only [mainRequest, h]
  exact requestChars_eq hchars (Nat.zero_le 31) .bwrite false k.index d.length d

theorem mainRequest_scan {k : ScanRecord} (node : k.node ≤ 31) (toggle : Bool) : mainRequest (.scan k) toggle =
    chars [BitVec.ofNat 8 k.node, BitVec.ofNat 8 (0x10 + toggle.toNat), BitVec.ofNat 8 k.index, BitVec.ofNat 8 k.count] := by
  simp only [mainRequest]
  rw [requestChars_eq hchars node, controlByte_read, List.append_nil]

end Characters

/-- Settles O42: the record taken, its slot and its first attempt; then the bytes and bits of the requests. -/
theorem selectionStartsTheOldestStartable : Obligations.SelectionStartsTheOldestStartable := by
  refine ⟨?_, fun chars hchars => ⟨fun n hn => requestChars_eq hchars hn .sync false 0 0 [],
    fun k toggle node => ⟨fun n h => mainRequest_read hchars node h toggle, fun d h => mainRequest_write hchars node h toggle,
      fun d h => mainRequest_bwrite hchars h toggle⟩,
    fun k toggle node => mainRequest_scan hchars node toggle⟩, rfl, ?_, fun c => rfl⟩
  · intro s u c before after r r' startable sync request live idle hs hq hr hb hd online unclaimed claimed hsync hrequest
    have taken := takeFirst_startable hs hq hr hb hd
    have ready : Claimed { s with queue := s.queue.setList c (before ++ after) } r r' u := by
      cases scan : r.isScan with
      | false =>
        obtain ⟨rfl, rfl⟩ := unclaimed scan
        exact claimed_of_not_scan scan _
      | true =>
        have four := (hs r).mp hr scan
        obtain ⟨n, hn⟩ := lowestFree_isSome (s := s) (by omega)
        obtain ⟨rfl, rfl⟩ := claimed n scan hn
        exact claimed_of_scan scan hn
    obtain ⟨claim, node, probe, chars, nodes, dlc, inReset⟩ := ready
    have record : u.node r.node = s.node r.node := node_congr nodes _
    have starts : ¬(!r'.isProbe && u.nodeOffline r'.node) = true := by
      rw [probe, node, Bool.and_eq_true, Bool.not_eq_true', nodeOffline_iff, record]
      rintro ⟨own, low, high, offline⟩
      exact online own low high offline
    have runs : exec .selection s = .next (u.startExchange r') := by
      rw [exec_selection live idle, select_of_taken taken, claim, State.runRecord, if_neg starts]
    have begun := startExchange_eq (s := u) (r := r') (sync := sync) (by rw [probe, node, record]; exact hsync)
    rw [node, record, chars, ← hrequest, dlc] at begun
    refine ⟨u.startExchange r', runs, ?_, begun⟩
    exact dtx_of_transmit ((congrArg State.inReset begun).trans (inReset.trans live))
      (congrArg (fun t => t.dlc.state) begun) (congrArg (fun t => t.dlc.inflight) begun)
  · intro bit hbit bytes b
    obtain rfl : bit = crc8Bit := funext hbit
    exact crc8_append bytes b

/-! ### A record whose node is OFFLINE (R23) -/

theorem runRecord_offline {s : State} {r : ExRecord} (own : r.isProbe = false) (offline : s.nodeOffline r.node = true) :
    s.runRecord r = s.completeOffline r := by
  rw [State.runRecord, if_pos (by rw [own, offline]; rfl)]

theorem Claimed.offline {s u : State} {r r' : ExRecord} (h : Claimed s r r' u) (own : r.isProbe = false)
    (offline : s.nodeOffline r.node = true) :
    (s.claimScanSlot r).2.runRecord (s.claimScanSlot r).1 = u.completeOffline r' := by
  obtain ⟨claim, node, probe, -, nodes, -, -⟩ := h
  rw [claim]
  refine runRecord_offline (probe.trans own) ?_
  rwa [node, State.nodeOffline, node_congr nodes]

/-- The SCAN record's answer in the slot that it claims: written there, or the slot given back (R115, R116). -/
theorem scanJudged_offline {s : State} {k : ScanRecord} {n : Nat} (hn : s.lowestFree = some n) :
    (s.reserveSlot n .exchange).scanJudged { k with slot := some n } .nodeOffline [] =
      if reportDue (s.scanMode k.scanIndex) (s.scanRecord k.scanIndex) .nodeOffline [] then
        { s with
          loq := vset s.loq n (.filled {
            kind := .scanReport, cls := k.cls, position := 0#6, tag := BitVec.ofNat 12 k.scanIndex, logical := k.epoch
            code := 0x0B#8, aux := (s.scanRecord k.scanIndex).sequence
            payload := [BitVec.ofNat 8 (s.scanRecord k.scanIndex).missed, s.scan.time.extractLsb' 8 8,
              s.scan.time.extractLsb' 0 8] } s.filledCount)
          scan := { s.scan with records := vset s.scan.records k.scanIndex {
            outstanding := false, lastOutcome := some .nodeOffline, lastData := none
            sequence := (s.scanRecord k.scanIndex).sequence + 1#8, missed := 0 } } }
      else { s with
        scan := { s.scan with records := vset s.scan.records k.scanIndex {
          s.scanRecord k.scanIndex with outstanding := false, lastOutcome := some .nodeOffline, lastData := none } } } := by
  obtain ⟨lt, free, -⟩ := lowestFree_spec hn
  have reserved : (s.reserveSlot n .exchange).slot n = .reserved .exchange := vget_vset_same _ _ _ _ lt
  have count : (s.reserveSlot n .exchange).filledCount = s.filledCount :=
    filledCount_vset (reserveSlot_loq n .exchange s) (by rw [free]; rfl) rfl
  rw [scanJudged_eq (k := { k with slot := some n }) rfl reserved, count, reserveSlot_loq, vset_vset, vset_free_back free,
    scanReportFrame_eq]
  rfl

/-- Settles O43: nothing is taken, or what is taken completes without an exchange. -/
theorem selectionAnswersForOfflineNodes : Obligations.SelectionAnswersForOfflineNodes := by
  intro s startable live hs
  refine ⟨fun still => ?_, fun c before after r q idle hq hr hb hd offline hnew => ?_⟩
  · by_cases idle : s.dlc.state = .idle
    · have untaken := takeFirst_unstartable hs (still.resolve_left (not_not_intro idle))
      rw [exec_selection live idle, State.select, untaken]
    · rw [exec, execSelection, live_of_live live, if_neg idle]
  subst hnew
  rw [exec_selection live idle, select_of_taken (takeFirst_startable hs hq hr hb hd)]
  have gone : ({ s with queue := s.queue.setList c (before ++ after) } : State).nodeOffline r.node = true := offline
  refine ⟨?_, ?_⟩
  · rintro k n rfl hn
    rw [(claimed_of_not_scan rfl _).offline rfl gone, State.completeOffline, hn]
    rfl
  · rintro k n last report rfl hn rfl hreport
    have due : report ↔ reportDue (s.scanMode k.scanIndex) (s.scanRecord k.scanIndex) .nodeOffline [] = true := by
      rw [hreport, reportDue_iff]
      simp
    have judged := scanJudged_offline (s := { s with queue := s.queue.setList c (before ++ after) }) (k := k) hn
    have slotted := claimed_of_scan (s := { s with queue := s.queue.setList c (before ++ after) }) (r := .scan k) rfl hn
    rw [slotted.offline rfl gone]
    exact ⟨fun quiet => congrArg _ (judged.trans (if_neg (mt due.mpr quiet))),
      fun loud => congrArg _ (judged.trans (if_pos (due.mp loud)))⟩

end Sys2Proof.Machine
end

section
/-! ## The DLC's law: its state, the record in flight and its flags agree -/

namespace Sys2Proof.Machine

/-! ### The law by the DLC's state -/

section Law
variable {s t : State}

/-- The law speaks of the DLC alone. -/
theorem State.DlcLaw.of_same (law : s.DlcLaw) (same : t.dlc = s.dlc) : t.DlcLaw := by
  rwa [State.DlcLaw, same]

theorem State.DlcLaw.at_rest (law : s.DlcLaw) (rest : s.dlc.state = .idle ∨ s.dlc.state = .halted) :
    s.dlc.inflight = none ∧ s.dlc.haltReq = false ∧ s.dlc.pend = {} ∧ s.dlc.stopping = false := by
  rcases rest with h | h <;> simpa [State.DlcLaw, Dlc.Lawful, h] using law

theorem State.DlcLaw.in_transmit (law : s.DlcLaw) (h : s.dlc.state = .transmit) :
    s.dlc.inflight.isSome = !s.dlc.stopping := by
  simpa only [State.DlcLaw, Dlc.Lawful, h] using law

theorem State.DlcLaw.in_response (law : s.DlcLaw) (h : s.dlc.state = .await ∨ s.dlc.state = .receive) :
    s.dlc.inflight.isSome = true ∧ s.dlc.stopping = false := by
  rcases h with h | h <;> simpa only [State.DlcLaw, Dlc.Lawful, h] using law

theorem State.DlcLaw.in_guard (law : s.DlcLaw) (h : s.dlc.state = .guard) : s.dlc.stopping = false := by
  simpa only [State.DlcLaw, Dlc.Lawful, h] using law

/-! ### The states that the DLC enters -/

theorem enterGuard_dlcLaw (whole : s.dlc.stopping = false) (n : Nat) : (s.enterGuard n).DlcLaw := whole

theorem enterIdle_dlcLaw (vacant : s.dlc.inflight = none) (unasked : s.dlc.haltReq = false)
    (whole : s.dlc.stopping = false) : s.enterIdle.DlcLaw :=
  ⟨vacant, unasked, rfl, whole⟩

theorem enterHalted_dlcLaw (vacant : s.dlc.inflight = none) (whole : s.dlc.stopping = false) :
    s.enterHalted.DlcLaw :=
  ⟨vacant, rfl, rfl, whole⟩

theorem leaveGuard_dlcLaw (vacant : s.dlc.inflight = none) (whole : s.dlc.stopping = false) :
    s.leaveGuard.DlcLaw := by
  unfold State.leaveGuard
  split
  · exact enterHalted_dlcLaw vacant whole
  · next unasked => exact enterIdle_dlcLaw vacant (by simpa using unasked) whole

/-- An attempt of the current step begins: the request sent is counted, and RETRIES when it is not the step's first (R38,
R39). -/
theorem beginAttempt_eq (x : Exchange) (s : State) : s.beginAttempt x = { s with
    counters := if x.sentInStep = 0 then s.counters else vset s.counters 7 (saturate (s.counter .retries))
    dlc := { s.dlc with state := .transmit, interval := 1, inflight := some {
      x with
      syncSent := if x.step = .sync then x.syncSent + 1 else x.syncSent
      mainSent := if x.step = .sync then x.mainSent else x.mainSent + 1, response := [] } } } := by
  unfold State.beginAttempt Exchange.sentInStep
  cases x.step <;> dsimp only
  · by_cases first : x.syncSent = 0
    · simp [first]
    · simp only [first, decide_false, Bool.false_eq_true, if_false]; rfl
  · by_cases first : x.mainSent = 0
    · simp [first]
    · simp only [first, decide_false, Bool.false_eq_true, if_false]; rfl

theorem beginAttempt_dlcLaw (whole : s.dlc.stopping = false) (x : Exchange) : (s.beginAttempt x).DlcLaw := by
  rw [beginAttempt_eq, State.DlcLaw, Dlc.Lawful]
  dsimp only
  rw [whole]
  rfl

/-! ### The exchange -/

theorem endAttempt_dlcLaw (whole : s.dlc.stopping = false) (x : Exchange) (o : OutcomeCode) (data : List Byte) :
    (s.endAttempt x o data).DlcLaw := by
  refine enterGuard_dlcLaw ?_ _
  obtain ⟨result, payload, e⟩ | e := recordAttempt_cases x o data s
  · rw [e, complete_dlc]; exact whole
  · rw [e, setInflight_dlc]; exact whole

theorem State.DlcLaw.select (law : s.DlcLaw) (idle : s.dlc.state = .idle) : s.select.DlcLaw := by
  obtain ⟨-, -, -, whole⟩ := law.at_rest (.inl idle)
  unfold State.select
  split
  · exact law
  · next r q _ =>
    have claimed : (State.claimScanSlot r { s with queue := q }).2.dlc = s.dlc := by simp
    dsimp only
    unfold State.runRecord
    split
    · exact law.of_same (by rw [completeOffline_dlc, claimed])
    · exact beginAttempt_dlcLaw (s := { (State.claimScanSlot r { s with queue := q }).2 with dlc := _ })
        (by rw [claimed]; exact whole) _

theorem State.DlcLaw.receiveChar (law : s.DlcLaw) (c : DropChar) : (s.receiveChar c).DlcLaw := by
  unfold State.receiveChar
  split
  · exact law.of_same (stray_dlc s)
  · exact law.of_same (stray_dlc s)
  · exact law.of_same (stray_dlc s)
  · exact law
  · next await =>
    split
    · split
      · exact law
      · exact ⟨rfl, (law.in_response (.inl await)).2⟩
    · exact law.of_same (stray_dlc s)
  · next receive =>
    obtain ⟨-, whole⟩ := law.in_response (.inr receive)
    split
    · exact law
    · dsimp only
      split
      · exact endAttempt_dlcLaw whole _ _ _
      · rw [State.DlcLaw, Dlc.Lawful, setInflight_dlc, receive]
        exact ⟨rfl, whole⟩

theorem State.DlcLaw.endGuard (law : s.DlcLaw) (guard : s.dlc.state = .guard) : s.endGuard.DlcLaw := by
  have whole := law.in_guard guard
  have completed : ∀ x o data, (s.complete x o data).leaveGuard.DlcLaw := fun x o data =>
    leaveGuard_dlcLaw (by rw [complete_dlc]) (by rw [complete_dlc]; exact whole)
  unfold State.endGuard
  split
  · next vacant => exact leaveGuard_dlcLaw vacant whole
  · next x _ =>
    split
    · exact completed _ _ _
    · split
      · exact completed _ _ _
      · unfold State.continueExchange
        split
        · exact beginAttempt_dlcLaw whole _
        · exact beginAttempt_dlcLaw whole _

/-- The law names the halt request and the pending settings in IDLE and HALTED alone, and of the exchange only whether one is
in flight. -/
theorem State.DlcLaw.of_agree {d : Dlc} (law : s.DlcLaw) (state : d.state = s.dlc.state)
    (inflight : d.inflight.isSome = s.dlc.inflight.isSome) (stopping : d.stopping = s.dlc.stopping)
    (quiet : s.dlc.state = .idle ∨ s.dlc.state = .halted → d.haltReq = s.dlc.haltReq ∧ d.pend = s.dlc.pend) :
    d.Lawful := by
  by_cases rest : s.dlc.state = .idle ∨ s.dlc.state = .halted
  · obtain ⟨vacant, unasked, applied, whole⟩ := law.at_rest rest
    obtain ⟨haltReq, pend⟩ := quiet rest
    have lawful : d.inflight = none ∧ d.haltReq = false ∧ d.pend = {} ∧ d.stopping = false :=
      ⟨by rwa [vacant, Option.isSome_none, Option.isSome_eq_false_iff, Option.isNone_iff_eq_none] at inflight,
        haltReq.trans unasked, pend.trans applied, stopping.trans whole⟩
    rw [← state] at rest
    rcases rest with h | h <;> rwa [Dlc.Lawful, h]
  · unfold State.DlcLaw Dlc.Lawful at law
    unfold Dlc.Lawful
    rw [state, inflight, stopping]
    split at law <;> simp_all

theorem State.DlcLaw.uplinkLoss (law : s.DlcLaw) : s.uplinkLoss.DlcLaw := by
  show s.dlc.loseSession.Lawful
  unfold Dlc.loseSession
  split
  · exact law
  · next x hx => exact law.of_agree rfl (by rw [hx]; rfl) rfl fun _ => ⟨rfl, rfl⟩

theorem State.DlcLaw.enterDown (law : s.DlcLaw) (p : PortId) : (s.enterDown p).DlcLaw := by
  cases p with
  | u =>
    have settled : (s.settleDues.setPort .u s.portU.fall).DlcLaw := law.of_same (by simp)
    exact settled.uplinkLoss.of_same (by simp [State.enterDown])
  | d => exact law.of_same (by simp [State.enterDown])

/-! ### The commands -/

theorem State.DlcLaw.haltLine (law : s.DlcLaw) : s.haltLine.DlcLaw := by
  unfold State.haltLine
  split
  · next idle =>
    obtain ⟨vacant, -, -, whole⟩ := law.at_rest (.inl idle)
    exact enterHalted_dlcLaw vacant whole
  · next transmit => exact law.of_agree rfl rfl rfl (by simp [transmit])
  · next await => exact law.of_agree rfl rfl rfl (by simp [await])
  · next receive => exact law.of_agree rfl rfl rfl (by simp [receive])
  · next guard => exact law.of_agree rfl rfl rfl (by simp [guard])
  · exact law

theorem runLine_of_not_halted (h : s.dlc.state ≠ .halted) :
    s.runLine = { s with dlc := { s.dlc with haltReq := false } } := by
  unfold State.runLine
  split
  · contradiction
  all_goals rfl

theorem State.DlcLaw.runLine (law : s.DlcLaw) : s.runLine.DlcLaw := by
  by_cases halted : s.dlc.state = .halted
  · obtain ⟨vacant, unasked, -, whole⟩ := law.at_rest (.inr halted)
    rw [State.runLine, halted]
    exact enterIdle_dlcLaw vacant unasked whole
  · rw [runLine_of_not_halted halted]
    exact law.of_agree rfl rfl rfl fun rest => ⟨(law.at_rest rest).2.1.symm, rfl⟩

theorem State.DlcLaw.writeLineSetting (law : s.DlcLaw) (id v : Nat) : (s.writeLineSetting id v).DlcLaw := by
  unfold State.writeLineSetting
  split
  · exact law.of_agree rfl rfl rfl fun _ => ⟨rfl, rfl⟩
  · next awake =>
    split
    · exact law
    · exact law.of_agree rfl rfl rfl fun rest => absurd rest awake

theorem State.DlcLaw.runSetParam (law : s.DlcLaw) (ops : List Byte) : (runSetParam ops s).state.DlcLaw := by
  unfold Machine.runSetParam
  dsimp only
  split
  · exact law
  · split
    · exact law
    · dsimp only
      split
      · exact law.writeLineSetting _ _
      · exact law.of_same (writeOwnParam_dlc _ _ s)

theorem State.DlcLaw.runCancel (law : s.DlcLaw) (ops : List Byte) : (runCancel ops s).state.DlcLaw := by
  unfold Machine.runCancel
  dsimp only
  split
  · next r q _ => exact law.of_same (cancelOne_dlc r { s with queue := q })
  · split
    · next x hx =>
      split
      · exact law.of_agree rfl (by rw [hx]; rfl) rfl fun _ => ⟨rfl, rfl⟩
      · exact law
    · exact law

theorem takeHead_dlc {want : Frame → Bool} {f : Frame} {n : Nat} (h : s.takeHead want = some (f, n, t)) :
    t.dlc = s.dlc := by
  obtain ⟨-, rest, -, -, rfl⟩ := takeHead_cases h
  exact took_dlc rest n s

@[simp] theorem finishControl_dlc (f : Frame) (n : Nat) (r : CommandResult) : (finishControl f n r).dlc = r.state.dlc := by
  rw [finishControl_eq, answered_dlc]

@[simp] theorem settleBefore_dlc (want : Frame → Bool) (s : State) : (s.settleBefore want).dlc = s.dlc := by
  unfold State.settleBefore
  split
  · rfl
  · split
    · exact settleDues_dlc s
    · rfl

/-- A command keeps the law when its own rule does. -/
theorem State.DlcLaw.dispatch {c : Command} {run : List Byte → State → CommandResult} (law : s.DlcLaw)
    (rule : ∀ ops (t : State), t.DlcLaw → (run ops t).state.DlcLaw) : (dispatch c run s).DlcLaw := by
  unfold Machine.dispatch
  split
  · exact law
  · next f n t ht =>
    have taken : t.DlcLaw := law.of_same (takeHead_dlc ht)
    refine State.DlcLaw.of_same ?_ (finishControl_dlc f n _)
    unfold runCommand
    split
    · exact rule _ _ taken
    · exact taken

/-! ### The soft reset -/

theorem State.DlcLaw.resetDlc (law : s.DlcLaw) : s.resetDlc.DlcLaw := by
  unfold State.resetDlc
  dsimp only
  split
  · next transmit =>
    rw [State.DlcLaw, Dlc.Lawful]
    dsimp only
    rw [transmit]
    rfl
  · next await => exact (law.in_response (.inl await)).2
  · next receive => exact (law.in_response (.inr receive)).2
  · next guard =>
    rw [State.DlcLaw, Dlc.Lawful]
    dsimp only
    rw [guard]
    exact law.in_guard guard
  · next idle =>
    obtain ⟨-, -, applied, whole⟩ := law.at_rest (.inl idle)
    rw [State.DlcLaw, Dlc.Lawful]
    dsimp only
    rw [idle]
    exact ⟨rfl, rfl, applied, whole⟩
  · next halted => exact enterIdle_dlcLaw rfl rfl (law.at_rest (.inr halted)).2.2.2

/-- A soft reset leaves HALTED (R57). -/
theorem resetDlc_not_halted (s : State) : s.resetDlc.dlc.state ≠ .halted := by
  unfold State.resetDlc
  dsimp only
  split <;> simp [*]

theorem State.DlcLaw.resetFull (law : s.DlcLaw) (running : s.dlc.state ≠ .halted) : s.resetFull.DlcLaw := by
  rw [State.DlcLaw, resetFull_eq]
  dsimp only
  split
  · next idle =>
    obtain ⟨vacant, unasked, -, whole⟩ := law.at_rest (.inl idle)
    rw [Dlc.Lawful]
    dsimp only
    rw [idle]
    exact ⟨vacant, unasked, rfl, whole⟩
  · next awake => exact law.of_agree rfl rfl rfl fun rest => absurd rest (not_or.mpr ⟨awake, running⟩)

theorem resetQueues_dlc (s : State) : s.resetQueues.dlc = s.resetDlc.dlc := rfl

theorem State.DlcLaw.softReset (law : s.DlcLaw) (level : ResetLevel) : (s.softReset level).DlcLaw := by
  cases level with
  | queues =>
    have distrusted : s.distrustNode.DlcLaw := law.of_same (distrustNode_dlc s)
    exact distrusted.resetDlc.of_same (resetQueues_dlc s.distrustNode)
  | full =>
    have queues : s.resetQueues.DlcLaw := law.resetDlc.of_same (resetQueues_dlc s)
    exact queues.resetFull (resetDlc_not_halted s)

theorem State.DlcLaw.takeSoftReset (law : s.DlcLaw) : s.takeSoftReset.DlcLaw := by
  unfold State.takeSoftReset
  split
  · exact law
  · next f n t ht =>
    have taken : t.DlcLaw := law.of_same (takeHead_dlc ht)
    split
    · exact taken.of_same (finishControl_dlc f n _)
    · split
      · exact taken.of_same (finishControl_dlc f n _)
      · next level _ =>
        dsimp only
        split
        · exact taken.softReset level
        · exact (taken.softReset level).of_same (fillLowest_dlc _ _)

theorem takeCommit_dlc (s : State) : s.takeCommit.dlc = s.dlc := by
  unfold State.takeCommit
  split
  · rfl
  · next f n t ht =>
    rw [← takeHead_dlc ht]
    split
    · exact finishControl_dlc f n _
    · split
      · exact finishControl_dlc f n _
      · exact startCommit_dlc f n t

theorem runClearFaults_dlc (ops : List Byte) (s : State) : (runClearFaults ops s).state.dlc = s.dlc := by
  unfold runClearFaults
  dsimp only
  split <;> rfl

theorem runReadCounters_dlc (ops : List Byte) (s : State) : (runReadCounters ops s).state.dlc = s.dlc := by
  unfold runReadCounters
  dsimp only
  split <;> rfl

theorem runTableWrite_dlc (ops : List Byte) (s : State) : (runTableWrite ops s).state.dlc = s.dlc := by
  unfold runTableWrite
  split
  · rfl
  · dsimp only
    split
    · rfl
    · split
      · rfl
      · exact setBank_dlc _ _ s

theorem runShadowLoad_dlc (ops : List Byte) (s : State) : (runShadowLoad ops s).state.dlc = s.dlc := by
  unfold runShadowLoad
  split
  · rfl
  · exact setBank_dlc _ _ s

theorem runNodeReset_dlc (ops : List Byte) (s : State) : (runNodeReset ops s).state.dlc = s.dlc := by
  unfold runNodeReset
  dsimp only
  split
  · rfl
  · split
    · rfl
    · exact setNode_dlc _ _ s

theorem runFlush_dlc (ops : List Byte) (s : State) : (runFlush ops s).state.dlc = s.dlc := by
  have fold : ∀ (l : List ExRecord) (t : State), (l.foldl (fun t r => t.releaseReply r.slot) t).dlc = t.dlc := by
    intro l
    induction l with
    | nil => exact fun t => rfl
    | cons r l ih => exact fun t => (ih _).trans (releaseReply_dlc _ t)
  exact fold _ _

/-! ### Every command -/

theorem State.DlcLaw.live {f : State → State} (law : s.DlcLaw) (hf : (f s).DlcLaw) (h : Machine.live f s = .next t) :
    t.DlcLaw :=
  live_keeps (P := State.DlcLaw) law hf h

end Law

theorem reset_dlcLaw (pending : List Instr) (held : Bool) :
    ({ State.reset with inReset := held, pending := pending } : State).DlcLaw :=
  ⟨rfl, rfl, rfl, rfl⟩

/-- The commands that can reach the DLC. -/
def reachesDlc : Instr → Bool
  | .hardReset _ | .resetNRise | .linkDown _ _ | .setParam | .cancel | .lineHalt | .lineRun | .softReset | .selection
  | .readBackComplete | .lineContention _ _ | .lineFault | .responseStart _ _ | .responseCharacter _
  | .strayCharacter _ | .noResponse | .responseEnd | .guardEnd | .resetCharacterFinished => true
  | .tick | .expiry | .revivalPoint | .scanDue | .linkUp _ _ | .hold _ | .go _ | .uFrameArrival _ _ | .enumerate _ _
  | .dFrameArrival _ _ | .chainEndAck | .mergeGrant | .uTxFrameEnd | .otqSendStart | .otqSendEnd | .noticePlace
  | .requestAdmission | .badCommand | .readStatus | .getParam | .clearFaults | .readCounters | .tableWrite | .tableRead
  | .shadowLoad | .commit | .commitReject | .swap | .flush | .nodeReset | .nodeRead | .frameStartInReception _ _ => false

theorem live_dlc {f : State → State} {s t : State} (same : (f s).dlc = s.dlc) (h : live f s = .next t) :
    t.dlc = s.dlc :=
  live_keeps (P := fun u => u.dlc = s.dlc) rfl same h

/-- A command whose own rule leaves the DLC alone. -/
theorem dispatch_dlc {c : Command} {run : List Byte → State → CommandResult} {s t : State}
    (same : ∀ ops (u : State), (run ops u).state.dlc = u.dlc) (h : live (dispatch c run) s = .next t) :
    t.dlc = s.dlc := by
  refine live_dlc ?_ h
  unfold dispatch
  split
  · rfl
  · next ht =>
    rw [finishControl_dlc, ← takeHead_dlc ht]
    unfold runCommand
    split
    · exact same _ _
    · rfl

/-- The other commands leave the DLC as it was. -/
theorem exec_dlc {c : Instr} {s t : State} (apart : reachesDlc c = false) (h : exec c s = .next t) : t.dlc = s.dlc := by
  cases c with
  | tick => exact live_dlc (f := fun s => s.settleTick.countTick.revivalTick.holdoffTick.scanStep) (by simp) h
  | expiry => exact live_dlc (takeExpired_dlc s) h
  | revivalPoint => exact live_dlc (settleRevival_dlc s) h
  | scanDue => exact live_dlc (nextDue_dlc s) h
  | linkUp p times =>
    rw [exec, execLinkUp] at h
    refine live_dlc ?_ h
    split
    · rfl
    · split <;> simp
  | hold p | go p =>
    refine live_dlc ?_ h
    split <;> simp
  | uFrameArrival bytes invalid | dFrameArrival bytes invalid =>
    refine live_dlc ?_ h
    split
    · dsimp only
      split <;> simp
    · rfl
  | enumerate header count =>
    rw [exec, execEnumerate] at h
    refine live_dlc ?_ h
    split <;> simp
  | chainEndAck =>
    rw [exec, execChainEndAck] at h
    refine live_dlc ?_ h
    split <;> simp
  | mergeGrant =>
    rw [exec, execMergeGrant] at h
    refine live_dlc ?_ h
    split <;> simp
  | uTxFrameEnd => exact live_dlc (endUTx_dlc s) h
  | otqSendStart =>
    rw [exec, execOtqSendStart] at h
    refine live_dlc ?_ h
    split
    · rfl
    · split <;> rfl
  | otqSendEnd =>
    rw [exec, execOtqSendEnd] at h
    refine live_dlc ?_ h
    split <;> simp
  | noticePlace =>
    rw [exec, execNoticePlace] at h
    refine live_dlc ?_ h
    split <;> simp
  | requestAdmission =>
    rw [exec, execRequestAdmission] at h
    refine live_dlc ?_ h
    split
    · rfl
    · next ht => rw [admitRequest_dlc, takeHead_dlc ht]
  | badCommand =>
    rw [exec, execBadCommand] at h
    refine live_dlc ?_ h
    split
    · rfl
    · next ht => rw [finishControl_dlc]; exact takeHead_dlc ht
  | readStatus => exact dispatch_dlc (fun _ _ => rfl) h
  | getParam => exact dispatch_dlc (fun ops t => by rw [runGetParam_state]) h
  | clearFaults => exact dispatch_dlc runClearFaults_dlc h
  | readCounters => exact dispatch_dlc runReadCounters_dlc h
  | tableWrite => exact dispatch_dlc runTableWrite_dlc h
  | tableRead => exact dispatch_dlc (fun ops t => by rw [runTableRead_state]) h
  | shadowLoad => exact dispatch_dlc runShadowLoad_dlc h
  | commit => exact live_dlc (takeCommit_dlc s) h
  | commitReject =>
    rw [exec, execCommitReject] at h
    refine live_dlc ?_ h
    split
    · rfl
    · split <;> simp
  | swap =>
    rw [exec, execSwap] at h
    refine live_dlc ?_ h
    split
    · rfl
    · split <;> simp
  | flush => exact dispatch_dlc runFlush_dlc h
  | nodeReset => exact dispatch_dlc runNodeReset_dlc h
  | nodeRead => exact dispatch_dlc (fun ops t => by rw [runNodeRead_state]) h
  | frameStartInReception p data =>
    rw [exec, execFrameStartInReception] at h
    refine live_dlc ?_ h
    split
    · dsimp only
      split <;> simp
    · rfl
  | hardReset _ | resetNRise | linkDown _ _ | setParam | cancel | lineHalt | lineRun | softReset | selection
  | readBackComplete | lineContention _ _ | lineFault | responseStart _ _ | responseCharacter _ | strayCharacter _
  | noResponse | responseEnd | guardEnd | resetCharacterFinished => cases apart

/-- Every command keeps the DLC's law. -/
theorem exec_dlcLaw {c : Instr} {s t : State} (law : s.DlcLaw) (h : exec c s = .next t) : t.DlcLaw := by
  cases c with
  | hardReset cause =>
    obtain rfl : _ = t := Host.Outcome.next.inj h
    split
    · exact reset_dlcLaw _ _
    · exact law
  | resetNRise =>
    obtain rfl : _ = t := Host.Outcome.next.inj h
    split
    · exact reset_dlcLaw _ _
    · exact law
  | linkDown p times =>
    rw [exec, execLinkDown] at h
    refine law.live ?_ h
    split
    · split
      · exact law.of_same (by simp)
      · exact law.enterDown p
    · exact law
  | setParam =>
    rw [exec, execSetParam] at h
    have settled : (s.settleBefore s.changesScanEnable).DlcLaw := law.of_same (settleBefore_dlc _ s)
    exact law.live (settled.dispatch fun ops _ k => k.runSetParam ops) h
  | cancel => exact law.live (law.dispatch fun ops _ k => k.runCancel ops) h
  | lineHalt => exact law.live (law.dispatch fun _ _ k => k.haltLine) h
  | lineRun => exact law.live (law.dispatch fun _ _ k => k.runLine) h
  | softReset =>
    rw [exec, execSoftReset] at h
    have settled : (s.settleBefore namesLevel).DlcLaw := law.of_same (settleBefore_dlc _ s)
    exact law.live settled.takeSoftReset h
  | selection =>
    rw [exec, execSelection] at h
    refine law.live ?_ h
    split
    · next idle => exact law.select idle
    · exact law
  | readBackComplete =>
    rw [exec, execReadBackComplete] at h
    refine law.live ?_ h
    split
    · exact law
    · next x hx =>
      obtain ⟨-, whole, flying⟩ := transmitting_eq_some.mp hx
      have counted : (if x.step = .sync then s.bump .syncs else s).dlc = s.dlc := by split <;> rfl
      dsimp only
      split
      · exact enterGuard_dlcLaw (by rw [setInflight_dlc, counted]; exact whole) _
      · rw [State.DlcLaw, counted]
        exact ⟨by rw [flying]; rfl, whole⟩
  | lineContention k rb =>
    rw [exec, execLineContention] at h
    refine law.live ?_ h
    split
    · exact law
    · next x hx =>
      obtain ⟨-, whole, -⟩ := transmitting_eq_some.mp hx
      split
      · exact endAttempt_dlcLaw (s := (s.bump .contention).latch .dropContention) whole _ _ _
      · exact law
  | lineFault =>
    rw [exec, execLineFault] at h
    refine law.live ?_ h
    split
    · exact law
    · next x hx =>
      obtain ⟨-, whole, -⟩ := transmitting_eq_some.mp hx
      exact enterHalted_dlcLaw (by rw [complete_dlc]) (by rw [complete_dlc]; exact whole)
  | responseStart data framing => exact law.live (law.receiveChar _) h
  | responseCharacter c | strayCharacter c => exact law.live (law.receiveChar c) h
  | noResponse =>
    rw [exec, execNoResponse] at h
    refine law.live ?_ h
    split
    · next await _ => exact endAttempt_dlcLaw (law.in_response (.inl await)).2 _ _ _
    · exact law
  | responseEnd =>
    rw [exec, execResponseEnd] at h
    refine law.live ?_ h
    split
    · next receive _ => exact endAttempt_dlcLaw (law.in_response (.inr receive)).2 _ _ _
    · exact law
  | guardEnd =>
    rw [exec, execGuardEnd] at h
    refine law.live ?_ h
    split
    · next guard => exact law.endGuard guard
    · exact law
  | resetCharacterFinished =>
    rw [exec, execResetCharacterFinished] at h
    refine law.live ?_ h
    split
    · exact enterGuard_dlcLaw rfl _
    · exact law
  | tick | expiry | revivalPoint | scanDue | linkUp _ _ | hold _ | go _ | uFrameArrival _ _ | enumerate _ _
  | dFrameArrival _ _ | chainEndAck | mergeGrant | uTxFrameEnd | otqSendStart | otqSendEnd | noticePlace
  | requestAdmission | badCommand | readStatus | getParam | clearFaults | readCounters | tableWrite | tableRead
  | shadowLoad | commit | commitReject | swap | flush | nodeReset | nodeRead | frameStartInReception _ _ =>
    exact law.of_same (exec_dlc rfl h)

/-- Settles O58: the law speaks of the DLC alone, each command keeps it, and the idle step moves the sweep's cursor only. -/
theorem stepKeepsTheDlcLawful : Obligations.StepKeepsTheDlcLawful := by
  intro s t law hs
  exact step_keeps (P := State.DlcLaw) (fun _ _ h => h) (fun u h => h.of_same (idleStep_dlc u))
    (fun c u v h => exec_dlcLaw h) law hs

end Sys2Proof.Machine
end

section
/-! ## The reset values, the verdict of an exchange -/

namespace Sys2Proof.Machine

/-! ### The reset values (R161) -/

theorem reset_image_byte (b : BankId) (t : TableId) (i k : Nat) : ((State.reset.bank b).image t i).byte k = 0 := by
  have zero : Image.zero.byte k = 0 := by simp [Image.byte, Image.zero]
  have entry : (State.reset.bank b).image t i = Image.zero := by
    cases b <;> cases t <;> exact vget_replicate _ _
  rw [entry, zero]

theorem reset_counter (c : Counter) : State.reset.counter c = 0#16 := vget_replicate _ _

/-- Settles O5: the tables are read entry by entry, every other register is a default of the state. -/
theorem resetValuesOfEveryBlock : Obligations.ResetValuesOfEveryBlock := by
  have ports : ∀ p, State.reset.port p = {} := fun p => by cases p <;> rfl
  exact ⟨ports, rfl, rfl, rfl, rfl, rfl, rfl, rfl, rfl, rfl, rfl, rfl, rfl, rfl, fun _ => vget_replicate _ _,
    reset_image_byte, rfl, rfl, rfl, fun _ => vget_replicate _ _, rfl, rfl, rfl, rfl, rfl, rfl, rfl, reset_counter, rfl⟩

/-! ### The verdict (R52) -/

section Verdict
variable {x : Exchange} {o : OutcomeCode}

theorem verdict_of_sync (last : x.lastOutcome = some o) (alive : o ≠ .lineFault) (sync : x.step = .sync) :
    x.verdict = if o = .ok then .synchronised else if validOutcome o then .healthySync
      else if x.anyBad then .failure else .noChange := by
  rw [Exchange.verdict, last]
  dsimp only
  rw [if_neg alive, sync]

theorem verdict_of_main (last : x.lastOutcome = some o) (alive : o ≠ .lineFault) (main : x.step = .main) :
    x.verdict = if validOutcome o then .healthyMain else if x.anyBad then .failure
      else if x.hasSync then .synchronised else .noChange := by
  rw [Exchange.verdict, last]
  dsimp only
  rw [if_neg alive, main]

theorem verdict_of_lineFault (last : x.lastOutcome = some .lineFault) : x.verdict = .lineFault := by
  rw [Exchange.verdict, last]
  exact if_pos rfl

/-- After no valid response the verdict turns on whether an attempt of the step failed. -/
theorem verdict_of_invalid (last : x.lastOutcome = some o) (alive : o ≠ .lineFault) (invalid : validOutcome o = false) :
    x.verdict = if x.anyBad then .failure else if x.step = .main ∧ x.hasSync = true then .synchronised else .noChange := by
  have failed : o ≠ .ok := by rintro rfl; cases invalid
  cases step : x.step with
  | sync =>
    rw [verdict_of_sync last alive step, if_neg failed, invalid]
    simp
  | main =>
    rw [verdict_of_main last alive step, invalid]
    simp

end Verdict

/-! ### The verdict's effect on a node record (R60 to R62) -/

section Record
variable (r : NodeRecord) (threshold : Nat) (carried : Bool)

theorem carrySync_state : (r.carrySync carried).state = r.state := by cases carried <;> rfl

theorem carrySync_failures : (r.carrySync carried).failures = r.failures := by cases carried <;> rfl

theorem fail_of_offline {r : NodeRecord} (h : r.state = .offline) : r.fail threshold = r := by
  rw [NodeRecord.fail, h]

theorem fail_of_suspect {r : NodeRecord} (h : r.state = .suspect) : r.fail threshold = { r with
    failures := r.failures + 1, state := if threshold ≤ r.failures + 1 then .offline else .suspect } := by
  rw [NodeRecord.fail, h]

theorem fail_of_healthy {r : NodeRecord} (h : r.state = .unknown ∨ r.state = .online) : r.fail threshold = { r with
    failures := 1, state := if threshold ≤ 1 then .offline else .suspect } := by
  rcases h with h | h <;> rw [NodeRecord.fail, h]

theorem apply_failure : r.apply threshold carried .failure =
    { (r.carrySync carried).fail threshold with sync := .needsSync } := rfl

end Record

/-- Settles O51: the verdict by the step that ran last, then its effect on the record with a SYNC's success carried in. -/
theorem verdictsChangeTheNodeRecord : Obligations.VerdictsChangeTheNodeRecord := by
  refine ⟨fun x o last => ⟨fun sync ok => ?_, fun sync busy => ?_, fun main valid => ?_, fun missed => ?_, fun dead => ?_⟩,
    fun r b threshold carried hb => ?_⟩
  · subst ok
    rw [verdict_of_sync last (by decide) sync, if_pos rfl]
  · rcases busy with rfl | rfl <;> exact verdict_of_sync last (by decide) sync
  · rcases valid with rfl | rfl | rfl <;> exact verdict_of_main last (by decide) main
  · have invalid : o ≠ .lineFault ∧ validOutcome o = false := by rcases missed with rfl | rfl | rfl <;> decide
    rw [verdict_of_invalid last invalid.1 invalid.2]
    exact ⟨fun any => if_pos any, fun clean => if_neg (by simp [clean])⟩
  · exact verdict_of_lineFault (dead ▸ last)
  · obtain rfl : b = r.carrySync carried := hb
    refine ⟨by cases carried <;> rfl, rfl, rfl, rfl, rfl, fun offline => ?_, fun suspect => ?_, fun healthy => ?_⟩
    · rw [apply_failure, fail_of_offline threshold (by rwa [carrySync_state])]
    · rw [apply_failure, fail_of_suspect threshold (by rwa [carrySync_state]), carrySync_failures]
    · rw [apply_failure, fail_of_healthy threshold (by rwa [carrySync_state])]

end Sys2Proof.Machine
end

section
/-! ## LINE_HALT, LINE_RUN and SET_PARAM -/

namespace Sys2Proof.Machine

/-! ### LINE_HALT and LINE_RUN (R53 to R55) -/

theorem haltLine_of_busy {s : State} (h : s.dlc.state ∈ [DlcState.transmit, .await, .receive, .guard]) :
    s.haltLine = { s with dlc := { s.dlc with haltReq := true } } := by
  unfold State.haltLine
  split
  · next idle => simp [idle] at h
  · rfl
  · rfl
  · rfl
  · rfl
  · next halted => simp [halted] at h

theorem exec_lineHalt {s : State} {f : Frame} {rest : List Frame} {n : Nat} (head : s.HeadCommand .lineHalt [] f rest n) :
    exec .lineHalt s = .next ((s.took rest n).haltLine.answered f n .done []) := by
  rw [exec, execLineHalt, live_of_live head.live, head.dispatch_run rfl]
  rfl

theorem exec_lineRun {s : State} {f : Frame} {rest : List Frame} {n : Nat} (head : s.HeadCommand .lineRun [] f rest n) :
    exec .lineRun s = .next ((s.took rest n).runLine.answered f n .done []) := by
  rw [exec, execLineRun, live_of_live head.live, head.dispatch_run rfl]
  rfl

/-- Settles O40: taking the head leaves the DLC as it was, and its state decides. -/
theorem lineHaltAndRunActByTheState : Obligations.LineHaltAndRunActByTheState := by
  intro s t f rest n cur ht hcur
  have settings : cur = applyPending s.dlc.cur s.dlc.pend := hcur
  subst ht settings
  refine ⟨fun head => ?_, fun head => ?_⟩
  · rw [exec_lineHalt head]
    refine ⟨fun idle => ?_, fun busy => ?_, fun halted => ?_⟩
    · have entered : (s.took rest n).haltLine = (s.took rest n).enterHalted := by rw [State.haltLine, took_dlc, idle]
      rw [entered]
      rfl
    · rw [haltLine_of_busy (s := s.took rest n) busy]
      rfl
    · have stays : (s.took rest n).haltLine = s.took rest n := by rw [State.haltLine, took_dlc, halted]
      rw [stays]
  · rw [exec_lineRun head]
    refine ⟨fun halted => ?_, fun running => ?_⟩
    · have entered : (s.took rest n).runLine = (s.took rest n).enterIdle := by rw [State.runLine, took_dlc, halted]
      rw [entered]
      rfl
    · rw [runLine_of_not_halted (s := s.took rest n) running]
      rfl

/-! ### SET_PARAM: its operands (R167, R189) -/

theorem opWord_toNat (i hi lo : Byte) : (opWord [i, hi, lo] 1).toNat = hi.toNat * 256 + lo.toNat := by
  show (hi ++ lo).toNat = _
  rw [BitVec.toNat_append, ← Nat.shiftLeft_add_eq_or_of_lt lo.isLt, Nat.shiftLeft_eq]

/-- The ranges of the parameters 1 to 14 in their order (R167). -/
theorem paramInRange_iff {id v : Nat} (low : 1 ≤ id) (high : id ≤ 14) : paramInRange id v = true ↔
    ∃ r, [(0, 4), (2, 255), (2, 15), (1, 63), (1, 255), (1, 7), (0, 65535), (1, 255), (0, 1), (0, 16), (1, 8),
      (0, 255), (0, 1), (0, 1)][id - 1]? = some r ∧ r.1 ≤ v ∧ v ≤ r.2 := by
  interval_cases id <;> simp [paramInRange]

theorem isParam_iff {id : Nat} : isParam id = true ↔ 1 ≤ id ∧ id ≤ 14 := by simp [isParam]

/-! ### SET_PARAM: its own rule (R169) -/

section Rule
variable {s : State} {i hi lo : Byte} {id v : Nat}

theorem runSetParam_unknown (hid : id = i.toNat) (unknown : isParam id = false) :
    runSetParam [i, hi, lo] s = refuseCommand s .badParam [] := by
  subst hid
  exact if_pos (by rw [show opByte [i, hi, lo] 0 = i from rfl, unknown]; rfl)

/-- A value of a known parameter: refused when it is out of its range, and written otherwise. -/
theorem runSetParam_known (hid : id = i.toNat) (hv : v = hi.toNat * 256 + lo.toNat) (known : isParam id = true) :
    runSetParam [i, hi, lo] s = if paramInRange id v then
      { state := if id ≤ 5 then s.writeLineSetting id v else s.writeOwnParam id v, code := .done, payload := [i, hi, lo] }
    else refuseCommand s .badValue [i] := by
  have byte : opByte [i, hi, lo] 0 = i := rfl
  rw [← opWord_toNat i hi lo] at hv
  subst hid hv
  simp only [runSetParam, byte, known]
  cases paramInRange i.toNat (opWord [i, hi, lo] 1).toNat <;> rfl

theorem writeLineSetting_at_rest (rest : s.dlc.state = .idle ∨ s.dlc.state = .halted) :
    s.writeLineSetting id v = { s with dlc := { s.dlc with cur := setCurrent id v s.dlc.cur } } := by
  rw [State.writeLineSetting, if_pos rest]

theorem writeLineSetting_awake (idle : s.dlc.state ≠ .idle) (halted : s.dlc.state ≠ .halted) :
    s.writeLineSetting id v =
      if paramPending s.dlc.pend id = none ∧ paramValue s.dlc.cur s.params id = v then s
      else { s with dlc := { s.dlc with pend := setPending id v s.dlc.pend } } := by
  rw [State.writeLineSetting, if_neg (not_or.mpr ⟨idle, halted⟩)]

theorem writeOwnParam_params (id v : Nat) (s : State) : (s.writeOwnParam id v).params = setOwnParam id v s.params := by
  unfold State.writeOwnParam
  dsimp only
  split
  · rfl
  · split <;> rfl

theorem writeOwnParam_scan (id v : Nat) (s : State) : (s.writeOwnParam id v).scan =
    if id = 9 ∧ s.params.scanEnable = 0 ∧ v = 1 then { s.scan with time := 0#32, startPending := true }
    else if id = 7 ∧ s.params.reviveInterval = 0 ∧ v ≠ 0 then { s.scan with reviveCount := 0 } else s.scan := by
  unfold State.writeOwnParam
  dsimp only
  split
  · rfl
  · split <;> rfl

theorem writeOwnParam_frame (id v : Nat) (s : State) : s.writeOwnParam id v =
    { s with params := (s.writeOwnParam id v).params, scan := (s.writeOwnParam id v).scan } := by
  unfold State.writeOwnParam
  dsimp only
  split
  · rfl
  · split <;> rfl

end Rule

/-! ### SET_PARAM: the dues before a change of SCAN_ENABLE (log entry 3), and the command -/

section Command
variable {s : State} {f : Frame} {rest : List Frame} {n : Nat} {i hi lo : Byte} {id v : Nat}

theorem changesScanEnable_iff (head : s.HeadCommand .setParam [i, hi, lo] f rest n) (hid : id = i.toNat)
    (hv : v = hi.toNat * 256 + lo.toNat) :
    s.changesScanEnable f = true ↔ id = 9 ∧ paramInRange id v = true ∧ v ≠ s.params.scanEnable := by
  have byte : opByte [i, hi, lo] 0 = i := rfl
  have three : [i, hi, lo].length = Command.setParam.operandBytes := rfl
  simp only [State.changesScanEnable, head.operands, head.isCommand, byte, three, opWord_toNat, ← hid, ← hv, decide_true,
    Bool.true_and, Bool.and_eq_true, decide_eq_true_eq, and_assoc]
  exact and_congr_right fun nine => by rw [nine]

theorem setParam_unsettled (head : s.HeadCommand .setParam [i, hi, lo] f rest n) (hid : id = i.toNat)
    (hv : v = hi.toNat * 256 + lo.toNat) (same : ¬(id = 9 ∧ paramInRange id v = true ∧ v ≠ s.params.scanEnable)) :
    s.settleBefore s.changesScanEnable = s := by
  refine settleBefore_unwanted head.inbox ?_
  rwa [Bool.eq_false_iff, Ne, changesScanEnable_iff head hid hv]

/-- The state that the head is taken from: the owed dues judged for a change of SCAN_ENABLE, and as it is otherwise. -/
theorem setParam_settles (head : s.HeadCommand .setParam [i, hi, lo] f rest n) (hid : id = i.toNat)
    (hv : v = hi.toNat * 256 + lo.toNat) (inRange : paramInRange id v = true) {x : State}
    (hx : x = if id = 9 ∧ v ≠ s.params.scanEnable then s.settleDues else s) :
    s.settleBefore s.changesScanEnable = x ∧ (∃ m, x.HeadCommand .setParam [i, hi, lo] f rest m) ∧
      x.dlc = s.dlc ∧ x.params = s.params := by
  by_cases change : id = 9 ∧ v ≠ s.params.scanEnable
  · rw [hx, if_pos change]
    have wanted := (changesScanEnable_iff head hid hv).mpr ⟨change.1, inRange, change.2⟩
    exact ⟨head.toHead.settleBefore wanted, head.settled, settleDues_dlc s, settleDues_params s⟩
  · rw [hx, if_neg change]
    exact ⟨setParam_unsettled head hid hv fun h => change ⟨h.1, h.2.2⟩, ⟨n, head⟩, rfl, rfl⟩

theorem exec_setParam (head : s.HeadCommand .setParam [i, hi, lo] f rest n) {x : State} {m : Nat}
    (settles : s.settleBefore s.changesScanEnable = x) (settled : x.HeadCommand .setParam [i, hi, lo] f rest m) :
    exec .setParam s = .next ((runSetParam [i, hi, lo] (x.took rest m)).state.answered f m
      (runSetParam [i, hi, lo] (x.took rest m)).code (runSetParam [i, hi, lo] (x.took rest m)).payload) := by
  rw [exec, execSetParam, live_of_live head.live, settles, settled.dispatch_run rfl]

end Command

/-- Settles O32: the operands name a parameter and a value in its range or are refused; the write is of that parameter. -/
theorem setParamWritesOneParameter : Obligations.SetParamWritesOneParameter := by
  intro s t f rest n id v i hi lo inRange head ht hid hv hr
  have known : 1 ≤ id → id ≤ 14 → isParam id = true ∧ (inRange ↔ paramInRange id v = true) :=
    fun low high => ⟨isParam_iff.mpr ⟨low, high⟩, hr.trans (paramInRange_iff low high).symm⟩
  subst ht
  refine ⟨fun unknown => ?_, fun low high outside => ?_, fun low five inside => ?_, fun six high inside => ?_⟩
  · have stranger : isParam id = false := by
      rw [Bool.eq_false_iff, Ne, isParam_iff]
      omega
    rw [exec_setParam head (setParam_unsettled head hid hv (by omega)) head, runSetParam_unknown hid stranger]
    rfl
  · obtain ⟨param, range⟩ := known low high
    have wrong : paramInRange id v = false := by rwa [Bool.eq_false_iff, Ne, ← range]
    rw [exec_setParam head (setParam_unsettled head hid hv (by simp [wrong])) head, runSetParam_known hid hv param, wrong]
    rfl
  · obtain ⟨param, range⟩ := known low (by omega)
    refine ⟨(s.took rest n).writeLineSetting id v, ?_, fun still => ?_, fun idle halted => ?_⟩
    · rw [exec_setParam head (setParam_unsettled head hid hv (by omega)) head, runSetParam_known hid hv param,
        range.mp inside]
      simp only [if_true, if_pos five]
    · rw [writeLineSetting_at_rest (s := s.took rest n) still]
      exact ⟨rfl, fun j => paramValue_setCurrent id v j _ _ low five⟩
    · rw [writeLineSetting_awake (s := s.took rest n) idle halted]
      by_cases held : paramPending s.dlc.pend id = none ∧ paramValue s.dlc.cur s.params id = v
      · rw [took_dlc, took_params, if_pos held]
        exact ⟨rfl, fun _ _ => rfl, fun differs => absurd held (by tauto)⟩
      · rw [took_dlc, took_params, if_neg held]
        exact ⟨rfl, fun unset same => absurd ⟨unset, same⟩ held, fun _ j => paramPending_setPending id v j _ low five⟩
  · obtain ⟨param, range⟩ := known (by omega) high
    obtain ⟨x, hx⟩ : ∃ x, x = if id = 9 ∧ v ≠ s.params.scanEnable then s.settleDues else s := ⟨_, rfl⟩
    obtain ⟨settles, ⟨m, settled⟩, dlc, params⟩ := setParam_settles head hid hv (range.mp inside) hx
    refine ⟨m, (x.took rest m).writeOwnParam id v, x, hx, settled.slot, ?_, ?_, fun j => ?_, ?_⟩
    · rw [exec_setParam head settles settled, runSetParam_known hid hv param, range.mp inside]
      simp only [if_true, if_neg (by omega : ¬id ≤ 5)]
    · exact writeOwnParam_frame id v _
    · rw [writeOwnParam_dlc, writeOwnParam_params, took_dlc, took_params, dlc, params]
      exact paramValue_setOwnParam id v j _ _ six high
    · rw [writeOwnParam_scan, took_params, took_scan, params]
      refine ⟨fun nine off on => if_pos ⟨nine, off, on⟩, fun seven off on => ?_, fun noStart noCount => ?_⟩
      · rw [if_neg (by omega), if_pos ⟨seven, off, on⟩]
      · rw [if_neg noStart, if_neg noCount]

end Sys2Proof.Machine
end

section
/-! ## The judgement of a response -/

namespace Sys2Proof.Machine

/-! ### The characters of a response (R35, R187) -/

/-- Byte `i` of a response as a number. -/
def responseByte (resp : List DropChar) (i : Nat) : Nat := ((resp.map DropChar.data).getD i 0#8).toNat

/-- The checks that every valid response passes (R44). -/
def GoodResponse (r : ExRecord) (toggle : Bool) (resp : List DropChar) : Prop :=
  4 ≤ resp.length ∧ resp.length ≤ 36 ∧ (resp.head?.map DropChar.mark) = some true ∧
    128 ≤ responseByte resp 0 ∧ responseByte resp 0 % 32 = r.node ∧ (∀ c ∈ resp, c.framing = false) ∧
    responseByte resp 1 % 2 = toggle.toNat ∧
    (resp.map DropChar.data).getLast? = some (crc8 (resp.map DropChar.data).dropLast)

/-- A good response with this status, count and number of characters (R35). -/
def ResponseForm (r : ExRecord) (toggle : Bool) (resp : List DropChar) (status count length : Nat) : Prop :=
  GoodResponse r toggle resp ∧ responseByte resp 1 / 16 = status ∧ responseByte resp 2 = count ∧ resp.length = length

/-- The payload characters of a valid OK response (R35). -/
def okPayload (step : Step) (r : ExRecord) : Nat := if (okForm step r).2 then (okForm step r).1 else 0

theorem direction_bit (b : Byte) : b.getLsbD 7 = true ↔ 128 ≤ b.toNat := by
  have top : b.getLsbD 7 = b.msb := (BitVec.msb_eq_getLsbD_last b).symm
  rw [top, BitVec.msb_eq_decide, decide_eq_true_eq]

theorem node_bits (b : Byte) : (b.extractLsb' 0 5).toNat = b.toNat % 32 := by
  rw [BitVec.extractLsb'_toNat, Nat.shiftRight_zero]

theorem echo_bit (b : Byte) (toggle : Bool) : b.getLsbD 0 = toggle ↔ b.toNat % 2 = toggle.toNat := by
  have low : b.getLsbD 0 = decide (b.toNat % 2 = 1) := Nat.testBit_zero b.toNat
  rw [low]
  cases toggle with
  | false => rw [decide_eq_false_iff_not, Bool.toNat_false, Nat.mod_two_not_eq_one]
  | true => rw [decide_eq_true_eq, Bool.toNat_true]

theorem status_bits (b : Byte) (status : Nat) (h : status < 16) :
    b.extractLsb' 4 4 = BitVec.ofNat 4 status ↔ b.toNat / 16 = status := by
  have := b.isLt
  rw [← BitVec.toNat_inj, BitVec.extractLsb'_toNat, BitVec.toNat_ofNat, Nat.shiftRight_eq_div_pow, Nat.mod_eq_of_lt h]
  omega

/-! ### The four judgements (R44) -/

section Judge
variable {step : Step} {r : ExRecord} {toggle : Bool} {resp : List DropChar}

theorem ResponseForm.status_eq {status status' count count' length length' : Nat}
    (h : ResponseForm r toggle resp status count length) (h' : ResponseForm r toggle resp status' count' length') :
    status = status' := by
  obtain ⟨-, rfl, -⟩ := h
  exact h'.2.1

/-- The checks of R44 that look at neither status nor count, as the model takes them. -/
def goodChecks (r : ExRecord) (toggle : Bool) (a st : DropChar) (resp : List DropChar) : Bool :=
  a.mark && a.data.getLsbD 7 && decide ((a.data.extractLsb' 0 5).toNat = r.node) && resp.all (fun c => !c.framing) &&
    decide (resp.length ≤ 36) &&
    decide ((resp.map DropChar.data).getLast? = some (crc8 (resp.map DropChar.data).dropLast)) &&
    (st.data.getLsbD 0 == toggle)

theorem judgeResponse_of_three (step : Step) (r : ExRecord) (toggle : Bool) (a st ct : DropChar) (rest : List DropChar)
    {resp : List DropChar} (hresp : resp = a :: st :: ct :: rest) : judgeResponse step r toggle resp =
      if goodChecks r toggle a st resp && st.data.extractLsb' 4 4 == 1#4 && decide (ct.data.toNat = (okForm step r).1) &&
          decide (resp.length = 4 + okPayload step r) then
        (.ok, if (okForm step r).2 then (rest.map DropChar.data).take (okForm step r).1 else [])
      else if goodChecks r toggle a st resp && st.data.extractLsb' 4 4 == 2#4 && decide (ct.data.toNat = 0) &&
          decide (resp.length = 4) then (.nodeBusy, [])
      else if goodChecks r toggle a st resp && st.data.extractLsb' 4 4 == 3#4 && decide (ct.data.toNat = 0) &&
          decide (resp.length = 4) then (.nodeRefused, [])
      else (.badResponse, []) := by
  subst hresp
  rfl

theorem goodChecks_iff {a st ct : DropChar} {rest : List DropChar} (hresp : resp = a :: st :: ct :: rest)
    (four : 4 ≤ resp.length) : goodChecks r toggle a st resp = true ↔ GoodResponse r toggle resp := by
  have head : resp.head?.map DropChar.mark = some true ↔ a.mark = true := by rw [hresp]; exact Option.some_inj
  have first : responseByte resp 0 = a.data.toNat := by rw [hresp]; rfl
  have second : responseByte resp 1 = st.data.toNat := by rw [hresp]; rfl
  have framed : resp.all (fun c => !c.framing) = true ↔ ∀ c ∈ resp, c.framing = false := by simp
  simp only [goodChecks, GoodResponse, head, first, second, Bool.and_eq_true, framed, decide_eq_true_eq, beq_iff_eq,
    direction_bit, node_bits, echo_bit]
  tauto

theorem responseForm_iff {a st ct : DropChar} {rest : List DropChar} (hresp : resp = a :: st :: ct :: rest)
    {status : Nat} (nibble : status < 16) (count extra : Nat) :
    (goodChecks r toggle a st resp && st.data.extractLsb' 4 4 == BitVec.ofNat 4 status && decide (ct.data.toNat = count) &&
      decide (resp.length = 4 + extra)) = true ↔ ResponseForm r toggle resp status count (4 + extra) := by
  have second : responseByte resp 1 = st.data.toNat := by rw [hresp]; rfl
  have third : responseByte resp 2 = ct.data.toNat := by rw [hresp]; rfl
  rw [ResponseForm, second, third, ← status_bits _ _ nibble]
  simp only [Bool.and_eq_true, beq_iff_eq, decide_eq_true_eq, and_assoc]
  constructor
  · rintro ⟨good, status, count, length⟩
    exact ⟨(goodChecks_iff hresp (by omega)).mp good, status, count, length⟩
  · rintro ⟨good, status, count, length⟩
    exact ⟨(goodChecks_iff hresp (by omega)).mpr good, status, count, length⟩

theorem judgeResponse_short (short : resp.length < 3) : judgeResponse step r toggle resp = (.badResponse, []) := by
  match resp, short with
  | [], _ => rfl
  | [_], _ => rfl
  | [_, _], _ => rfl

/-- The judgement is the first of the four that holds. -/
theorem judgeResponse_cases (step : Step) (r : ExRecord) (toggle : Bool) (resp : List DropChar) :
    (ResponseForm r toggle resp 1 (okForm step r).1 (4 + okPayload step r) ∧
      judgeResponse step r toggle resp =
        (.ok, ((resp.drop 3).take (okPayload step r)).map DropChar.data)) ∨
    (ResponseForm r toggle resp 2 0 4 ∧ judgeResponse step r toggle resp = (.nodeBusy, [])) ∨
    (ResponseForm r toggle resp 3 0 4 ∧ judgeResponse step r toggle resp = (.nodeRefused, [])) ∨
    (¬ResponseForm r toggle resp 1 (okForm step r).1 (4 + okPayload step r) ∧
      ¬ResponseForm r toggle resp 2 0 4 ∧ ¬ResponseForm r toggle resp 3 0 4 ∧
      judgeResponse step r toggle resp = (.badResponse, [])) := by
  by_cases short : resp.length < 3
  · have formless : ∀ status count length, ¬ResponseForm r toggle resp status count length :=
      fun _ _ _ h => absurd h.1.1 (by omega)
    exact .inr (.inr (.inr ⟨formless _ _ _, formless _ _ _, formless _ _ _, judgeResponse_short short⟩))
  · obtain ⟨a, st, ct, rest, hresp⟩ : ∃ a st ct rest, resp = a :: st :: ct :: rest := by
      match resp, short with
      | a :: st :: ct :: rest, _ => exact ⟨a, st, ct, rest, rfl⟩
      | [], h | [_], h | [_, _], h => exact absurd (by simp) h
    have form := fun status nibble => responseForm_iff (r := r) (toggle := toggle) (status := status) hresp nibble
    have data : (if (okForm step r).2 then (rest.map DropChar.data).take (okForm step r).1 else []) =
        ((resp.drop 3).take (okPayload step r)).map DropChar.data := by
      rw [hresp, List.map_take, okPayload]
      split <;> rfl
    rw [judgeResponse_of_three step r toggle a st ct rest hresp, data]
    split
    · next ok => exact .inl ⟨(form 1 (by decide) _ _).mp ok, rfl⟩
    · next ok =>
      split
      · next busy => exact .inr (.inl ⟨(form 2 (by decide) 0 0).mp busy, rfl⟩)
      · next busy =>
        split
        · next refused => exact .inr (.inr (.inl ⟨(form 3 (by decide) 0 0).mp refused, rfl⟩))
        · next refused =>
          exact .inr (.inr (.inr ⟨mt (form 1 (by decide) _ _).mpr ok, mt (form 2 (by decide) 0 0).mpr busy,
            mt (form 3 (by decide) 0 0).mpr refused, rfl⟩))

theorem judgeResponse_ok_iff : (judgeResponse step r toggle resp).1 = .ok ↔
    ResponseForm r toggle resp 1 (okForm step r).1 (4 + okPayload step r) := by
  obtain ⟨ok, e⟩ | ⟨busy, e⟩ | ⟨refused, e⟩ | ⟨bad, -, -, e⟩ := judgeResponse_cases step r toggle resp <;> rw [e]
  · exact iff_of_true rfl ok
  · exact iff_of_false nofun fun ok => absurd (busy.status_eq ok) (by decide)
  · exact iff_of_false nofun fun ok => absurd (refused.status_eq ok) (by decide)
  · exact iff_of_false nofun bad

theorem judgeResponse_busy_iff : (judgeResponse step r toggle resp).1 = .nodeBusy ↔ ResponseForm r toggle resp 2 0 4 := by
  obtain ⟨ok, e⟩ | ⟨busy, e⟩ | ⟨refused, e⟩ | ⟨-, bad, -, e⟩ := judgeResponse_cases step r toggle resp <;> rw [e]
  · exact iff_of_false nofun fun busy => absurd (ok.status_eq busy) (by decide)
  · exact iff_of_true rfl busy
  · exact iff_of_false nofun fun busy => absurd (refused.status_eq busy) (by decide)
  · exact iff_of_false nofun bad

theorem judgeResponse_refused_iff :
    (judgeResponse step r toggle resp).1 = .nodeRefused ↔ ResponseForm r toggle resp 3 0 4 := by
  obtain ⟨ok, e⟩ | ⟨busy, e⟩ | ⟨refused, e⟩ | ⟨-, -, bad, e⟩ := judgeResponse_cases step r toggle resp <;> rw [e]
  · exact iff_of_false nofun fun refused => absurd (ok.status_eq refused) (by decide)
  · exact iff_of_false nofun fun refused => absurd (busy.status_eq refused) (by decide)
  · exact iff_of_true rfl refused
  · exact iff_of_false nofun bad

theorem judgeResponse_mem :
    (judgeResponse step r toggle resp).1 ∈ [OutcomeCode.ok, .nodeBusy, .nodeRefused, .badResponse] := by
  obtain ⟨-, e⟩ | ⟨-, e⟩ | ⟨-, e⟩ | ⟨-, -, -, e⟩ := judgeResponse_cases step r toggle resp <;> simp [e]

/-- The data of an OK response are its payload (R44). -/
theorem judgeResponse_data (ok : (judgeResponse step r toggle resp).1 = .ok) :
    (judgeResponse step r toggle resp).2 = ((resp.drop 3).take (okPayload step r)).map DropChar.data := by
  obtain ⟨-, e⟩ | ⟨-, e⟩ | ⟨-, e⟩ | ⟨-, -, -, e⟩ := judgeResponse_cases step r toggle resp
  · rw [e]
  all_goals rw [e] at ok; cases ok

theorem judgeResponse_no_data (bare : okPayload step r = 0) : (judgeResponse step r toggle resp).2 = [] := by
  obtain ⟨-, e⟩ | ⟨-, e⟩ | ⟨-, e⟩ | ⟨-, -, -, e⟩ := judgeResponse_cases step r toggle resp <;> rw [e]
  rw [bare]
  rfl

/-- A response of 37 characters is too long to be valid (R43, R44). -/
theorem judgeResponse_too_long (long : 36 < resp.length) : judgeResponse step r toggle resp = (.badResponse, []) := by
  have formless : ∀ status count length, ¬ResponseForm r toggle resp status count length :=
    fun _ _ _ h => absurd h.1.2.1 (by omega)
  obtain ⟨ok, -⟩ | ⟨busy, -⟩ | ⟨refused, -⟩ | ⟨-, -, -, e⟩ := judgeResponse_cases step r toggle resp
  · exact absurd ok (formless _ _ _)
  · exact absurd busy (formless _ _ _)
  · exact absurd refused (formless _ _ _)
  · exact e

/-! ### The form of an OK response (R35) -/

theorem okForm_of_read {n : Nat} (h : r.readCount = some n) : okForm .main r = (n, true) := by
  cases r with
  | controller c =>
    cases fn : c.fn with
    | read m =>
      simp only [ExRecord.readCount, fn, Option.some.injEq] at h
      simp only [okForm, fn, h]
    | write d | bwrite d => simp [ExRecord.readCount, fn] at h
  | scan c => exact congrArg (·, true) (Option.some.inj h)
  | probe m => cases h

theorem okForm_of_write {c : CtlRecord} {d : List Byte} (h : c.fn = .write d ∨ c.fn = .bwrite d) :
    okForm .main (.controller c) = (d.length, false) := by
  rcases h with h | h <;> simp only [okForm, h]

theorem okForm_of_sync (h : step = .sync ∨ r.isProbe = true) : okForm step r = (0, false) := by
  cases step with
  | sync => rfl
  | main =>
    cases r with
    | probe n => rfl
    | controller c | scan c => exact h.elim nofun nofun

end Judge

/-- Settles O47: the four judgements by their forms, and the form of an OK response by step and function. -/
theorem responsesAreJudgedByEveryCheck : Obligations.ResponsesAreJudgedByEveryCheck := by
  intro step r toggle resp good byte form hbyte hgood hform
  obtain rfl : byte = responseByte resp := funext hbyte
  have forms : ∀ status count length, form status count length ↔ ResponseForm r toggle resp status count length :=
    fun status count length => (hform status count length).trans (and_congr_left fun _ => hgood)
  simp only [forms]
  refine ⟨fun n main read => ?_, fun c d main controller write => ?_, fun silent => ?_, judgeResponse_busy_iff,
    judgeResponse_refused_iff, judgeResponse_mem⟩
  · subst main
    have form := okForm_of_read read
    have payload : okPayload .main r = n := by rw [okPayload, form]; rfl
    have ok := judgeResponse_ok_iff (step := .main) (r := r) (toggle := toggle) (resp := resp)
    rw [form, payload, Nat.add_comm 4 n] at ok
    exact ⟨ok, fun h => by rw [judgeResponse_data (ok.mpr h), payload]⟩
  · subst main controller
    have form := okForm_of_write write
    have payload : okPayload .main (.controller c) = 0 := by rw [okPayload, form]; rfl
    exact ⟨by rw [judgeResponse_ok_iff, form, payload], judgeResponse_no_data payload⟩
  · have form := okForm_of_sync silent
    have payload : okPayload step r = 0 := by rw [okPayload, form]; rfl
    exact ⟨by rw [judgeResponse_ok_iff, form, payload], judgeResponse_no_data payload⟩

end Sys2Proof.Machine
end

section
/-! ## The attempt on the line: its read-back, its response, its end, and the GUARD after it -/

namespace Sys2Proof.Machine

/-! ### The read-back (R39 to R41) -/

section ReadBack
variable {s : State} {x : Exchange}

theorem transmitting_eq_none (h : s.dlc.state ≠ .transmit ∨ s.dlc.stopping = true ∨ s.dlc.inflight = none) :
    s.transmitting = none := by
  rw [Option.eq_none_iff_forall_ne_some]
  intro x sending
  obtain ⟨transmit, whole, flying⟩ := transmitting_eq_some.mp sending
  rcases h with h | h | h
  · exact h transmit
  · rw [whole] at h; cases h
  · rw [flying] at h; cases h

theorem exec_readBackComplete_unsent (live : s.inReset = false) (unsent : s.transmitting = none) :
    exec .readBackComplete s = .next s := by
  rw [exec, execReadBackComplete, live_of_live live, unsent]

theorem exec_lineContention_unsent (live : s.inReset = false) (unsent : s.transmitting = none) (k : Nat)
    (rb : DropChar) : exec (.lineContention k rb) s = .next s := by
  rw [exec, execLineContention, live_of_live live, unsent]

theorem exec_lineFault_unsent (live : s.inReset = false) (unsent : s.transmitting = none) :
    exec .lineFault s = .next s := by
  rw [exec, execLineFault, live_of_live live, unsent]

/-- A SYNC request read back whole is counted (R39). -/
theorem syncs_counted (x : Exchange) (s : State) : (if x.step = .sync then s.bump .syncs else s) = { s with
    counters := if x.step = .sync then vset s.counters 13 (saturate (s.counter .syncs)) else s.counters } := by
  split <;> rfl

theorem exec_readBackComplete (live : s.inReset = false) (sending : s.transmitting = some x) :
    exec .readBackComplete s = .next (if x.record.isBwrite then
      { s with
        counters := if x.step = .sync then vset s.counters 13 (saturate (s.counter .syncs)) else s.counters
        dlc := { s.dlc with
          state := .guard, interval := s.dlc.cur.tBcast, inflight := some { x with broadcastDone := true } } }
      else { s with
        counters := if x.step = .sync then vset s.counters 13 (saturate (s.counter .syncs)) else s.counters
        dlc := { s.dlc with state := .await, interval := s.dlc.cur.tResp } }) := by
  rw [exec, execReadBackComplete, live_of_live live, sending]
  dsimp only
  rw [syncs_counted]
  rfl

/-- A read-back differs when the request has its character and it is another one (R40). -/
theorem mismatch_iff {k : Nat} {rb : DropChar} :
    x.mismatch k rb = true ↔ ∃ sent, x.request[k]? = some sent ∧ sent ≠ rb := by
  unfold Exchange.mismatch
  split
  · next c hc =>
    rw [decide_eq_true_eq, hc]
    constructor
    · exact fun other => ⟨c, rfl, other.symm⟩
    · rintro ⟨_, ⟨⟩, other⟩
      exact other.symm
  · next beyond => simp [beyond]

theorem exec_lineContention (live : s.inReset = false) (sending : s.transmitting = some x) (k : Nat) (rb : DropChar) :
    exec (.lineContention k rb) s = .next (if x.mismatch k rb then
      ((s.bump .contention).latch .dropContention).endAttempt x .lineContention [] else s) := by
  rw [exec, execLineContention, live_of_live live, sending]

theorem exec_lineFault (live : s.inReset = false) (sending : s.transmitting = some x) :
    exec .lineFault s =
      .next ((s.latch .dropLineDead).complete { x with lastOutcome := some .lineFault } (some .lineFault) []).enterHalted := by
  rw [exec, execLineFault, live_of_live live, sending, ← noted_of_not_bad x .lineFault (by decide) (by decide)]

end ReadBack

/-- Settles O44: what is being sent decides whether a read-back acts, and the record and the character how. -/
theorem readBackDecidesTheAttempt : Obligations.ReadBackDecidesTheAttempt := by
  refine ⟨fun s t live => ⟨fun unsent => exec_readBackComplete_unsent live (transmitting_eq_none unsent), ?_⟩,
    fun s u k rb live => ⟨fun unsent => ?_, ?_⟩⟩
  · intro x transmit whole flying ht
    have sending : s.transmitting = some x := transmitting_eq_some.mpr ⟨transmit, whole, flying⟩
    rw [exec_readBackComplete live sending, ht]
    exact ⟨fun addressed => by rw [addressed]; rfl, fun broadcast => by rw [broadcast]; rfl⟩
  · have idle := transmitting_eq_none unsent
    exact ⟨exec_lineContention_unsent live idle k rb, exec_lineFault_unsent live idle⟩
  · intro x transmit whole flying
    have sending : s.transmitting = some x := transmitting_eq_some.mpr ⟨transmit, whole, flying⟩
    rw [exec_lineContention live sending, exec_lineFault live sending]
    refine ⟨fun same => ?_, fun sent hsent other => ?_, fun hu => ?_⟩
    · rw [if_neg fun h => ?_]
      obtain ⟨sent, hsent, other⟩ := mismatch_iff.mp h
      rcases same with same | same
      · rw [hsent] at same; cases same
      · exact other (Option.some.inj (hsent.symm.trans same))
    · rw [if_pos (mismatch_iff.mpr ⟨sent, hsent, other⟩)]
    · have settings : u.dlc = { s.dlc with inflight := none } := by rw [hu, complete_dlc]; rfl
      rw [← hu, State.enterHalted, settings]

/-! ### Received characters (R42, R43, R46) -/

section Receive
variable {s : State} {x : Exchange} {c : DropChar}

/-- Whichever command brings a character, the DLC receives it (log entry 6). -/
theorem exec_received {e : Instr} (live : s.inReset = false)
    (he : e = .responseCharacter c ∨ e = .strayCharacter c ∨ c.mark = true ∧ e = .responseStart c.data c.framing) :
    exec e s = .next (s.receiveChar c) := by
  rcases he with rfl | rfl | ⟨mark, rfl⟩
  · rw [exec, execResponseCharacter, live_of_live live]
  · rw [exec, execStrayCharacter, live_of_live live]
  · rw [exec, execResponseStart, live_of_live live, ← mark]

theorem receiveChar_in_transmit (h : s.dlc.state = .transmit) : s.receiveChar c = s := by
  rw [State.receiveChar, h]

theorem receiveChar_in_await (h : s.dlc.state = .await) (hx : s.dlc.inflight = some x) (mark : c.mark = true) :
    s.receiveChar c = { s with dlc := {
      s.dlc with state := .receive, interval := s.dlc.cur.tGap, inflight := some { x with response := [c] } } } := by
  rw [State.receiveChar, h]
  dsimp only
  rw [if_pos mark, hx]

theorem receiveChar_in_receive (h : s.dlc.state = .receive) (hx : s.dlc.inflight = some x) : s.receiveChar c =
    if 36 ≤ x.response.length then s.endResponse { x with response := x.response ++ [c] }
    else { s with dlc := { s.dlc with inflight := some { x with response := x.response ++ [c] } } } := by
  rw [State.receiveChar, h]
  dsimp only
  rw [hx]
  simp only [List.length_append, List.length_singleton, Nat.reduceLeDiff]
  rfl

theorem receiveChar_stray (h : s.dlc.state = .idle ∨ s.dlc.state = .guard ∨ s.dlc.state = .halted ∨
    s.dlc.state = .await ∧ c.mark = false) : s.receiveChar c = s.stray := by
  rcases h with h | h | h | ⟨h, mark⟩
  · rw [State.receiveChar, h]
  · rw [State.receiveChar, h]
  · rw [State.receiveChar, h]
  · rw [State.receiveChar, h]
    exact if_neg (by simp [mark])

end Receive

/-- Settles O45: the DLC's state decides what becomes of a character, and which of the two ends acts. -/
theorem responsesAreCollectedToTheirEnd : Obligations.ResponsesAreCollectedToTheirEnd := by
  intro s x live hx
  refine ⟨fun e c he => ?_, fun await => ?_, fun other => ?_, fun o data receive judged => ?_, fun other => ?_⟩
  · rw [exec_received live he]
    refine ⟨fun transmit => by rw [receiveChar_in_transmit transmit],
      fun await mark => by rw [receiveChar_in_await await hx mark], fun receive room => ?_, fun receive full => ?_⟩
    · rw [receiveChar_in_receive receive hx, if_neg (Nat.not_le.mpr room)]
    · have long : 36 < (x.response ++ [c]).length := by
        rw [List.length_append, List.length_singleton]
        omega
      rw [receiveChar_in_receive receive hx, if_pos full, State.endResponse]
      dsimp only
      rw [judgeResponse_too_long long]
  · rw [exec, execNoResponse, live_of_live live, await, hx]
  · rw [exec, execNoResponse, live_of_live live]
    split
    · contradiction
    · rfl
  · rw [exec, execResponseEnd, live_of_live live, receive, hx]
    dsimp only
    rw [State.endResponse, judged]
  · rw [exec, execResponseEnd, live_of_live live]
    split
    · contradiction
    · rfl

/-! ### Stray characters (R46) -/

theorem latched_latch (k j : FaultKind) (s : State) : (s.latch k).latched j = (s.latched j || decide (j = k)) := by
  have bit : k.bit.getLsbD j.code = decide (j = k) := by cases k <;> cases j <;> decide
  rw [State.latched, latch_faults, BitVec.getLsbD_or, bit]
  rfl

theorem latch_notice (k : FaultKind) (s : State) : (s.latch k).notice =
    if s.latched k then s.notice else { s.notice with faults := s.notice.faults ||| k.bit } := rfl

/-- Settles O46: the counter, the fault and its item, each by its own rule. -/
theorem strayCharactersAreCountedAndLatched : Obligations.StrayCharactersAreCountedAndLatched := by
  intro s e c live he discarded
  refine ⟨s.stray, by rw [exec_received live he, receiveChar_stray discarded], rfl, ?_, fun k other => ?_,
    fun k => latched_latch .strayTraffic k (s.bump .strayBytes), fun latched => ?_, fun clear => ?_⟩
  · have counted := counter_bump .strayBytes .strayBytes s
    rw [if_pos rfl] at counted
    exact (congrArg BitVec.toNat counted).trans (saturate_toNat _)
  · have kept := counter_bump .strayBytes k s
    rwa [if_neg (Ne.symm other)] at kept
  · exact (latch_notice .strayTraffic (s.bump .strayBytes)).trans (if_pos latched)
  · have unlatched : ¬(s.bump .strayBytes).latched .strayTraffic = true := Bool.eq_false_iff.mp clear
    exact (latch_notice .strayTraffic (s.bump .strayBytes)).trans (if_neg unlatched)

/-! ### The end of an attempt (R45, R50) -/

section Ended
variable {s : State} {x : Exchange} {o : OutcomeCode}

theorem sentInStep_lt_allowed_iff : x.sentInStep < x.allowed ↔
    x.step = .sync ∧ x.syncSent < 2 ∨ x.step = .main ∧ x.mainSent < x.record.retry + 1 := by
  unfold Exchange.sentInStep Exchange.allowed
  cases x.step <;> simp

/-- When another attempt or step follows an outcome (R45). -/
theorem follows_iff : x.follows o = true ↔
    o = .ok ∧ x.step = .sync ∧ x.record.isProbe = false ∨
      (o = .noResponse ∨ o = .badResponse ∨ o = .lineContention) ∧
        (x.step = .sync ∧ x.syncSent < 2 ∨ x.step = .main ∧ x.mainSent < x.record.retry + 1) := by
  rw [← sentInStep_lt_allowed_iff]
  cases o with
  | ok => simp [Exchange.follows]
  | noResponse | badResponse | lineContention => simp [Exchange.follows]
  | nodeBusy | nodeRefused | lineFault | sent | noRoute | accessDenied | nodeOffline | queueFull | tagInUse | payloadError
  | expired | cancelled | guarded => simp [Exchange.follows]

theorem withdrawn_iff : s.withdrawn x = true ↔
    x.record.cancelMark = true ∨ s.dlc.haltReq = true ∨ s.dlc.sessionLost = true := by
  simp [State.withdrawn, or_assoc]

/-- The outcome of a withdrawn exchange (R50), its conditions in their order. -/
theorem withdrawnOutcome_eq (x : Exchange) : x.withdrawnOutcome =
    if 1 ≤ x.mainSent then x.lastOutcome
    else if x.record.cancelMark then some .cancelled
    else if x.lastOutcome ≠ some .ok then x.lastOutcome
    else if x.record.isController then some .cancelled else none := by
  unfold Exchange.withdrawnOutcome
  simp only [Nat.one_le_iff_ne_zero]
  refine if_congr Iff.rfl rfl (if_congr Iff.rfl rfl ?_)
  by_cases ok : x.lastOutcome = some .ok <;> simp [ok]

@[simp] theorem noted_lastOutcome (x : Exchange) (o : OutcomeCode) : (x.noted o).lastOutcome = some o := rfl

@[simp] theorem noted_mainSent (x : Exchange) (o : OutcomeCode) : (x.noted o).mainSent = x.mainSent := rfl

/-- The GUARD of T_GUARD after the decision (R40, R42, R43). -/
theorem endAttempt_eq (x : Exchange) (o : OutcomeCode) (data : List Byte) (s : State) :
    s.endAttempt x o data = { s.recordAttempt x o data with
      dlc := { (s.recordAttempt x o data).dlc with state := .guard, interval := s.dlc.cur.tGuard } } := rfl

end Ended

/-- Settles O48: the outcome decides whether the exchange goes on, and a withdrawal what it completes with. -/
theorem attemptsAreRetriedOrWithdrawn : Obligations.AttemptsAreRetriedOrWithdrawn := by
  intro s x y o data follows withdrawn hy hfollows hwithdrawn
  rw [← noted_eq] at hy
  subst hy
  rw [← follows_iff] at hfollows
  have drawn : withdrawn ↔ s.withdrawn (x.noted o) = true := hwithdrawn.trans withdrawn_iff.symm
  have completes : follows → withdrawn →
      s.recordAttempt x o data = s.complete (x.noted o) (x.noted o).withdrawnOutcome [] :=
    fun on out => recordAttempt_withdrawn x o data s (hfollows.mp on) (drawn.mp out)
  have unsent : x.mainSent = 0 → ¬1 ≤ x.mainSent := by omega
  refine ⟨s.recordAttempt x o data, endAttempt_eq x o data s, fun ends => ?_, fun on stays => ?_, fun on out sent => ?_,
    fun on out early marked => ?_, fun on out early unmarked failed => ?_, fun on out early unmarked ok => ?_⟩
  · exact recordAttempt_ends x o data s (Bool.eq_false_iff.mpr (mt hfollows.mpr ends))
  · exact recordAttempt_goes_on x o data s (hfollows.mp on) (Bool.eq_false_iff.mpr (mt drawn.mpr stays))
  · rw [completes on out, withdrawnOutcome_eq, noted_mainSent, if_pos sent, noted_lastOutcome]
  · rw [completes on out, withdrawnOutcome_eq, noted_mainSent, if_neg (unsent early), noted_record, if_pos marked]
  · rw [completes on out, withdrawnOutcome_eq, noted_mainSent, if_neg (unsent early), noted_record, unmarked,
      if_neg Bool.false_ne_true, noted_lastOutcome, if_pos (mt Option.some.inj failed)]
  · rw [completes on out, withdrawnOutcome_eq, noted_mainSent, if_neg (unsent early), noted_record, unmarked,
      if_neg Bool.false_ne_true, noted_lastOutcome, ok, if_neg (not_not_intro rfl)]

/-! ### GUARD (R47) -/

section Guard
variable {s : State} {x : Exchange}

theorem leaveGuard_eq (s : State) : s.leaveGuard = { s with dlc := {
    s.dlc with
    state := if s.dlc.haltReq then .halted else .idle, interval := 0, haltReq := false
    cur := applyPending s.dlc.cur s.dlc.pend, pend := {} } } := by
  unfold State.leaveGuard
  split
  · rfl
  · next unasked =>
    have clear : s.dlc.haltReq = false := by simpa using unasked
    rw [← clear]
    rfl

theorem exec_guardEnd (live : s.inReset = false) (guard : s.dlc.state = .guard) :
    exec .guardEnd s = .next s.endGuard := by
  rw [exec, execGuardEnd, live_of_live live, if_pos guard]

theorem endGuard_of_none (vacant : s.dlc.inflight = none) : s.endGuard = s.leaveGuard := by
  rw [State.endGuard, vacant]

/-- GUARD with an exchange in flight: a BWRITE that is sent, a withdrawal, or the next attempt or step (R47, R48, R50). -/
theorem endGuard_of_some (hx : s.dlc.inflight = some x) : s.endGuard =
    if x.broadcastDone then (s.complete { x with lastOutcome := some .sent } (some .sent) []).leaveGuard
    else if s.withdrawn x then (s.complete x x.withdrawnOutcome []).leaveGuard else s.continueExchange x := by
  rw [State.endGuard, hx, ← noted_of_not_bad x .sent (by decide) (by decide)]

theorem mainToggle_eq (s : State) (x : Exchange) : s.mainToggle x =
    if x.record.node = 0 ∨ x.hasSync = true then false else (s.node x.record.node).nextToggle := by
  unfold State.mainToggle
  exact if_congr (by simp) rfl rfl

/-- After a SYNC step that succeeded the MAIN step begins (R38, R47). -/
theorem continueExchange_of_synced (sync : x.step = .sync) (ok : x.lastOutcome = some .ok) :
    s.continueExchange x = s.beginAttempt (s.mainStep x) :=
  if_pos ⟨sync, ok⟩

theorem continueExchange_of_retry (h : ¬(x.step = .sync ∧ x.lastOutcome = some .ok)) :
    s.continueExchange x = s.beginAttempt x :=
  if_neg h

theorem exec_resetCharacterFinished (live : s.inReset = false) : exec .resetCharacterFinished s = .next
    (if s.dlc.state = .transmit ∧ s.dlc.stopping = true then
      { s with dlc := { s.dlc with state := .guard, interval := s.dlc.cur.tGuard, stopping := false } } else s) := by
  rw [exec, execResetCharacterFinished, live_of_live live]
  rfl

end Guard

/-- Settles O49: what is in flight when GUARD ends decides, in R47's order. -/
theorem guardEndsInTheNextAttemptOrAtRest : Obligations.GuardEndsInTheNextAttemptOrAtRest := by
  intro s atRest live hrest
  have rests : ∀ u : State, atRest u = u.leaveGuard := fun u => (hrest u).trans (leaveGuard_eq u).symm
  refine ⟨fun other => ?_, fun guard vacant => ?_, fun x withdrawn guard hx hw => ?_, fun transmit cut => ?_,
    fun other => ?_⟩
  · rw [exec, execGuardEnd, live_of_live live, if_neg other]
  · rw [exec_guardEnd live guard, endGuard_of_none vacant, rests]
  · rw [← withdrawn_iff] at hw
    rw [exec_guardEnd live guard, endGuard_of_some hx]
    refine ⟨fun sent => ?_, fun unsent out => ?_, fun unsent stays sync ok => ?_, fun unsent stays unsynced retry => ?_⟩
    · rw [if_pos sent, rests]
    · rw [if_neg (Bool.eq_false_iff.mp unsent), if_pos (hw.mp out), rests, withdrawnOutcome_eq]
    · rw [if_neg (Bool.eq_false_iff.mp unsent), if_neg (mt hw.mpr stays), continueExchange_of_synced sync ok,
        beginAttempt_eq, State.mainStep, mainToggle_eq]
      rfl
    · have again : x.sentInStep ≠ 0 := by
        unfold Exchange.sentInStep
        cases step : x.step <;> simp [step] at retry <;> dsimp only <;> omega
      rw [if_neg (Bool.eq_false_iff.mp unsent), if_neg (mt hw.mpr stays), continueExchange_of_retry unsynced,
        beginAttempt_eq, if_neg again]
  · rw [exec_resetCharacterFinished live, if_pos ⟨transmit, cut⟩]
  · have whole : ¬(s.dlc.state = .transmit ∧ s.dlc.stopping = true) := by
      rintro ⟨transmit, cut⟩
      exact other.elim (· transmit) (by simp [cut])
    rw [exec_resetCharacterFinished live, if_neg whole]

end Sys2Proof.Machine
end

section
/-! ## What a step can do to the parameters, the counts and the node records

The laws of the ranges and of the node records read a few registers alone. Each operation is described once by what it
writes to them, and each command by the changes it can make; the laws follow by cases on the changes. -/

namespace Sys2Proof.Machine

/-! ### The registers and their changes -/

/-- The registers that the laws of the ranges and of the node records read. -/
structure Registers where
  params : Params := {}
  cur : LineSettings := {}
  pend : PendingSettings := {}
  position : Nat := 0
  streak : Nat := 0
  holdoff : Nat := 255
  reviveCursor : Nat := 0
  reviveCount : Nat := 0
  nodes : Vector NodeRecord 31 := Vector.replicate 31 {}

def State.registers (s : State) : Registers where
  params := s.params
  cur := s.dlc.cur
  pend := s.dlc.pend
  position := s.position
  streak := s.streak
  holdoff := s.notice.holdoff
  reviveCursor := s.scan.reviveCursor
  reviveCount := s.scan.reviveCount
  nodes := s.nodes

/-- The changes of the registers that the events of the bridge are made of. -/
inductive Change : Registers → Registers → Prop where
  | same (r) : Change r r
  | trans {a b c} : Change a b → Change b c → Change a c
  /-- R161 -/
  | hardReset (r) : Change r {}
  /-- R102, R119, R132, R180: level FULL of a soft reset, but for the line settings. -/
  | fullReset (r) : Change r { r with
      params := {}, holdoff := 255, reviveCursor := 0, reviveCount := 0, nodes := Vector.replicate 31 {} }
  /-- R57: the line settings at level FULL, in IDLE. -/
  | settingsReset (r) : Change r { r with cur := {}, pend := {} }
  /-- R57: the line settings at level FULL, in another state. -/
  | settingsResetLater (r) : Change r { r with pend := pendingDefaults }
  /-- R56 -/
  | settingsApplied (r) : Change r { r with cur := applyPending r.cur r.pend, pend := {} }
  /-- R56, R169 -/
  | settingWritten (r id v) (low : 1 ≤ id) (high : id ≤ 5) (inRange : paramInRange id v = true) :
      Change r { r with cur := setCurrent id v r.cur }
  /-- R56, R169 -/
  | settingPended (r id v) (low : 1 ≤ id) (high : id ≤ 5) (inRange : paramInRange id v = true) :
      Change r { r with pend := setPending id v r.pend }
  /-- R169 -/
  | paramWritten (r id v) (low : 6 ≤ id) (high : id ≤ 14) (inRange : paramInRange id v = true) :
      Change r { r with params := setOwnParam id v r.params }
  /-- R156 -/
  | enumerated (r c) : Change r { r with position := positionAfter c }
  /-- R129: a through frame while the streak count is below THROUGH_WEIGHT. -/
  | streakRaised (r) (below : r.streak < r.params.throughWeight) : Change r { r with streak := r.streak + 1 }
  /-- R129, R159 -/
  | streakCleared (r) : Change r { r with streak := 0 }
  /-- R132 -/
  | holdoffRaised (r) : Change r { r with holdoff := min (r.holdoff + 1) 255 }
  /-- R132 -/
  | holdoffCleared (r) : Change r { r with holdoff := 0 }
  /-- R66 -/
  | cursorMoved (r n) (high : n ≤ 31) : Change r { r with reviveCursor := n }
  /-- R65: a tick that is no revival point. -/
  | reviveCounted (r) (below : r.reviveCount + 1 < r.params.reviveInterval) :
      Change r { r with reviveCount := r.reviveCount + 1 }
  /-- R65 -/
  | reviveCountCleared (r) : Change r { r with reviveCount := 0 }
  /-- R68 -/
  | nodeReset (r i) : Change r { r with nodes := vset r.nodes i {} }
  /-- R71 -/
  | nodeDistrusted (r i) : Change r { r with nodes := vset r.nodes i { vget r.nodes i {} with sync := .needsSync } }
  /-- R52, R60 to R63: the verdict of an exchange. -/
  | nodeJudged (r i) (x : Exchange) (last) : Change r { r with
      nodes := vset r.nodes i
        { (vget r.nodes i {}).apply r.params.offlineThreshold x.carried x.verdict with lastOutcome := last } }

theorem Change.of_eq {a b : Registers} (h : b = a) : Change a b := h ▸ .same a

/-- An operation that leaves the registers alone, after a change. -/
theorem Change.then_same {a b c : Registers} (h : Change a b) (same : c = b) : Change a c := same ▸ h

/-! ### The operations that leave them alone -/

theorem foldl_registers {α : Type} {f : State → α → State} (h : ∀ s a, (f s a).registers = s.registers) (l : List α)
    (s : State) : (l.foldl f s).registers = s.registers := by
  induction l generalizing s with
  | nil => rfl
  | cons a l ih => exact (ih _).trans (h s a)

@[simp] theorem bump_registers (c : Counter) (s : State) : (s.bump c).registers = s.registers := rfl

@[simp] theorem latch_registers (k : FaultKind) (s : State) : (s.latch k).registers = s.registers := by
  cases held : s.latched k <;> simp [State.registers, State.latch, held]

@[simp] theorem judgeU_registers (s : State) : s.judgeU.registers = s.registers := rfl

@[simp] theorem judgeD_registers (s : State) : s.judgeD.registers = s.registers := rfl

@[simp] theorem setPort_registers (p : PortId) (q : Port) (s : State) : (s.setPort p q).registers = s.registers := by
  cases p <;> rfl

@[simp] theorem setBank_registers (i : BankId) (b : Bank) (s : State) : (s.setBank i b).registers = s.registers := by
  cases i <;> rfl

@[simp] theorem noticeLink_registers (p : PortId) (l : LinkState) (s : State) :
    (s.noticeLink p l).registers = s.registers := by cases p <;> rfl

@[simp] theorem unreachableFrame_registers (p : BitVec 6) (s : State) :
    (s.unreachableFrame p).registers = s.registers := rfl

@[simp] theorem enqueue_registers (r : ExRecord) (s : State) : (s.enqueue r).registers = s.registers := rfl

@[simp] theorem reserveSlot_registers (n : Nat) (h : Holder) (s : State) :
    (s.reserveSlot n h).registers = s.registers := rfl

@[simp] theorem fillSlot_registers (n : Nat) (f : Frame) (s : State) : (s.fillSlot n f).registers = s.registers := rfl

@[simp] theorem freeSlot_registers (n : Nat) (s : State) : (s.freeSlot n).registers = s.registers := by
  simp [State.registers]

@[simp] theorem answer_registers (slot : Option Nat) (f : Frame) (s : State) :
    (s.answer slot f).registers = s.registers := by simp [State.registers]

@[simp] theorem releaseReply_registers (slot : Option Nat) (s : State) :
    (s.releaseReply slot).registers = s.registers := by simp [State.registers]

@[simp] theorem fillLowest_registers (f : Frame) (s : State) : (s.fillLowest f).registers = s.registers := by
  simp [State.registers]

@[simp] theorem setScanRecord_registers (i : Nat) (r : ScanState) (s : State) :
    (s.setScanRecord i r).registers = s.registers := rfl

@[simp] theorem dropRetired_registers (s : State) : s.dropRetired.registers = s.registers := rfl

@[simp] theorem startScanTime_registers (s : State) : s.startScanTime.registers = s.registers := rfl

@[simp] theorem clearScanRecords_registers (s : State) : s.clearScanRecords.registers = s.registers := rfl

@[simp] theorem setInflight_registers (x : Option Exchange) (s : State) : (s.setInflight x).registers = s.registers := rfl

@[simp] theorem enterGuard_registers (n : Nat) (s : State) : (s.enterGuard n).registers = s.registers := rfl

@[simp] theorem took_registers (rest : List Frame) (n : Nat) (s : State) : (s.took rest n).registers = s.registers := rfl

@[simp] theorem answered_registers (f : Frame) (n : Nat) (c : AckCode) (p : List Byte) (s : State) :
    (s.answered f n c p).registers = s.registers := by simp [State.registers]

@[simp] theorem idleStep_registers (s : State) : s.idleStep.registers = s.registers := by simp [State.registers]

/-! Dues and expiry -/

@[simp] theorem judgeDue_registers (i : Nat) (s : State) : (s.judgeDue i).registers = s.registers := by
  simp [State.registers]

@[simp] theorem settleDues_registers (s : State) : s.settleDues.registers = s.registers := by simp [State.registers]

@[simp] theorem nextDue_registers (s : State) : s.nextDue.registers = s.registers := by
  unfold State.nextDue
  split
  · rfl
  · exact judgeDue_registers _ _

@[simp] theorem takeExpired_registers (s : State) : s.takeExpired.registers = s.registers := by simp [State.registers]

@[simp] theorem settleBefore_registers (want : Frame → Bool) (s : State) :
    (s.settleBefore want).registers = s.registers := by
  unfold State.settleBefore
  split
  · rfl
  · split
    · exact settleDues_registers s
    · rfl

/-! Links and frames -/

@[simp] theorem overflow_registers (s : State) : s.overflow.registers = s.registers := by simp [State.overflow]

@[simp] theorem placeOtq_registers (f : Frame) (s : State) : (s.placeOtq f).registers = s.registers := by
  unfold State.placeOtq
  split
  · rfl
  · exact overflow_registers s

@[simp] theorem placeHtq_registers (f : Frame) (s : State) : (s.placeHtq f).registers = s.registers := by
  unfold State.placeHtq
  split
  · rfl
  · exact overflow_registers s

@[simp] theorem placeInbox_registers (f : Frame) (s : State) : (s.placeInbox f).registers = s.registers := by
  unfold State.placeInbox
  split
  · rfl
  · exact overflow_registers s

@[simp] theorem checkError_registers (p : PortId) (s : State) : (s.checkError p).registers = s.registers := by
  cases p <;> simp [State.checkError]

@[simp] theorem enterUp_registers (p : PortId) (s : State) : (s.enterUp p).registers = s.registers := by
  cases p <;> simp [State.enterUp]

@[simp] theorem discardOutward_registers (s : State) (f : Frame) : (s.discardOutward f).registers = s.registers := by
  unfold State.discardOutward
  split
  · exact unreachableFrame_registers _ s
  · rfl

@[simp] theorem discardOtq_registers (s : State) : s.discardOtq.registers = s.registers :=
  foldl_registers discardOutward_registers _ _

@[simp] theorem forwardOutward_registers (f : Frame) (s : State) : (s.forwardOutward f).registers = s.registers := by
  unfold State.forwardOutward
  split
  · exact placeOtq_registers f s
  · exact unreachableFrame_registers _ s

@[simp] theorem broadcastControl_registers (f : Frame) (s : State) : (s.broadcastControl f).registers = s.registers := by
  have placed : ∀ t : State, t.registers = s.registers → (if s.isUp .d then t.placeOtq f else t).registers = s.registers := by
    intro t same
    split
    · rw [placeOtq_registers, same]
    · exact same
  refine placed _ ?_
  split
  · exact placeInbox_registers f s
  · rfl

@[simp] theorem homewardSwitch_registers (f : Frame) (s : State) : (s.homewardSwitch f).registers = s.registers := by
  unfold State.homewardSwitch
  split
  · exact placeHtq_registers f s
  · rfl

/-! Sending -/

@[simp] theorem idleU_registers (s : State) : s.idleU.registers = s.registers := by simp [State.registers]

@[simp] theorem idleD_registers (s : State) : s.idleD.registers = s.registers := by simp [State.registers]

@[simp] theorem endUTx_registers (s : State) : s.endUTx.registers = s.registers := by simp [State.registers]

/-! Admission, the commands and the exchange -/

@[simp] theorem admitRequest_registers (f : Frame) (n : Nat) (s : State) : (s.admitRequest f n).registers = s.registers := by
  simp [State.registers]

@[simp] theorem finishControl_registers (f : Frame) (n : Nat) (r : CommandResult) :
    (finishControl f n r).registers = r.state.registers := by
  rw [finishControl_eq, answered_registers]

theorem takeHead_registers {want : Frame → Bool} {s t : State} {f : Frame} {n : Nat}
    (h : s.takeHead want = some (f, n, t)) : t.registers = s.registers := by
  obtain ⟨-, rest, -, -, rfl⟩ := takeHead_cases h
  exact took_registers rest n s

@[simp] theorem beginAttempt_registers (x : Exchange) (s : State) : (s.beginAttempt x).registers = s.registers := by
  rw [beginAttempt_eq]
  rfl

@[simp] theorem scanJudged_registers (r : ScanRecord) (o : OutcomeCode) (data : List Byte) (s : State) :
    (s.scanJudged r o data).registers = s.registers := by simp [State.registers]

@[simp] theorem scanUnjudged_registers (r : ScanRecord) (s : State) : (s.scanUnjudged r).registers = s.registers := by
  simp [State.scanUnjudged]

@[simp] theorem scanRetired_registers (t : Retired) (r : ScanRecord) (o : Option OutcomeCode) (data : List Byte)
    (s : State) : (s.scanRetired t r o data).registers = s.registers := by
  cases o <;> simp [State.scanRetired]

@[simp] theorem handResult_registers (x : Exchange) (o : Option OutcomeCode) (data : List Byte) (s : State) :
    (s.handResult x o data).registers = s.registers := by
  unfold State.handResult
  split
  · split
    · rfl
    · cases o <;> simp
  · split
    · rfl
    · split
      · exact scanRetired_registers _ _ _ _ s
      · cases o <;> simp
  · rfl

@[simp] theorem countOutcome_registers (o : Option OutcomeCode) (s : State) :
    (s.countOutcome o).registers = s.registers := by
  rw [countOutcome_frame]
  rfl

@[simp] theorem completeOffline_registers (r : ExRecord) (s : State) : (s.completeOffline r).registers = s.registers := by
  cases r <;> simp [State.completeOffline]

@[simp] theorem claimScanSlot_registers (r : ExRecord) (s : State) :
    (s.claimScanSlot r).2.registers = s.registers := by simp [State.registers]

@[simp] theorem stray_registers (s : State) : s.stray.registers = s.registers := by simp [State.stray]

/-! ### The operations that change them -/

/-! Ticks -/

theorem mem_revivalOrder {cursor n : Nat} : n ∈ revivalOrder cursor ↔ 1 ≤ n ∧ n ≤ 31 := by
  simp only [revivalOrder, List.mem_append, List.mem_filter, List.mem_map, List.mem_range, decide_eq_true_eq]
  constructor
  · rintro (⟨⟨a, ha, rfl⟩, -⟩ | ⟨⟨a, ha, rfl⟩, -⟩) <;> omega
  · intro range
    have listed : ∃ a < 31, a + 1 = n := ⟨n - 1, by omega, by omega⟩
    rcases Nat.lt_or_ge cursor n with h | h
    · exact .inl ⟨listed, h⟩
    · exact .inr ⟨listed, h⟩

theorem settleRevival_change (s : State) : Change s.registers s.settleRevival.registers := by
  unfold State.settleRevival State.reviveNow
  dsimp only
  split
  · split
    · exact .same _
    · split
      · exact .same _
      · next n found =>
        split
        · exact .cursorMoved _ n (mem_revivalOrder.mp (List.mem_of_find?_eq_some found)).2
        · exact .same _
  · exact .same _

theorem settleTick_change (s : State) : Change s.registers s.settleTick.registers := by
  rw [State.settleTick, settleDues_registers]
  exact .trans (.of_eq (takeExpired_registers s)) (settleRevival_change _)

theorem revivalTick_change (s : State) : Change s.registers s.revivalTick.registers := by
  unfold State.revivalTick
  split
  · exact .reviveCountCleared _
  · split
    · exact .reviveCountCleared _
    · next below => exact .reviveCounted _ (Nat.lt_of_not_le below)

theorem holdoffTick_change (s : State) : Change s.registers s.holdoffTick.registers := by
  have raised : s.holdoffTick.registers = { s.registers with holdoff := min (s.notice.holdoff + 1) 255 } := by
    simp [State.registers, holdoffTick_holdoff]
  rw [raised]
  exact .holdoffRaised _

theorem scanStep_registers (s : State) : s.scanStep.registers = s.registers := by
  unfold State.scanStep
  split <;> rfl

theorem tick_change (s : State) :
    Change s.registers s.settleTick.countTick.revivalTick.holdoffTick.scanStep.registers := by
  rw [scanStep_registers]
  exact (settleTick_change s).trans ((revivalTick_change s.settleTick.countTick).trans (holdoffTick_change _))

/-! Links, frames and sending -/

theorem uplinkLoss_change (s : State) : Change s.registers s.uplinkLoss.registers := by
  have cleared : s.uplinkLoss.registers = { s.registers with streak := 0 } := by
    show ({ s.clearQueuedFlags with dlc := s.dlc.loseSession, streak := 0 } : State).registers = _
    unfold Dlc.loseSession
    split <;> rfl
  rw [cleared]
  exact .streakCleared _

theorem enterDown_change (p : PortId) (s : State) : Change s.registers (s.enterDown p).registers := by
  cases p with
  | u =>
    have lost := uplinkLoss_change (s.settleDues.setPort .u s.portU.fall)
    rw [setPort_registers, settleDues_registers] at lost
    exact lost.then_same (by simp [State.enterDown])
  | d => exact .of_eq (by simp [State.enterDown])

theorem enumerateAt_change (h : Header) (c : Byte) (s : State) : Change s.registers (s.enumerateAt h c).registers := by
  have moved : (s.enumerateAt h c).registers = { s.registers with position := positionAfter c } := by
    unfold State.enumerateAt
    dsimp only
    split
    · rw [placeOtq_registers]; rfl
    · rfl
  rw [moved]
  exact .enumerated _ c

theorem outwardSwitch_change (f : Frame) (s : State) : Change s.registers (s.outwardSwitch f).registers := by
  unfold State.outwardSwitch
  split
  · exact enumerateAt_change _ _ s
  · split
    · exact .of_eq (placeInbox_registers f s)
    · split
      · exact .same _
      · exact .of_eq (forwardOutward_registers f s)
  · split
    · exact .of_eq (placeInbox_registers f s)
    · split
      · exact .of_eq (broadcastControl_registers f s)
      · exact .of_eq (forwardOutward_registers f s)
  all_goals exact .same _

theorem grant_change (s : State) : Change s.registers s.grant.registers := by
  unfold State.grant
  split
  · exact .same _
  · exact .streakCleared _
  · exact .streakCleared _
  · split
    · next below => exact .streakRaised _ below
    · exact .streakCleared _

theorem placeNotice_change (s : State) : Change s.registers s.placeNotice.registers := by
  have cleared : s.placeNotice.registers = { s.registers with holdoff := 0 } := by simp [State.registers, State.placeNotice]
  rw [cleared]
  exact .holdoffCleared _

/-! The DLC -/

theorem enterIdle_change (s : State) : Change s.registers s.enterIdle.registers := .settingsApplied _

theorem enterHalted_change (s : State) : Change s.registers s.enterHalted.registers := .settingsApplied _

theorem leaveGuard_change (s : State) : Change s.registers s.leaveGuard.registers := by
  unfold State.leaveGuard
  split
  · exact enterHalted_change s
  · exact enterIdle_change s

theorem haltLine_change (s : State) : Change s.registers s.haltLine.registers := by
  unfold State.haltLine
  split
  · exact enterHalted_change s
  all_goals exact .same _

theorem runLine_change (s : State) : Change s.registers s.runLine.registers := by
  unfold State.runLine
  split
  · exact enterIdle_change s
  all_goals exact .same _

/-! The exchange -/

theorem setNode_registers (n : Nat) (r : NodeRecord) (s : State) :
    (s.setNode n r).registers = { s.registers with nodes := vset s.nodes (n - 1) r } := by
  rw [setNode_frame, setNode_nodes, setNode_notice]
  rfl

theorem handVerdict_change (x : Exchange) (o : Option OutcomeCode) (s : State) :
    Change s.registers (s.handVerdict x o).registers := by
  unfold State.handVerdict
  split
  · rw [setNode_registers]
    exact .nodeJudged s.registers _ x _
  · exact .same _

theorem complete_change (x : Exchange) (o : Option OutcomeCode) (data : List Byte) (s : State) :
    Change s.registers (s.complete x o data).registers := by
  rw [State.complete, setInflight_registers, countOutcome_registers, ← handResult_registers x o data s]
  exact handVerdict_change x o _

theorem recordAttempt_change (x : Exchange) (o : OutcomeCode) (data : List Byte) (s : State) :
    Change s.registers (s.recordAttempt x o data).registers := by
  obtain ⟨result, payload, e⟩ | e := recordAttempt_cases x o data s
  · rw [e]; exact complete_change _ _ _ s
  · rw [e]; exact .same _

theorem endAttempt_change (x : Exchange) (o : OutcomeCode) (data : List Byte) (s : State) :
    Change s.registers (s.endAttempt x o data).registers :=
  (recordAttempt_change x o data s).then_same (enterGuard_registers _ _)

theorem receiveChar_change (c : DropChar) (s : State) : Change s.registers (s.receiveChar c).registers := by
  unfold State.receiveChar
  split
  · exact .of_eq (stray_registers s)
  · exact .of_eq (stray_registers s)
  · exact .of_eq (stray_registers s)
  · exact .same _
  · split
    · split
      · exact .same _
      · exact .same _
    · exact .of_eq (stray_registers s)
  · split
    · exact .same _
    · dsimp only
      split
      · exact endAttempt_change _ _ _ s
      · exact .same _

theorem endGuard_change (s : State) : Change s.registers s.endGuard.registers := by
  unfold State.endGuard
  split
  · exact leaveGuard_change s
  · next x _ =>
    split
    · exact (complete_change _ _ _ s).trans (leaveGuard_change _)
    · split
      · exact (complete_change _ _ _ s).trans (leaveGuard_change _)
      · unfold State.continueExchange
        split
        · exact .of_eq (beginAttempt_registers _ s)
        · exact .of_eq (beginAttempt_registers _ s)

theorem select_registers (s : State) : s.select.registers = s.registers := by
  unfold State.select
  split
  · rfl
  · next r q _ =>
    have claimed : (State.claimScanSlot r { s with queue := q }).2.registers = s.registers := claimScanSlot_registers r _
    dsimp only
    unfold State.runRecord
    split
    · rw [completeOffline_registers, claimed]
    · rw [State.startExchange, beginAttempt_registers]
      exact claimed

/-! ### The commands' own rules -/

/-- What a command's dispatch changes is what its own rule changes. -/
theorem dispatch_change {c : Command} {run : List Byte → State → CommandResult}
    (rule : ∀ ops (u : State), Change u.registers (run ops u).state.registers) (s : State) :
    Change s.registers (dispatch c run s).registers := by
  unfold dispatch
  split
  · exact .same _
  · next ht =>
    rw [finishControl_registers, ← takeHead_registers ht]
    unfold runCommand
    split
    · exact rule _ _
    · exact .same _

theorem writeLineSetting_change {id v : Nat} (low : 1 ≤ id) (high : id ≤ 5) (inRange : paramInRange id v = true)
    (s : State) : Change s.registers (s.writeLineSetting id v).registers := by
  unfold State.writeLineSetting
  split
  · exact .settingWritten _ id v low high inRange
  · split
    · exact .same _
    · exact .settingPended _ id v low high inRange

theorem writeOwnParam_change {id v : Nat} (low : 6 ≤ id) (high : id ≤ 14) (inRange : paramInRange id v = true)
    (s : State) : Change s.registers (s.writeOwnParam id v).registers := by
  have written : Change s.registers { s.registers with params := setOwnParam id v s.params } :=
    .paramWritten _ id v low high inRange
  unfold State.writeOwnParam
  dsimp only
  split
  · exact written
  · split
    · exact written.trans (.reviveCountCleared _)
    · exact written

theorem runSetParam_change (ops : List Byte) (s : State) : Change s.registers (runSetParam ops s).state.registers := by
  unfold runSetParam
  dsimp only
  split
  · exact .same _
  · next known =>
    obtain ⟨low, high⟩ := isParam_iff.mp (by simpa using known)
    split
    · exact .same _
    · next inside =>
      dsimp only
      split
      · next setting => exact writeLineSetting_change low setting (by simpa using inside) s
      · next own => exact writeOwnParam_change (by omega) high (by simpa using inside) s

theorem runClearFaults_registers (ops : List Byte) (s : State) : (runClearFaults ops s).state.registers = s.registers := by
  unfold runClearFaults
  dsimp only
  split <;> rfl

theorem runReadCounters_registers (ops : List Byte) (s : State) :
    (runReadCounters ops s).state.registers = s.registers := by
  unfold runReadCounters
  dsimp only
  split <;> rfl

theorem runTableWrite_registers (ops : List Byte) (s : State) : (runTableWrite ops s).state.registers = s.registers := by
  unfold runTableWrite
  split
  · rfl
  · dsimp only
    split
    · rfl
    · split
      · rfl
      · exact setBank_registers _ _ s

theorem runShadowLoad_registers (ops : List Byte) (s : State) : (runShadowLoad ops s).state.registers = s.registers := by
  unfold runShadowLoad
  split
  · rfl
  · exact setBank_registers _ _ s

theorem runNodeReset_change (ops : List Byte) (s : State) : Change s.registers (runNodeReset ops s).state.registers := by
  unfold runNodeReset
  dsimp only
  split
  · exact .same _
  · split
    · exact .same _
    · rw [setNode_registers]
      exact .nodeReset _ _

theorem runFlush_registers (ops : List Byte) (s : State) : (runFlush ops s).state.registers = s.registers :=
  foldl_registers (f := fun t (r : ExRecord) => t.releaseReply r.slot) (fun t r => releaseReply_registers r.slot t) _ _

theorem cancelOne_registers (r : ExRecord) (s : State) : (s.cancelOne r).registers = s.registers := by
  simp [State.registers]

theorem runCancel_registers (ops : List Byte) (s : State) : (runCancel ops s).state.registers = s.registers := by
  unfold runCancel
  dsimp only
  split
  · next r q _ => exact cancelOne_registers r { s with queue := q }
  · split
    · split <;> rfl
    · rfl

theorem takeCommit_registers (s : State) : s.takeCommit.registers = s.registers := by
  unfold State.takeCommit
  split
  · rfl
  · next f n t ht =>
    rw [← takeHead_registers ht]
    split
    · exact finishControl_registers f n _
    · split
      · exact finishControl_registers f n _
      · simp [State.registers]

/-! The soft reset -/

theorem distrustNode_change (s : State) : Change s.registers s.distrustNode.registers := by
  unfold State.distrustNode
  split
  · exact .same _
  · split
    · exact .nodeDistrusted _ _
    · exact .same _

theorem resetDlc_change (s : State) : Change s.registers s.resetDlc.registers := by
  unfold State.resetDlc
  dsimp only
  split
  · exact .same _
  · exact .same _
  · exact .same _
  · exact .same _
  · exact .same _
  · exact .settingsApplied s.registers

theorem resetQueues_change (s : State) : Change s.registers s.resetQueues.registers := by
  have cleared : s.resetQueues.registers = { s.resetDlc.registers with streak := 0 } := by
    simp [State.registers, State.resetQueues]
  rw [cleared]
  exact (resetDlc_change s).trans (.streakCleared _)

theorem resetFull_change (s : State) : Change s.registers s.resetFull.registers := by
  have lines : Change s.registers s.resetLineSettings.registers := by
    unfold State.resetLineSettings
    split
    · exact .settingsReset _
    · exact .settingsResetLater _
  exact lines.trans (.fullReset _)

theorem softReset_change (level : ResetLevel) (s : State) : Change s.registers (s.softReset level).registers := by
  cases level with
  | queues => exact (distrustNode_change s).trans (resetQueues_change _)
  | full => exact (resetQueues_change s).trans (resetFull_change _)

theorem takeSoftReset_change (s : State) : Change s.registers s.takeSoftReset.registers := by
  unfold State.takeSoftReset
  split
  · exact .same _
  · next f n t ht =>
    rw [← takeHead_registers ht]
    split
    · exact .of_eq (finishControl_registers f n _)
    · split
      · exact .of_eq (finishControl_registers f n _)
      · next level _ =>
        dsimp only
        split
        · exact softReset_change level t
        · exact (softReset_change level t).then_same (fillLowest_registers _ _)

/-! ### Every command -/

theorem live_change {f : State → State} {s t : State} (effect : Change s.registers (f s).registers)
    (h : live f s = .next t) : Change s.registers t.registers :=
  live_keeps (P := fun u => Change s.registers u.registers) (.same _) effect h

theorem live_dispatch_change {c : Command} {run : List Byte → State → CommandResult} {s t : State}
    (rule : ∀ ops (u : State), Change u.registers (run ops u).state.registers) (h : live (dispatch c run) s = .next t) :
    Change s.registers t.registers :=
  live_change (dispatch_change rule s) h

/-- What a command can do to the registers. -/
theorem exec_change {c : Instr} {s t : State} (h : exec c s = .next t) : Change s.registers t.registers := by
  cases c with
  | hardReset cause =>
    obtain rfl : _ = t := Host.Outcome.next.inj h
    split
    · exact .hardReset _
    · exact .same _
  | resetNRise =>
    obtain rfl : _ = t := Host.Outcome.next.inj h
    split
    · exact .hardReset _
    · exact .same _
  | tick => exact live_change (f := fun s => s.settleTick.countTick.revivalTick.holdoffTick.scanStep) (tick_change s) h
  | expiry => exact live_change (.of_eq (takeExpired_registers s)) h
  | revivalPoint => exact live_change (settleRevival_change s) h
  | scanDue => exact live_change (.of_eq (nextDue_registers s)) h
  | linkUp p times =>
    rw [exec, execLinkUp] at h
    refine live_change ?_ h
    split
    · exact .same _
    · split
      · exact .of_eq (setPort_registers p _ s)
      · exact .of_eq (enterUp_registers p s)
  | linkDown p times =>
    rw [exec, execLinkDown] at h
    refine live_change ?_ h
    split
    · split
      · exact .of_eq (setPort_registers p _ s)
      · exact enterDown_change p s
    · exact .same _
  | hold p | go p =>
    refine live_change ?_ h
    split
    · exact .of_eq (setPort_registers p _ s)
    · exact .same _
  | uFrameArrival bytes invalid =>
    rw [exec, execUFrameArrival] at h
    refine live_change ?_ h
    split
    · dsimp only
      split
      · exact .of_eq (by simp)
      · next f _ =>
        have judged := outwardSwitch_change f (s.setPort .u s.portU.frameDone)
        rw [setPort_registers] at judged
        exact judged
    · exact .same _
  | enumerate header count =>
    rw [exec, execEnumerate] at h
    refine live_change ?_ h
    split
    · have moved := enumerateAt_change header count (s.setPort .u s.portU.frameDone)
      rw [setPort_registers] at moved
      exact moved
    · exact .same _
  | dFrameArrival bytes invalid =>
    rw [exec, execDFrameArrival] at h
    refine live_change ?_ h
    split
    · dsimp only
      split
      · exact .of_eq (by simp)
      · exact .of_eq (by simp)
    · exact .same _
  | chainEndAck =>
    rw [exec, execChainEndAck] at h
    refine live_change ?_ h
    split
    · exact .same _
    · exact .same _
  | mergeGrant =>
    rw [exec, execMergeGrant] at h
    refine live_change ?_ h
    split
    · exact grant_change s
    · exact .same _
  | uTxFrameEnd => exact live_change (.of_eq (endUTx_registers s)) h
  | otqSendStart =>
    rw [exec, execOtqSendStart] at h
    refine live_change ?_ h
    split
    · exact .same _
    · split
      · exact .same _
      · exact .same _
  | otqSendEnd =>
    rw [exec, execOtqSendEnd] at h
    refine live_change ?_ h
    split
    · exact .same _
    · exact .of_eq (idleD_registers _)
  | noticePlace =>
    rw [exec, execNoticePlace] at h
    refine live_change ?_ h
    split
    · exact placeNotice_change s
    · exact .same _
  | requestAdmission =>
    rw [exec, execRequestAdmission] at h
    refine live_change ?_ h
    split
    · exact .same _
    · next ht => exact .of_eq ((admitRequest_registers _ _ _).trans (takeHead_registers ht))
  | badCommand =>
    rw [exec, execBadCommand] at h
    refine live_change ?_ h
    split
    · exact .same _
    · next ht => exact .of_eq ((finishControl_registers _ _ _).trans (takeHead_registers ht))
  | readStatus => exact live_dispatch_change (fun _ u => .same u.registers) h
  | getParam => exact live_dispatch_change (fun ops u => .of_eq (by rw [runGetParam_state])) h
  | setParam =>
    rw [exec, execSetParam] at h
    have written := dispatch_change (c := .setParam) runSetParam_change (s.settleBefore s.changesScanEnable)
    rw [settleBefore_registers] at written
    exact live_change written h
  | clearFaults => exact live_dispatch_change (fun ops u => .of_eq (runClearFaults_registers ops u)) h
  | readCounters => exact live_dispatch_change (fun ops u => .of_eq (runReadCounters_registers ops u)) h
  | tableWrite => exact live_dispatch_change (fun ops u => .of_eq (runTableWrite_registers ops u)) h
  | tableRead => exact live_dispatch_change (fun ops u => .of_eq (by rw [runTableRead_state])) h
  | shadowLoad => exact live_dispatch_change (fun ops u => .of_eq (runShadowLoad_registers ops u)) h
  | commit => exact live_change (.of_eq (takeCommit_registers s)) h
  | commitReject =>
    rw [exec, execCommitReject] at h
    refine live_change ?_ h
    split
    · exact .same _
    · split
      · exact .same _
      · exact .of_eq (by simp [State.registers])
  | swap =>
    rw [exec, execSwap] at h
    refine live_change ?_ h
    split
    · exact .same _
    · split
      · exact .same _
      · exact .of_eq ((answer_registers _ _ _).trans (settleDues_registers s))
  | cancel => exact live_dispatch_change (fun ops u => .of_eq (runCancel_registers ops u)) h
  | flush => exact live_dispatch_change (fun ops u => .of_eq (runFlush_registers ops u)) h
  | nodeReset => exact live_dispatch_change runNodeReset_change h
  | nodeRead => exact live_dispatch_change (fun ops u => .of_eq (by rw [runNodeRead_state])) h
  | lineHalt => exact live_dispatch_change (fun _ u => haltLine_change u) h
  | lineRun => exact live_dispatch_change (fun _ u => runLine_change u) h
  | softReset =>
    rw [exec, execSoftReset] at h
    have reset := takeSoftReset_change (s.settleBefore namesLevel)
    rw [settleBefore_registers] at reset
    exact live_change reset h
  | selection =>
    rw [exec, execSelection] at h
    refine live_change ?_ h
    split
    · exact .of_eq (select_registers s)
    · exact .same _
  | readBackComplete =>
    rw [exec, execReadBackComplete] at h
    refine live_change ?_ h
    split
    · exact .same _
    · next x _ =>
      have counted : (if x.step = .sync then s.bump .syncs else s).registers = s.registers := by split <;> rfl
      dsimp only
      split
      · exact .of_eq counted
      · exact .of_eq counted
  | lineContention k rb =>
    rw [exec, execLineContention] at h
    refine live_change ?_ h
    split
    · exact .same _
    · split
      · have ended := endAttempt_change ‹_› .lineContention [] ((s.bump .contention).latch .dropContention)
        rw [latch_registers, bump_registers] at ended
        exact ended
      · exact .same _
  | lineFault =>
    rw [exec, execLineFault] at h
    refine live_change ?_ h
    split
    · exact .same _
    · next x _ =>
      have completed := complete_change (x.noted .lineFault) (some .lineFault) [] (s.latch .dropLineDead)
      rw [latch_registers] at completed
      exact completed.trans (enterHalted_change _)
  | responseStart data framing => exact live_change (receiveChar_change _ s) h
  | responseCharacter c | strayCharacter c => exact live_change (receiveChar_change c s) h
  | noResponse =>
    rw [exec, execNoResponse] at h
    refine live_change ?_ h
    split
    · exact endAttempt_change _ _ _ s
    · exact .same _
  | responseEnd =>
    rw [exec, execResponseEnd] at h
    refine live_change ?_ h
    split
    · exact endAttempt_change _ _ _ s
    · exact .same _
  | guardEnd =>
    rw [exec, execGuardEnd] at h
    refine live_change ?_ h
    split
    · exact endGuard_change s
    · exact .same _
  | frameStartInReception p data =>
    rw [exec, execFrameStartInReception] at h
    refine live_change ?_ h
    split
    · dsimp only
      split
      · exact .of_eq (by simp)
      · exact .of_eq (setPort_registers p _ s)
    · exact .same _
  | resetCharacterFinished =>
    rw [exec, execResetCharacterFinished] at h
    refine live_change ?_ h
    split
    · exact .same _
    · exact .same _

/-- What a step can do to the registers. -/
theorem step_change {s t : State} (h : step s = .next t) : Change s.registers t.registers :=
  step_keeps (P := fun u => Change s.registers u.registers) (fun _ _ k => k)
    (fun u k => k.then_same (idleStep_registers u)) (fun _ _ _ k he => k.trans (exec_change he)) (.same _) h

end Sys2Proof.Machine
end

section
/-! ## The ranges of the parameters, the positions and the counts -/

namespace Sys2Proof.Machine

/-! ### The line settings as parameters 1 to 5 -/

theorem paramValue_setting {id : Nat} (high : id ≤ 5) (cur : LineSettings) (p q : Params) :
    paramValue cur p id = paramValue cur q id := by
  interval_cases id <;> rfl

theorem paramValue_own {id : Nat} (low : 6 ≤ id) (c d : LineSettings) (p : Params) :
    paramValue c p id = paramValue d p id := by
  unfold paramValue
  simp only [if_neg (by omega : id ≠ 1), if_neg (by omega : id ≠ 2), if_neg (by omega : id ≠ 3),
    if_neg (by omega : id ≠ 4), if_neg (by omega : id ≠ 5)]

theorem paramPending_own {id : Nat} (low : 6 ≤ id) (pend : PendingSettings) : paramPending pend id = none := by
  unfold paramPending
  simp only [if_neg (by omega : id ≠ 1), if_neg (by omega : id ≠ 2), if_neg (by omega : id ≠ 3),
    if_neg (by omega : id ≠ 4), if_neg (by omega : id ≠ 5)]

/-- Applying the pending settings reads each parameter from the pending ones first (R56). -/
theorem paramValue_applyPending (cur : LineSettings) (pend : PendingSettings) (p : Params) (id : Nat) :
    paramValue (applyPending cur pend) p id = (paramPending pend id).getD (paramValue cur p id) := by
  rcases Nat.lt_or_ge 5 id with own | setting
  · rw [paramPending_own own]
    exact paramValue_own own _ cur p
  · interval_cases id <;> rfl

/-! ### Registers in their ranges -/

/-- The laws of the parameters and of the counts, of the registers they read. -/
structure Registers.InRange (r : Registers) : Prop where
  value : ∀ id, 1 ≤ id → id ≤ 14 → paramInRange id (paramValue r.cur r.params id) = true
  pending : ∀ id, 1 ≤ id → id ≤ 14 → ∀ v, paramPending r.pend id = some v → paramInRange id v = true
  position : r.position ≤ 62
  streak : r.streak ≤ 8
  holdoff : r.holdoff ≤ 255
  reviveCursor : r.reviveCursor ≤ 31
  reviveCount : r.reviveCount ≤ 65535

theorem inRange_iff (s : State) : s.registers.InRange ↔ s.ParamLaw ∧ s.RangeLaw := by
  have ids : ∀ id, id ∈ List.range' 1 14 ↔ 1 ≤ id ∧ id ≤ 14 := fun id => by rw [List.mem_range'_1]; omega
  simp only [State.ParamLaw, State.RangeLaw, ids, and_imp, Option.mem_def]
  constructor
  · rintro ⟨value, pending, position, streak, holdoff, cursor, count⟩
    exact ⟨⟨value, pending⟩, position, streak, holdoff, cursor, count⟩
  · rintro ⟨⟨value, pending⟩, position, streak, holdoff, cursor, count⟩
    exact ⟨value, pending, position, streak, holdoff, cursor, count⟩

section InRange
variable {r : Registers}

theorem Registers.InRange.throughWeight (h : r.InRange) : r.params.throughWeight ≤ 8 := by
  have range := h.value 11 (by decide) (by decide)
  simp only [paramInRange, paramValue] at range
  simp at range
  exact range.2

theorem Registers.InRange.reviveInterval (h : r.InRange) : r.params.reviveInterval ≤ 65535 := by
  have range := h.value 7 (by decide) (by decide)
  simpa [paramInRange, paramValue] using range

theorem default_inRange : ({} : Registers).InRange :=
  (inRange_iff State.reset).mpr ⟨reset_paramLaw, by unfold State.RangeLaw; decide⟩

theorem Registers.InRange.fullReset (h : r.InRange) : ({ r with
    params := {}, holdoff := 255, reviveCursor := 0, reviveCount := 0, nodes := Vector.replicate 31 {} } :
      Registers).InRange := by
  refine { h with
    value := fun id low high => ?_
    holdoff := default_inRange.holdoff
    reviveCursor := default_inRange.reviveCursor
    reviveCount := default_inRange.reviveCount }
  rcases Nat.lt_or_ge 5 id with own | setting
  · rw [paramValue_own own _ {}]
    exact default_inRange.value id low high
  · rw [paramValue_setting setting _ _ r.params]
    exact h.value id low high

theorem Registers.InRange.settingsReset (h : r.InRange) : ({ r with cur := {}, pend := {} } : Registers).InRange := by
  refine { h with value := fun id low high => ?_, pending := default_inRange.pending }
  rcases Nat.lt_or_ge 5 id with own | setting
  · rw [paramValue_own own _ r.cur]
    exact h.value id low high
  · rw [paramValue_setting setting _ _ {}]
    exact default_inRange.value id low high

theorem Registers.InRange.settingsResetLater (h : r.InRange) :
    ({ r with pend := pendingDefaults } : Registers).InRange := by
  have defaults : ∀ id, id ≤ 14 → (paramPending pendingDefaults id).all (paramInRange id) = true := by decide
  exact { h with pending := fun id _ high => (Option.all_eq_true _ _).mp (defaults id high) }

theorem Registers.InRange.settingsApplied (h : r.InRange) :
    ({ r with cur := applyPending r.cur r.pend, pend := {} } : Registers).InRange := by
  refine { h with value := fun id low high => ?_, pending := default_inRange.pending }
  rw [paramValue_applyPending]
  cases held : paramPending r.pend id with
  | none => exact h.value id low high
  | some v => exact h.pending id low high v held

/-- The changes keep the ranges. -/
theorem Change.inRange {a b : Registers} (c : Change a b) (h : a.InRange) : b.InRange := by
  induction c with
  | same r => exact h
  | trans _ _ first second => exact second (first h)
  | hardReset r => exact default_inRange
  | fullReset r => exact h.fullReset
  | settingsReset r => exact h.settingsReset
  | settingsResetLater r => exact h.settingsResetLater
  | settingsApplied r => exact h.settingsApplied
  | settingWritten r id v low high inRange =>
    refine { h with value := fun j first last => ?_ }
    rw [paramValue_setCurrent id v j _ _ low high]
    split
    · next e => exact e ▸ inRange
    · exact h.value j first last
  | settingPended r id v low high inRange =>
    refine { h with pending := fun j first last w hw => ?_ }
    rw [paramPending_setPending id v j _ low high] at hw
    split at hw
    · next e =>
      obtain rfl : v = w := Option.some.inj hw
      exact e ▸ inRange
    · exact h.pending j first last w hw
  | paramWritten r id v low high inRange =>
    refine { h with value := fun j first last => ?_ }
    rw [paramValue_setOwnParam id v j _ _ low high]
    split
    · next e => exact e ▸ inRange
    · exact h.value j first last
  | enumerated r c =>
    refine { h with position := ?_ }
    show positionAfter c ≤ 62
    unfold positionAfter
    split <;> omega
  | streakRaised r below => exact { h with streak := Nat.le_trans below h.throughWeight }
  | streakCleared r => exact { h with streak := Nat.zero_le 8 }
  | holdoffRaised r => exact { h with holdoff := Nat.min_le_right _ 255 }
  | holdoffCleared r => exact { h with holdoff := Nat.zero_le 255 }
  | cursorMoved r n high => exact { h with reviveCursor := high }
  | reviveCounted r below =>
    have interval := h.reviveInterval
    exact { h with reviveCount := Nat.le_trans (Nat.le_of_lt below) interval }
  | reviveCountCleared r => exact { h with reviveCount := Nat.zero_le 65535 }
  | nodeReset r i => exact { h with }
  | nodeDistrusted r i => exact { h with }
  | nodeJudged r i x last => exact { h with }

end InRange

/-- Settles O55: the laws read the registers alone, and each change that a step is made of keeps their ranges. -/
theorem stepKeepsRanges : Obligations.StepKeepsRanges := by
  intro s t params ranges h
  exact (inRange_iff t).mp ((step_change h).inRange ((inRange_iff s).mpr ⟨params, ranges⟩))

/-! ## The pattern of the node records -/

/-! ### The pattern of one record (R59 to R62) -/

section Pattern
variable {r : NodeRecord} {threshold : Nat} {carried : Bool}

theorem default_lawful : ({} : NodeRecord).Lawful :=
  ⟨fun _ => rfl, nofun, nofun, fun _ => rfl⟩

/-- A record that says NEEDS_SYNC has the pattern when its state and its failures have it. -/
theorem NodeRecord.Lawful.distrusted {b : NodeRecord} (h : r.Lawful) (state : b.state = r.state)
    (failures : b.failures = r.failures) (sync : b.sync = .needsSync) : b.Lawful := by
  obtain ⟨healthy, suspect, offline, -⟩ := h
  rw [← state, ← failures] at healthy suspect offline
  exact ⟨healthy, suspect, offline, fun _ => sync⟩

theorem lawful_of_online (online : r.state = .online) (unfailed : r.failures = 0) : r.Lawful := by
  simp [NodeRecord.Lawful, online, unfailed]

/-- A health failure keeps the count of failures to the state (R60, R61): a SUSPECT record's stays below the threshold. -/
theorem fail_lawful (suspect : r.state = .suspect → 1 ≤ r.failures ∧ r.failures ≤ 6)
    (offline : r.state = .offline → 1 ≤ r.failures ∧ r.failures ≤ 7) (high : threshold ≤ 7) :
    ({ r.fail threshold with sync := .needsSync } : NodeRecord).Lawful := by
  have first (healthy : r.state = .unknown ∨ r.state = .online) :
      ({ r.fail threshold with sync := .needsSync } : NodeRecord).Lawful := by
    rw [fail_of_healthy _ healthy]
    split
    · exact ⟨by simp, nofun, fun _ => ⟨Nat.le_refl 1, by simp⟩, fun _ => rfl⟩
    · exact ⟨by simp, fun _ => ⟨Nat.le_refl 1, by simp⟩, nofun, fun _ => rfl⟩
  cases state : r.state with
  | unknown => exact first (.inl state)
  | online => exact first (.inr state)
  | suspect =>
    obtain ⟨-, most⟩ := suspect state
    rw [fail_of_suspect _ state]
    split
    · exact ⟨by simp, nofun, fun _ => ⟨Nat.succ_pos _, Nat.succ_le_succ most⟩, fun _ => rfl⟩
    · next below => exact ⟨by simp, fun _ => ⟨Nat.succ_pos _, by dsimp only; omega⟩, nofun, fun _ => rfl⟩
  | offline =>
    rw [fail_of_offline _ state]
    exact ⟨by simp [state], by simp [state], offline, fun _ => rfl⟩

/-- A verdict of no change carries no SYNC step's success: with one the verdict says so (R52). -/
theorem noChange_uncarried {x : Exchange} (h : x.verdict = .noChange) : x.carried = false := by
  rw [Bool.eq_false_iff]
  intro carried
  obtain ⟨planned, main⟩ : x.hasSync = true ∧ x.step = .main := by simpa [Exchange.carried] using carried
  cases last : x.lastOutcome with
  | none => simp [Exchange.verdict, last, carried] at h
  | some o =>
    by_cases dead : o = .lineFault
    · rw [verdict_of_lineFault (dead ▸ last)] at h
      cases h
    · rw [verdict_of_main last dead main] at h
      simp only [planned, if_true] at h
      split_ifs at h

/-- A verdict keeps the pattern of the record (R60, R62). -/
theorem NodeRecord.Lawful.judged (h : r.Lawful) (high : threshold ≤ 7) (x : Exchange) :
    (r.apply threshold x.carried x.verdict).Lawful := by
  have state := carrySync_state r x.carried
  have failures := carrySync_failures r x.carried
  cases verdict : x.verdict with
  | synchronised | healthySync | healthyMain => exact lawful_of_online rfl rfl
  | failure =>
    obtain ⟨-, suspect, offline, -⟩ := h
    rw [← state, ← failures] at suspect offline
    exact fail_lawful suspect offline high
  | noChange =>
    rw [noChange_uncarried verdict]
    exact h
  | lineFault => exact h.distrusted state failures rfl

end Pattern

/-! ### The pattern of the whole table -/

/-- The law of the node records, of the registers it reads. -/
structure Registers.NodesLawful (r : Registers) : Prop where
  nodes : ∀ x ∈ r.nodes.toList, x.Lawful
  low : 1 ≤ r.params.offlineThreshold
  high : r.params.offlineThreshold ≤ 7

theorem nodesLawful_iff (s : State) : s.registers.NodesLawful ↔ s.NodeLaw :=
  ⟨fun ⟨nodes, low, high⟩ => ⟨nodes, low, high⟩, fun ⟨nodes, low, high⟩ => ⟨nodes, low, high⟩⟩

section Table
variable {r : Registers}

theorem default_nodesLawful : ({} : Registers).NodesLawful := (nodesLawful_iff State.reset).mpr reset_nodeLaw

theorem Registers.NodesLawful.node (h : r.NodesLawful) (i : Nat) : (vget r.nodes i {}).Lawful := by
  rcases Nat.lt_or_ge i 31 with inside | outside
  · exact h.nodes _ (vget_mem r.nodes i {} inside)
  · rw [vget_outside _ _ _ outside]
    exact default_lawful

theorem Registers.NodesLawful.write (h : r.NodesLawful) (i : Nat) {x : NodeRecord} (lawful : x.Lawful) :
    ({ r with nodes := vset r.nodes i x } : Registers).NodesLawful := by
  refine { h with nodes := fun y hy => ?_ }
  rcases mem_vset hy with old | rfl
  · exact h.nodes y old
  · exact lawful

/-- OFFLINE_THRESHOLD is parameter 6. -/
theorem offlineThreshold_inRange {p : Params} (h : paramInRange 6 (paramValue {} p 6) = true) :
    1 ≤ p.offlineThreshold ∧ p.offlineThreshold ≤ 7 := by
  simpa [paramInRange, paramValue] using h

theorem Registers.NodesLawful.paramWritten (h : r.NodesLawful) {id v : Nat} (low : 6 ≤ id) (high : id ≤ 14)
    (inRange : paramInRange id v = true) :
    ({ r with params := setOwnParam id v r.params } : Registers).NodesLawful := by
  have range : 1 ≤ (setOwnParam id v r.params).offlineThreshold ∧ (setOwnParam id v r.params).offlineThreshold ≤ 7 := by
    refine offlineThreshold_inRange ?_
    rw [paramValue_setOwnParam id v 6 _ _ low high]
    split
    · next six => exact six ▸ inRange
    · simp [paramInRange, paramValue, h.low, h.high]
  exact { h with low := range.1, high := range.2 }

/-- The changes keep the pattern. -/
theorem Change.nodesLawful {a b : Registers} (c : Change a b) (h : a.NodesLawful) : b.NodesLawful := by
  induction c with
  | trans _ _ first second => exact second (first h)
  | hardReset r => exact default_nodesLawful
  | fullReset r =>
    exact { nodes := default_nodesLawful.nodes, low := default_nodesLawful.low, high := default_nodesLawful.high }
  | paramWritten r id v low high inRange => exact h.paramWritten low high inRange
  | nodeReset r i => exact h.write i default_lawful
  | nodeDistrusted r i => exact h.write i ((h.node i).distrusted rfl rfl rfl)
  | nodeJudged r i x last => exact h.write i ((h.node i).judged h.high x)
  | same r | settingsReset r | settingsResetLater r | settingsApplied r | settingWritten r _ _ _ _ _
  | settingPended r _ _ _ _ _ | enumerated r _ | streakRaised r _ | streakCleared r | holdoffRaised r
  | holdoffCleared r | cursorMoved r _ _ | reviveCounted r _ | reviveCountCleared r => exact { h with }

end Table

/-- Settles O56: the law reads the registers alone, and each change that a step is made of keeps the pattern. -/
theorem stepKeepsNodePattern : Obligations.StepKeepsNodePattern := by
  intro s t law h
  exact (nodesLawful_iff t).mp ((step_change h).nodesLawful ((nodesLawful_iff s).mpr law))

end Sys2Proof.Machine
end

section
/-! ## TICK and REVIVAL_POINT -/

namespace Sys2Proof.Machine

/-! ### TICK (R65, R107, R109, R132, R171) -/

section Tick
variable {s : State}

/-- The state after a TICK. -/
def State.ticked (s : State) : State := s.settleTick.countTick.revivalTick.holdoffTick.scanStep

theorem exec_tick (live : s.inReset = false) : exec .tick s = .next s.ticked :=
  live_of_live (f := State.ticked) live

theorem isExpired_controller_iff {now : Word32} {c : CtlRecord} : (ExRecord.controller c).isExpired now = false ↔
    c.ageLimit = 0#8 ∨ (now - c.arrival).toNat < c.ageLimit.toNat := by
  simp only [ExRecord.isExpired, Bool.and_eq_false_iff, decide_eq_false_iff_not, not_not, Nat.not_le]

/-- Only CONTROLLER records age (R25). -/
theorem nothing_expired (young : ∀ c, .controller c ∈ s.queue.all →
    c.ageLimit = 0#8 ∨ (s.timer.count - c.arrival).toNat < c.ageLimit.toNat) :
    ∀ r ∈ s.queue.all, r.isExpired s.timer.count = false := by
  intro r queued
  cases r with
  | controller c => exact isExpired_controller_iff.mpr (young c queued)
  | scan c => rfl
  | probe n => rfl

theorem scanning_iff : s.scanning = true ↔ s.params.scanEnable = 1 ∧ s.portU.link = .up := by
  simp [State.scanning]

theorem dueAt_iff {img : Image} {time : Nat} :
    dueAt img time = true ↔ img.valid = true ∧ img.scanPhase ≤ time ∧ img.scanInterval ∣ time - img.scanPhase := by
  simp only [dueAt, Bool.and_eq_true, decide_eq_true_eq, and_assoc, Nat.dvd_iff_mod_eq_zero]

/-- The revival count of a tick touches the count and the mark of the revival point alone. -/
theorem revivalTick_scan_frame (s : State) : s.revivalTick.scan = { s.scan with
    reviveCount := s.revivalTick.scan.reviveCount, revivalOwed := s.revivalTick.scan.revivalOwed } := by
  rw [revivalTick_scan]
  split
  · rfl
  · split <;> rfl

/-- The scan step of a tick touches scan time, its start and the owed dues alone. -/
theorem scanStep_scan_frame (s : State) : s.scanStep.scan = { s.scan with
    time := s.scanStep.scan.time, startPending := s.scanStep.scan.startPending
    duesOwed := s.scanStep.scan.duesOwed } := by
  rw [scanStep_scan]
  split <;> rfl

theorem ticked_timer (s : State) : s.ticked.timer = { count := s.timer.count + 1#32, period := s.params.tickPeriod } := by
  have counted : s.ticked.timer = s.settleTick.countTick.timer := by simp [State.ticked]
  rw [counted, State.countTick, settleTick_timer, settleTick_params]

theorem ticked_notice (s : State) : s.ticked.notice = { s.notice with holdoff := min (s.notice.holdoff + 1) 255 } := by
  simp [State.ticked, holdoffTick_holdoff]

theorem ticked_scan_kept (s : State) : s.ticked.scan.records = s.settleTick.scan.records ∧
    s.ticked.scan.reviveCursor = s.settleTick.scan.reviveCursor ∧ s.ticked.scan.retired = s.scan.retired := by
  rw [State.ticked, scanStep_scan_frame, holdoffTick_scan, revivalTick_scan_frame, countTick_scan]
  exact ⟨rfl, rfl, settleTick_retired s⟩

theorem ticked_revival (s : State) : s.ticked.scan.reviveCount = s.settleTick.countTick.revivalTick.scan.reviveCount ∧
    s.ticked.scan.revivalOwed = s.settleTick.countTick.revivalTick.scan.revivalOwed := by
  rw [State.ticked, scanStep_scan_frame, holdoffTick_scan]
  exact ⟨rfl, rfl⟩

/-- The revival count starts from what the settling leaves of it: the count itself, and no revival point owed. -/
theorem settled_revivalTick_scan (s : State) : s.settleTick.countTick.revivalTick.scan =
    if s.params.reviveInterval = 0 then { s.settleTick.scan with reviveCount := 0 }
    else if s.params.reviveInterval ≤ s.scan.reviveCount + 1 then
      { s.settleTick.scan with reviveCount := 0, revivalOwed := true }
    else { s.settleTick.scan with reviveCount := s.scan.reviveCount + 1 } := by
  rw [revivalTick_scan, countTick_scan, countTick_params, settleTick_params, settleTick_scan_reviveCount]

/-- The scan step of a tick reads the banks, SCAN_ENABLE and the link of the state before the tick (R107, R109). -/
theorem ticked_scan (s : State) : s.ticked.scan.time =
      (if s.scanning ∧ s.scan.startPending = false then s.scan.time + 1#32 else s.scan.time) ∧
    s.ticked.scan.startPending = (s.scan.startPending && !s.scanning) ∧
    s.ticked.scan.duesOwed = if s.scanning then duesAt s.active s.ticked.scan.time.toNat else [] := by
  have scanning : s.settleTick.countTick.revivalTick.holdoffTick.scanning = s.scanning := by simp [State.scanning]
  have active : s.settleTick.countTick.revivalTick.holdoffTick.active = s.active :=
    active_congr (by simp) (by simp) (by simp)
  have before : s.settleTick.countTick.revivalTick.holdoffTick.scan.time = s.scan.time ∧
      s.settleTick.countTick.revivalTick.holdoffTick.scan.startPending = s.scan.startPending ∧
      s.settleTick.countTick.revivalTick.holdoffTick.scan.duesOwed = [] := by
    rw [holdoffTick_scan, revivalTick_scan_frame, countTick_scan]
    exact ⟨settleTick_scan_time s, settleTick_scan_startPending s, settleTick_duesOwed s⟩
  obtain ⟨time, start, dues⟩ := before
  rw [State.ticked, scanStep_scan, scanning, active, time, start]
  cases s.scanning
  · simp only [Bool.false_eq_true, false_and, if_false, Bool.not_false, Bool.and_true]
    exact ⟨time, start, dues⟩
  · cases s.scan.startPending <;> simp

end Tick

/-- Settles O6: the ticking starts from what the settling leaves, which keeps the counts, the timer and the banks. -/
theorem tickCountsAndTakesOneScanStep : Obligations.TickCountsAndTakesOneScanStep := by
  intro s live
  obtain ⟨records, cursor, retired⟩ := ticked_scan_kept s
  obtain ⟨count, owed⟩ := ticked_revival s
  obtain ⟨time, start, dues⟩ := ticked_scan s
  rw [settled_revivalTick_scan] at count owed
  refine ⟨s.ticked, exec_tick live, tick_frame s.settleTick, ticked_timer s, ticked_notice s, records, cursor, retired,
    fun noPoint noDues young => settleTick_nothing (nothing_expired young) noPoint noDues, fun off => ?_,
    fun on => ⟨fun point => ?_, fun short => ?_⟩, fun still => ?_, fun running => ?_⟩
  · rw [if_pos off] at count owed
    exact ⟨count, owed.trans (settleTick_owed s)⟩
  · rw [if_neg on, if_pos point] at count owed
    exact ⟨count, owed⟩
  · rw [if_neg on, if_neg (Nat.not_le.mpr short)] at count owed
    exact ⟨count, owed.trans (settleTick_owed s)⟩
  · have off : s.scanning = false := by rwa [Bool.eq_false_iff, Ne, scanning_iff]
    rw [time, start, dues, off]
    simp
  · have on : s.scanning = true := scanning_iff.mpr running
    rw [on, if_pos rfl] at dues
    refine ⟨?_, ?_, ?_, fun i => ?_⟩
    · rw [time, on]
      cases s.scan.startPending <;> simp
    · rw [start, on, Bool.not_true, Bool.and_false]
    · rw [dues]
      exact duesAt_sorted _ _
    · rw [dues, mem_duesAt, dueAt_iff]
      simp

/-! ### REVIVAL_POINT (R66) -/

section Revival
variable {s : State}

theorem exec_revivalPoint (live : s.inReset = false) : exec .revivalPoint s = .next s.settleRevival := live_of_live live

theorem settleRevival_of_owed (owed : s.scan.revivalOwed = true) :
    s.settleRevival = State.reviveNow { s with scan := { s.scan with revivalOwed := false } } := if_pos owed

/-- A node's turn, counted from the cursor on with wrap-around. -/
def revivalTurn (cursor n : Nat) : Nat := if cursor < n then n else n + 31

/-- The nodes are examined in the order of their turns. -/
theorem revivalOrder_sorted (cursor : Nat) :
    (revivalOrder cursor).Pairwise fun a b => revivalTurn cursor a < revivalTurn cursor b := by
  have nodes : ((List.range 31).map (· + 1)).Pairwise (· < ·) :=
    List.pairwise_map.mpr (List.pairwise_lt_range.imp Nat.succ_lt_succ)
  refine List.pairwise_append.mpr ⟨?_, ?_, ?_⟩
  · refine (nodes.filter _).imp_of_mem fun ha hb less => ?_
    have after := (List.mem_filter.mp ha).2
    have after' := (List.mem_filter.mp hb).2
    simp only [decide_eq_true_eq] at after after'
    rwa [revivalTurn, revivalTurn, if_pos after, if_pos after']
  · refine (nodes.filter _).imp_of_mem fun ha hb less => ?_
    have upTo := (List.mem_filter.mp ha).2
    have upTo' := (List.mem_filter.mp hb).2
    simp only [decide_eq_true_eq] at upTo upTo'
    rw [revivalTurn, revivalTurn, if_neg (Nat.not_lt.mpr upTo), if_neg (Nat.not_lt.mpr upTo')]
    exact Nat.add_lt_add_right less 31
  · intro a ha b hb
    simp only [List.mem_filter, List.mem_map, List.mem_range, decide_eq_true_eq] at ha hb
    obtain ⟨⟨k, hk, rfl⟩, after⟩ := ha
    obtain ⟨⟨j, hj, rfl⟩, upTo⟩ := hb
    rw [revivalTurn, revivalTurn, if_pos after, if_neg (Nat.not_lt.mpr upTo)]
    omega

/-- The node found is the one whose turn comes first among those looked for. -/
theorem find_revivalOrder {p : Nat → Bool} {cursor n : Nat} (low : 1 ≤ n) (high : n ≤ 31) (hp : p n = true)
    (first : ∀ m, 1 ≤ m → m ≤ 31 → p m = true → revivalTurn cursor n ≤ revivalTurn cursor m) :
    (revivalOrder cursor).find? p = some n := by
  obtain ⟨before, after, order⟩ := List.append_of_mem (mem_revivalOrder (cursor := cursor).mpr ⟨low, high⟩)
  have sorted := revivalOrder_sorted cursor
  rw [order, List.pairwise_append] at sorted
  obtain ⟨-, -, turns⟩ := sorted
  refine List.find?_eq_some_iff_append.mpr ⟨hp, before, after, order, fun m hm => ?_⟩
  obtain ⟨low', high'⟩ := mem_revivalOrder.mp (order ▸ List.mem_append_left _ hm : m ∈ revivalOrder cursor)
  have earlier := turns m hm n (List.mem_cons_self ..)
  rw [Bool.not_eq_true', Bool.eq_false_iff]
  exact fun hit => absurd (first m low' high' hit) (Nat.not_le.mpr earlier)

theorem reviveNow_idle (idle : s.probeOutstanding = true ∨ ∀ m, s.nodeOffline m = false) : s.reviveNow = s := by
  unfold State.reviveNow
  split
  · rfl
  · next free =>
    have absent : (revivalOrder s.scan.reviveCursor).find? (fun n => s.nodeOffline n) = none :=
      List.find?_eq_none.mpr fun m _ => by simp [idle.resolve_left free m]
    rw [absent]

theorem reviveNow_found {n : Nat} (free : s.probeOutstanding = false)
    (found : (revivalOrder s.scan.reviveCursor).find? (fun m => s.nodeOffline m) = some n) :
    s.reviveNow = if s.params.classReserve < 48 - s.queue.size then { s with
      queue := { s.queue with c3 := s.queue.c3 ++ [.probe n] }, scan := { s.scan with reviveCursor := n } } else s := by
  have room : s.admits 3#2 = decide (s.params.classReserve < 48 - s.queue.size) := rfl
  rw [State.reviveNow, free, found, room]
  simp only [Bool.false_eq_true, if_false, decide_eq_true_eq]
  rfl

end Revival

/-- Settles O8: the first OFFLINE node of the order is the one whose turn comes first, and the capacity rule decides. -/
theorem revivalPointProbesTheNextOfflineNode : Obligations.RevivalPointProbesTheNextOfflineNode := by
  intro s u live hu
  rw [exec_revivalPoint live]
  refine ⟨fun nothing => by rw [settleRevival_nothing nothing], fun owed => ?_⟩
  rw [settleRevival_of_owed owed, ← hu]
  have nodes : ∀ m, u.nodeOffline m = s.nodeOffline m := fun m => by rw [hu]; rfl
  have probes : u.probeOutstanding = s.probeOutstanding := by rw [hu]; rfl
  refine ⟨fun idle => ?_, fun n free low high offline first => ?_⟩
  · rw [reviveNow_idle (idle.imp (probes.trans ·) fun healthy m => ?_)]
    rw [nodes, Bool.eq_false_iff, Ne, nodeOffline_iff]
    exact fun ⟨low, high, offline⟩ => healthy m low high offline
  · have found : (revivalOrder u.scan.reviveCursor).find? (fun m => u.nodeOffline m) = some n := by
      refine find_revivalOrder low high ((nodes n).trans (nodeOffline_iff.mpr ⟨low, high, offline⟩)) ?_
      intro m low' high' hm
      rw [nodes, nodeOffline_iff] at hm
      rw [hu]
      exact first m low' high' hm.2.2
    rw [reviveNow_found (probes.trans free) found]
    subst hu
    exact ⟨fun room => by rw [if_pos room], fun full => by rw [if_neg (Nat.not_lt.mpr full)]⟩

end Sys2Proof.Machine
end

section
/-! ## NODE_RESET and NODE_READ -/

namespace Sys2Proof.Machine

/-! ### The bytes of a node record (R70, R189) -/

/-- Bit fields of a byte that do not overlap add up. -/
theorem or_toNat_of_aligned {a b : Byte} (k : Nat) (aligned : 2 ^ k ∣ a.toNat) (small : b.toNat < 2 ^ k) :
    (a ||| b).toNat = a.toNat + b.toNat := by
  obtain ⟨q, hq⟩ := aligned
  have shifted : a.toNat = q <<< k := by rw [Nat.shiftLeft_eq, hq, Nat.mul_comm]
  rw [BitVec.toNat_or, shifted, Nat.shiftLeft_add_eq_or_of_lt small]

theorem flagBit_toNat {b : Bool} {p : Prop} [Decidable p] (h : b = true ↔ p) {i : Nat} (hi : i < 8) :
    (flagBit b i).toNat = bitIf p (2 ^ i) := by
  unfold bitIf
  split
  · next set =>
    rw [h.mpr set]
    interval_cases i <;> rfl
  · next clear =>
    rw [Bool.eq_false_iff.mpr (clear ∘ h.mp)]
    interval_cases i <;> rfl

theorem bitIf_le (p : Prop) [Decidable p] (w : Nat) : bitIf p w = 0 ∨ bitIf p w = w := by
  unfold bitIf
  split
  · exact .inr rfl
  · exact .inl rfl

theorem NodeState.code_lt (st : NodeState) : st.code.toNat < 4 := by cases st <;> decide

theorem nodeInFlight_iff {s : State} {n : Nat} :
    s.nodeInFlight n = true ↔ ∃ r, s.inflightRecord = some r ∧ r.node = n := by
  unfold State.nodeInFlight
  cases s.inflightRecord <;> simp

/-- The second byte of a node record: state, sync, next toggle, in flight, failures, from bit 7 down. -/
theorem nodeByte_eq {st : NodeState} {a b c : Bool} {p q r : Prop} [Decidable p] [Decidable q] [Decidable r] {k : Nat}
    (ha : a = true ↔ p) (hb : b = true ↔ q) (hc : c = true ↔ r) (hk : k ≤ 7) :
    (st.code <<< 6) ||| flagBit a 5 ||| flagBit b 4 ||| flagBit c 3 ||| byteOf k =
      BitVec.ofNat 8 (st.code.toNat * 64 + bitIf p 32 + bitIf q 16 + bitIf r 8 + k) := by
  have state : (st.code <<< 6).toNat = st.code.toNat * 64 := by cases st <;> rfl
  have sync : (flagBit a 5).toNat = bitIf p 32 := flagBit_toNat ha (by decide)
  have toggle : (flagBit b 4).toNat = bitIf q 16 := flagBit_toNat hb (by decide)
  have flying : (flagBit c 3).toNat = bitIf r 8 := flagBit_toNat hc (by decide)
  have count : (byteOf k).toNat = k := by
    rw [byteOf, BitVec.toNat_ofNat]
    omega
  have code := st.code_lt
  have hp := bitIf_le p 32
  have hq := bitIf_le q 16
  have hr := bitIf_le r 8
  have sum₅ := or_toNat_of_aligned (a := st.code <<< 6) (b := flagBit a 5) 6 (by omega) (by omega)
  have sum₄ := or_toNat_of_aligned (b := flagBit b 4) 5 (by rw [sum₅]; omega) (by omega)
  have sum₃ := or_toNat_of_aligned (b := flagBit c 3) 4 (by rw [sum₄]; omega) (by omega)
  have sum := or_toNat_of_aligned (b := byteOf k) 3 (by rw [sum₃]; omega) (by omega)
  apply BitVec.eq_of_toNat_eq
  rw [sum, sum₃, sum₄, sum₅, state, sync, toggle, flying, count, BitVec.toNat_ofNat]
  omega

theorem nodeBytes_eq {s : State} {m : Nat} {i : Byte} {busy : Prop} [Decidable busy] (hm : m = i.toNat)
    (flying : s.nodeInFlight m = true ↔ busy) (few : (s.node m).failures ≤ 7) : s.nodeBytes m = [
      i,
      BitVec.ofNat 8 ((s.node m).state.code.toNat * 64 + bitIf ((s.node m).sync = .needsSync) 32 +
        bitIf ((s.node m).nextToggle = true) 16 + bitIf busy 8 + (s.node m).failures),
      outcomeByte (s.node m).lastOutcome] := by
  have number : byteOf m = i := by rw [byteOf, hm, BitVec.ofNat_toNat, BitVec.setWidth_eq]
  rw [State.nodeBytes, number, nodeByte_eq decide_eq_true_iff Iff.rfl flying few]

/-! ### The commands (R68, R70) -/

section Command
variable {s : State} {f : Frame} {rest : List Frame} {n m : Nat} {i : Byte}

theorem isNode_iff {m : Nat} : isNode m = true ↔ 1 ≤ m ∧ m ≤ 31 := by simp [isNode]

theorem isNode_outside (outside : m = 0 ∨ 31 < m) : isNode m = false := by
  rw [Bool.eq_false_iff, Ne, isNode_iff]
  omega

theorem exec_nodeReset (head : s.HeadCommand .nodeReset [i] f rest n) : exec .nodeReset s =
    .next ((runNodeReset [i] (s.took rest n)).state.answered f n (runNodeReset [i] (s.took rest n)).code
      (runNodeReset [i] (s.took rest n)).payload) := by
  rw [exec, execNodeReset, live_of_live head.live, head.dispatch_run rfl]

theorem exec_nodeRead (head : s.HeadCommand .nodeRead [i] f rest n) : exec .nodeRead s =
    .next ((runNodeRead [i] (s.took rest n)).state.answered f n (runNodeRead [i] (s.took rest n)).code
      (runNodeRead [i] (s.took rest n)).payload) := by
  rw [exec, execNodeRead, live_of_live head.live, head.dispatch_run rfl]

theorem runNodeReset_eq (hm : m = i.toNat) (s : State) : runNodeReset [i] s =
    if isNode m = false then refuseCommand s .badIndex [i]
    else if s.nodeInFlight m then refuseCommand s .nodeBusy [i]
    else { state := s.setNode m {}, code := .done, payload := [i] } := by
  subst hm
  unfold runNodeReset
  cases known : isNode i.toNat
  · simp [opByte, known]
  · simp [opByte, known]

theorem runNodeRead_eq (hm : m = i.toNat) (s : State) : runNodeRead [i] s =
    if isNode m = false then refuseCommand s .badIndex []
    else { state := s, code := .done, payload := s.nodeBytes m } := by
  subst hm
  unfold runNodeRead
  cases known : isNode i.toNat
  · simp [opByte, known]
  · simp [opByte, known]

end Command

/-- Settles O39: the index is judged first, then the exchange in flight; the record read is the node's, field by field. -/
theorem nodeRecordsAreResetAndRead : Obligations.NodeRecordsAreResetAndRead := by
  intro s t f rest n m i busy _ hm ht hbusy
  have flying : t.nodeInFlight m = true ↔ busy := by
    rw [nodeInFlight_iff, hbusy, ht]
    rfl
  have known (low : 1 ≤ m) (high : m ≤ 31) : ¬isNode m = false := by
    rw [isNode_iff.mpr ⟨low, high⟩]
    decide
  refine ⟨rfl, fun _ => rfl, fun head => ?_, fun head => ?_⟩
  · rw [exec_nodeReset head, ← ht, runNodeReset_eq hm]
    refine ⟨fun outside => ?_, fun low high inFlight => ?_, fun low high free => ?_⟩
    · rw [if_pos (isNode_outside outside)]
      rfl
    · rw [if_neg (known low high), if_pos (flying.mpr inFlight)]
      rfl
    · rw [if_neg (known low high), if_neg (free ∘ flying.mp)]
      dsimp only
      rw [setNode_frame, setNode_nodes, setNode_notice, ht]
      rfl
  · rw [exec_nodeRead head, ← ht, runNodeRead_eq hm]
    refine ⟨fun outside => ?_, fun low high few => ?_⟩
    · rw [if_pos (isNode_outside outside)]
      rfl
    · rw [if_neg (known low high)]
      dsimp only
      subst ht
      rw [nodeBytes_eq hm flying few]
      rfl

end Sys2Proof.Machine
end

section
/-! ## The sweep: the entries of a bank in one order, from the cursor on and before it -/

namespace Sys2Proof

/-- The members of a table are its entries. -/
theorem mem_toList_iff_vget {α : Type} {n : Nat} (v : Vector α n) (d x : α) :
    x ∈ v.toList ↔ ∃ k, k < n ∧ vget v k d = x := by
  constructor
  · intro h
    obtain ⟨k, hk, e⟩ := List.getElem_of_mem h
    have inside : k < n := by simpa using hk
    exact ⟨k, inside, by simpa [vget, inside] using e⟩
  · rintro ⟨k, hk, rfl⟩
    exact vget_mem v k d hk

theorem mem_take_iff_vget {α : Type} {n : Nat} (v : Vector α n) (d x : α) (m : Nat) :
    x ∈ v.toList.take m ↔ ∃ k, k < m ∧ k < n ∧ vget v k d = x := by
  rw [List.mem_take_iff_getElem]
  constructor
  · rintro ⟨k, hk, e⟩
    have inside : k < n := by have : k < min m v.toList.length := hk; simp at this; omega
    exact ⟨k, by omega, inside, by simpa [vget, inside] using e⟩
  · rintro ⟨k, low, inside, e⟩
    exact ⟨k, by simp; omega, by simpa [vget, inside] using e⟩

theorem getElem?_toList {α : Type} {n : Nat} (v : Vector α n) (d : α) {k : Nat} (h : k < n) :
    v.toList[k]? = some (vget v k d) := by
  simp [vget, h]

end Sys2Proof

namespace Sys2Proof.Machine

/-! ### The first failing entry of a table (R95) -/

section First
variable {fails : Image → Option Reason}

theorem firstFailing_eq_none {i : Nat} {l : List Image} :
    firstFailing fails i l = none ↔ ∀ img ∈ l, fails img = none := by
  induction l generalizing i with
  | nil => simp [firstFailing]
  | cons img l ih =>
    rw [firstFailing, List.forall_mem_cons]
    cases judged : fails img with
    | none => simpa using ih
    | some r => simp

theorem firstFailing_eq_some {i k : Nat} {l : List Image} {img : Image} {r : Reason} (entry : l[k]? = some img)
    (failing : fails img = some r) (before : ∀ j < k, ∀ x, l[j]? = some x → fails x = none) :
    firstFailing fails i l = some (i + k, r) := by
  induction l generalizing i k with
  | nil => simp at entry
  | cons a l ih =>
    rw [firstFailing]
    cases k with
    | zero =>
      obtain rfl : a = img := by simpa using entry
      rw [failing]
      rfl
    | succ k =>
      rw [before 0 (Nat.succ_pos k) a rfl]
      have later := ih (i := i + 1) (k := k) (by simpa using entry)
        fun j hj x hx => before (j + 1) (Nat.succ_lt_succ hj) x (by simpa using hx)
      rw [later, Nat.add_assoc, Nat.add_comm 1 k]

variable {n : Nat} {v : Vector Image n} {i : Nat}

theorem firstFailing_drop_eq_none : firstFailing fails i (v.toList.drop i) = none ↔
    ∀ k, i ≤ k → k < n → fails (vget v k Image.zero) = none := by
  rw [firstFailing_eq_none]
  constructor
  · intro h k low high
    refine h _ (List.mem_of_getElem? (i := k - i) ?_)
    rw [List.getElem?_drop, Nat.add_sub_cancel' low, getElem?_toList v Image.zero high]
  · intro h img hm
    obtain ⟨j, hj⟩ := List.getElem?_of_mem hm
    rw [List.getElem?_drop] at hj
    have inside : i + j < n := by simpa using (List.getElem?_eq_some_iff.mp hj).1
    obtain rfl : vget v (i + j) Image.zero = img := by
      rw [getElem?_toList v Image.zero inside] at hj
      exact Option.some.inj hj
    exact h _ (Nat.le_add_right i j) inside

theorem firstFailing_drop_eq_some {k : Nat} {r : Reason} (low : i ≤ k) (high : k < n)
    (failing : fails (vget v k Image.zero) = some r)
    (before : ∀ j, i ≤ j → j < k → fails (vget v j Image.zero) = none) :
    firstFailing fails i (v.toList.drop i) = some (k, r) := by
  have entry {j : Nat} (inside : i + j < n) : (v.toList.drop i)[j]? = some (vget v (i + j) Image.zero) := by
    rw [List.getElem?_drop, getElem?_toList v Image.zero inside]
  obtain ⟨m, rfl⟩ := Nat.exists_eq_add_of_le low
  refine firstFailing_eq_some (entry high) failing fun j hj x hx => ?_
  rw [entry (by omega)] at hx
  exact Option.some.inj hx ▸ before _ (Nat.le_add_right i j) (by omega)

end First

/-! ### The entries in the sweep's order (R95) -/

section Order
variable {b : Bank} {c : Cursor}

theorem entryFails_route {k : Nat} (h : k < 128) : b.entryFails k = routeFails (vget b.routes k Image.zero) := if_pos h

theorem entryFails_scan (k : Nat) : b.entryFails (128 + k) = scanFails (vget b.scans k Image.zero) := by
  rw [Bank.entryFails, if_neg (by omega), Nat.add_sub_cancel_left]

/-- The entries from a place on pass when those of both tables do. -/
theorem entriesPass_iff (low : Nat) : (∀ k, low ≤ k → k < 160 → b.entryFails k = none) ↔
    (∀ k, low ≤ k → k < 128 → routeFails (vget b.routes k Image.zero) = none) ∧
      ∀ k, low ≤ 128 + k → k < 32 → scanFails (vget b.scans k Image.zero) = none := by
  constructor
  · intro h
    exact ⟨fun k from_ high => entryFails_route (b := b) high ▸ h k from_ (by omega),
      fun k from_ high => entryFails_scan (b := b) k ▸ h (128 + k) from_ (by omega)⟩
  · rintro ⟨routes, scans⟩ k from_ high
    rcases Nat.lt_or_ge k 128 with route | scan
    · rw [entryFails_route route]
      exact routes k from_ route
    · obtain ⟨j, rfl⟩ := Nat.exists_eq_add_of_le scan
      rw [entryFails_scan]
      exact scans j from_ (by omega)

theorem place_route (i : Nat) : Cursor.place { table := .route, index := i } = min i 128 := rfl

theorem place_scan (i : Nat) : Cursor.place { table := .scan, index := i } = 128 + i := rfl

theorem sweepFrom_route (b : Bank) (i : Nat) : sweepFrom b { table := .route, index := i } =
    match firstFailing routeFails i (b.routes.toList.drop i) with
    | some (k, r) => some (.route, k, r)
    | none => sweepFrom b { table := .scan, index := 0 } := rfl

theorem sweepFrom_scan (b : Bank) (i : Nat) : sweepFrom b { table := .scan, index := i } =
    (firstFailing scanFails i (b.scans.toList.drop i)).map fun x => (.scan, x) := by
  unfold sweepFrom
  dsimp only
  split <;> simp [*]

theorem sweepFrom_scan_eq_none {i : Nat} : sweepFrom b { table := .scan, index := i } = none ↔
    ∀ k, i ≤ k → k < 32 → scanFails (vget b.scans k Image.zero) = none := by
  rw [sweepFrom_scan, Option.map_eq_none_iff, firstFailing_drop_eq_none]

/-- The sweep ends without a failing entry when every entry from the cursor on passes (R95). -/
theorem sweepFrom_eq_none : sweepFrom b c = none ↔ ∀ k, c.place ≤ k → k < 160 → b.entryFails k = none := by
  rw [entriesPass_iff]
  obtain ⟨table, i⟩ := c
  cases table with
  | scan =>
    rw [sweepFrom_scan_eq_none, place_scan]
    constructor
    · exact fun scans => ⟨fun k low high => by omega, fun k low high => scans k (by omega) high⟩
    · exact fun ⟨_, scans⟩ k low high => scans k (by omega) high
  | route =>
    have routes : (∀ k, min i 128 ≤ k → k < 128 → routeFails (vget b.routes k Image.zero) = none) ↔
        firstFailing routeFails i (b.routes.toList.drop i) = none := by
      rw [firstFailing_drop_eq_none]
      exact forall_congr' fun k => ⟨fun h low => h (by omega), fun h low high => h (by omega) high⟩
    have scans : (∀ k, min i 128 ≤ 128 + k → k < 32 → scanFails (vget b.scans k Image.zero) = none) ↔
        sweepFrom b { table := .scan, index := 0 } = none := by
      rw [sweepFrom_scan_eq_none]
      exact forall_congr' fun k => ⟨fun h _ => h (by omega), fun h _ => h (Nat.zero_le k)⟩
    rw [place_route, routes, scans, sweepFrom_route]
    cases firstFailing routeFails i (b.routes.toList.drop i) with
    | none => simp
    | some x => simp

theorem sweepFrom_scan_eq_some {i k : Nat} {r : Reason} (low : i ≤ k) (high : k < 32)
    (failing : scanFails (vget b.scans k Image.zero) = some r)
    (before : ∀ j, i ≤ j → j < k → scanFails (vget b.scans j Image.zero) = none) :
    sweepFrom b { table := .scan, index := i } = some (.scan, k, r) := by
  rw [sweepFrom_scan, firstFailing_drop_eq_some low high failing before]
  rfl

/-- The sweep stops at the first entry that fails from the cursor on (R95, R96). -/
theorem sweepFrom_eq_some {k : Nat} {r : Reason} (low : c.place ≤ k) (high : k < 160)
    (failing : b.entryFails k = some r) (before : ∀ j, c.place ≤ j → j < k → b.entryFails j = none) :
    sweepFrom b c = some (if k < 128 then .route else .scan, if k < 128 then k else k - 128, r) := by
  obtain ⟨table, i⟩ := c
  rcases Nat.lt_or_ge k 128 with route | scan
  · rw [entryFails_route route] at failing
    simp only [if_pos route]
    cases table with
    | scan => exact absurd low (by rw [place_scan]; omega)
    | route =>
      rw [place_route] at low before
      rw [sweepFrom_route, firstFailing_drop_eq_some (by omega) route failing]
      intro j from_ hj
      exact entryFails_route (b := b) (Nat.lt_trans hj route) ▸ before j (by omega) hj
  · obtain ⟨m, rfl⟩ := Nat.exists_eq_add_of_le scan
    rw [entryFails_scan] at failing
    simp only [if_neg (Nat.not_lt.mpr scan), Nat.add_sub_cancel_left]
    cases table with
    | scan =>
      rw [place_scan] at low before
      refine sweepFrom_scan_eq_some (by omega) (by omega) failing fun j from_ hj => ?_
      exact entryFails_scan (b := b) j ▸ before (128 + j) (by omega) (by omega)
    | route =>
      rw [place_route] at before
      have routes : firstFailing routeFails i (b.routes.toList.drop i) = none := by
        rw [firstFailing_drop_eq_none]
        intro j from_ hj
        exact entryFails_route (b := b) hj ▸ before j (by omega) (by omega)
      rw [sweepFrom_route, routes]
      refine sweepFrom_scan_eq_some (Nat.zero_le m) (by omega) failing fun j _ hj => ?_
      exact entryFails_scan (b := b) j ▸ before (128 + j) (by omega) (by omega)

/-- What the sweep has passed is every entry before its cursor (R95). -/
theorem passedBefore_iff : b.PassedBefore c ↔ ∀ k, k < c.place → k < 160 → b.entryFails k = none := by
  obtain ⟨table, i⟩ := c
  cases table with
  | route =>
    simp only [Bank.PassedBefore, place_route, mem_take_iff_vget _ Image.zero]
    constructor
    · intro h k before _
      rw [entryFails_route (by omega)]
      exact h _ ⟨k, by omega, by omega, rfl⟩
    · rintro h _ ⟨k, before, route, rfl⟩
      exact entryFails_route (b := b) route ▸ h k (by omega) (by omega)
  | scan =>
    simp only [Bank.PassedBefore, place_scan, mem_take_iff_vget _ Image.zero, mem_toList_iff_vget _ Image.zero]
    constructor
    · rintro ⟨routes, scans⟩ k before high
      rcases Nat.lt_or_ge k 128 with route | scan
      · rw [entryFails_route route]
        exact routes _ ⟨k, route, rfl⟩
      · obtain ⟨m, rfl⟩ := Nat.exists_eq_add_of_le scan
        rw [entryFails_scan]
        exact scans _ ⟨m, by omega, by omega, rfl⟩
    · intro h
      constructor
      · rintro _ ⟨k, route, rfl⟩
        exact entryFails_route (b := b) route ▸ h k (by omega) (by omega)
      · rintro _ ⟨k, before, high, rfl⟩
        exact entryFails_scan (b := b) k ▸ h (128 + k) (by omega) (by omega)

theorem sweepAdvance_route (b : Bank) (i : Nat) : sweepAdvance b { table := .route, index := i } =
    if routeFails (vget b.routes i Image.zero) = none then
      if i < 127 then { table := .route, index := i + 1 } else { table := .scan, index := 0 }
    else { table := .route, index := i } := rfl

theorem sweepAdvance_scan (b : Bank) (i : Nat) : sweepAdvance b { table := .scan, index := i } =
    if scanFails (vget b.scans i Image.zero) = none ∧ i < 31 then { table := .scan, index := i + 1 }
    else { table := .scan, index := i } := rfl

/-- The cursor moves past an entry that passes, or stays (R95). -/
theorem sweepAdvance_passes {k : Nat} (h : k < (sweepAdvance b c).place) : k < c.place ∨ b.entryFails k = none := by
  obtain ⟨table, i⟩ := c
  cases table with
  | route =>
    rw [sweepAdvance_route] at h
    split at h
    · next passes =>
      have reached : k < min (i + 1) 128 := by
        split at h
        · exact h
        · rw [place_scan] at h
          omega
      rcases Nat.lt_or_ge k (min i 128) with before | here
      · exact .inl before
      · obtain rfl : k = i := by omega
        exact .inr ((entryFails_route (by omega)).trans passes)
    · exact .inl h
  | scan =>
    rw [sweepAdvance_scan] at h
    split at h
    · next passes =>
      rw [place_scan] at h
      rcases Nat.lt_or_ge k (128 + i) with before | here
      · exact .inl before
      · obtain rfl : k = 128 + i := by omega
        exact .inr ((entryFails_scan i).trans passes.1)
    · exact .inl h

end Order

end Sys2Proof.Machine
end

section
/-! ## What a step can do to the banks

The law of the banks reads the ACTIVE bank, the SHADOW bank and the sweep's cursor alone. Most commands leave these
three as they were; the law follows by cases on what the others do to them. -/

namespace Sys2Proof.Machine

/-! ### The banks and their changes -/

/-- What the law of the banks reads. -/
structure Banks where
  active : Bank := {}
  shadow : Bank := {}
  cursor : Option Cursor := none

def State.banks (s : State) : Banks where
  active := s.active
  shadow := s.shadow
  cursor := s.commit.map PendingCommit.cursor

/-- The changes of the banks and of the sweep's cursor that a step can make. -/
inductive BankChange : Banks → Banks → Prop where
  | same (r) : BankChange r r
  /-- R102, R161: a hard reset, and level FULL of a soft reset. -/
  | reset (r) : BankChange r {}
  /-- R91, R93: TABLE_WRITE and SHADOW_LOAD, while no commit is pending. -/
  | shadowWritten (r) (b : Bank) (idle : r.cursor = none) : BankChange r { r with shadow := b }
  /-- R94 -/
  | sweepBegun (r) : BankChange r { r with cursor := some { table := .route, index := 0 } }
  /-- R95 -/
  | sweepAdvanced (r c) (sweeping : r.cursor = some c) :
      BankChange r { r with cursor := some (sweepAdvance r.shadow c) }
  /-- R96, R102 -/
  | sweepEnded (r) : BankChange r { r with cursor := none }
  /-- R97 -/
  | swapped (r c) (sweeping : r.cursor = some c) (passed : sweepFrom r.shadow c = none) :
      BankChange r { active := r.shadow, shadow := r.active, cursor := none }

theorem BankChange.of_eq {a b : Banks} (h : b = a) : BankChange a b := h ▸ .same a

/-- The law of the banks, by the places of the sweep's order. -/
structure Banks.Lawful (r : Banks) : Prop where
  active : ∀ k, k < 160 → r.active.entryFails k = none
  passed : ∀ c, r.cursor = some c → ∀ k, k < c.place → k < 160 → r.shadow.entryFails k = none

theorem entriesPass_iff_mem {b : Bank} : (∀ k, k < 160 → b.entryFails k = none) ↔
    (∀ img ∈ b.routes.toList, routeFails img = none) ∧ ∀ img ∈ b.scans.toList, scanFails img = none := by
  have places := entriesPass_iff (b := b) 0
  simp only [Nat.zero_le, forall_const] at places
  simp only [places, mem_toList_iff_vget _ Image.zero, forall_exists_index, and_imp, forall_apply_eq_imp_iff₂]

theorem lawful_iff (s : State) : s.banks.Lawful ↔ s.BankLaw := by
  have sweep : (∀ c, s.banks.cursor = some c → ∀ k, k < c.place → k < 160 → s.shadow.entryFails k = none) ↔
      ∀ c ∈ s.commit, s.shadow.PassedBefore c.cursor := by
    simp only [State.banks, Option.map_eq_some_iff, forall_exists_index, and_imp, forall_apply_eq_imp_iff₂,
      passedBefore_iff, Option.mem_def]
  constructor
  · rintro ⟨active, passed⟩
    obtain ⟨routes, scans⟩ := entriesPass_iff_mem.mp active
    exact ⟨routes, scans, sweep.mp passed⟩
  · rintro ⟨routes, scans, passed⟩
    exact ⟨entriesPass_iff_mem.mpr ⟨routes, scans⟩, sweep.mpr passed⟩

theorem default_lawful_banks : ({} : Banks).Lawful := by
  have zero : ∀ k, ({} : Bank).entryFails k = none := by
    intro k
    have invalid : routeFails Image.zero = none ∧ scanFails Image.zero = none := by decide
    unfold Bank.entryFails
    split
    · rw [vget_replicate]
      exact invalid.1
    · rw [vget_replicate]
      exact invalid.2
  exact { active := fun k _ => zero k, passed := nofun }

theorem BankChange.lawful {a b : Banks} (c : BankChange a b) (h : a.Lawful) : b.Lawful := by
  cases c with
  | same => exact h
  | reset => exact default_lawful_banks
  | shadowWritten b idle => exact { h with passed := fun c hc => by rw [idle] at hc; cases hc }
  | sweepBegun => exact { h with passed := fun c hc k before => by cases hc; exact absurd before (Nat.not_lt_zero k) }
  | sweepAdvanced c sweeping =>
    refine { h with passed := fun d hd k before high => ?_ }
    obtain rfl : sweepAdvance a.shadow c = d := Option.some.inj hd
    rcases sweepAdvance_passes before with earlier | passes
    · exact h.passed c sweeping k earlier high
    · exact passes
  | sweepEnded => exact { h with passed := nofun }
  | swapped c sweeping passed =>
    refine { active := fun k high => ?_, passed := nofun }
    rcases Nat.lt_or_ge k c.place with before | from_
    · exact h.passed c sweeping k before high
    · exact sweepFrom_eq_none.mp passed k from_ high

/-! ### The operations that leave them alone -/

/-- The fields that the banks and the cursor are read from stay as they were. -/
def SameBanks (s t : State) : Prop :=
  t.bank0 = s.bank0 ∧ t.bank1 = s.bank1 ∧ t.activeBank = s.activeBank ∧ t.commit = s.commit

/-- With the banks and their choice as they were, the sweep alone can differ. -/
theorem banks_eq {s t : State} (bank0 : t.bank0 = s.bank0) (bank1 : t.bank1 = s.bank1)
    (active : t.activeBank = s.activeBank) :
    t.banks = { s.banks with cursor := t.commit.map PendingCommit.cursor } := by
  rw [State.banks, active_congr bank0 bank1 active, shadow_congr bank0 bank1 active]
  rfl

theorem BankChange.ended {s t : State} (bank0 : t.bank0 = s.bank0) (bank1 : t.bank1 = s.bank1)
    (active : t.activeBank = s.activeBank) (commit : t.commit = none) : BankChange s.banks t.banks := by
  rw [banks_eq bank0 bank1 active, commit]
  exact .sweepEnded s.banks

theorem SameBanks.banks {s t : State} (h : SameBanks s t) : t.banks = s.banks := by
  obtain ⟨bank0, bank1, active, commit⟩ := h
  rw [banks_eq bank0 bank1 active, commit]
  rfl

theorem live_bankChange {f : State → State} {s t : State} (effect : BankChange s.banks (f s).banks)
    (h : live f s = .next t) : BankChange s.banks t.banks :=
  live_keeps (P := fun u => BankChange s.banks u.banks) (.same _) effect h

/-- An event that leaves the fields as they were. -/
theorem live_same {f : State → State} {s t : State} (effect : SameBanks s (f s)) (h : live f s = .next t) :
    BankChange s.banks t.banks :=
  live_bankChange (.of_eq effect.banks) h

theorem setPort_sameBanks (p : PortId) (q : Port) (s : State) : SameBanks s (s.setPort p q) := by simp [SameBanks]

theorem finishControl_banks (f : Frame) (n : Nat) (r : CommandResult) :
    (finishControl f n r).banks = r.state.banks := by
  rw [finishControl_eq]
  exact SameBanks.banks (by simp [SameBanks])

theorem takeHead_sameBanks {want : Frame → Bool} {s t : State} {f : Frame} {n : Nat}
    (h : s.takeHead want = some (f, n, t)) : SameBanks s t := by
  obtain ⟨-, rest, -, -, rfl⟩ := takeHead_cases h
  simp [SameBanks]

theorem settleBefore_sameBanks (want : Frame → Bool) (s : State) : SameBanks s (s.settleBefore want) := by
  unfold State.settleBefore
  split
  · exact ⟨rfl, rfl, rfl, rfl⟩
  · split
    · simp [SameBanks]
    · exact ⟨rfl, rfl, rfl, rfl⟩

/-- A loss of the uplink takes the slot of the pending commit, and leaves the sweep where it is (R104). -/
theorem enterDown_banks (p : PortId) (s : State) : (s.enterDown p).banks = s.banks := by
  cases p with
  | u =>
    have commit : (s.enterDown .u).commit = s.commit.map fun c => { c with slot := none } := by
      simp [State.enterDown, State.uplinkLoss]
    rw [banks_eq (t := s.enterDown .u) (s := s) (by simp) (by simp) (by simp), commit, Option.map_map]
    rfl
  | d => exact SameBanks.banks (by simp [SameBanks, State.enterDown])

/-! ### The commands' own rules -/

/-- What a command's dispatch does to the banks is what its own rule does. -/
theorem dispatch_bankChange {c : Command} {run : List Byte → State → CommandResult}
    (rule : ∀ ops (u : State), BankChange u.banks (run ops u).state.banks) (s : State) :
    BankChange s.banks (dispatch c run s).banks := by
  unfold dispatch
  split
  · exact .same _
  · next ht =>
    rw [finishControl_banks, ← (takeHead_sameBanks ht).banks]
    unfold runCommand
    split
    · exact rule _ _
    · exact .same _

theorem live_dispatch_bankChange {c : Command} {run : List Byte → State → CommandResult} {s t : State}
    (rule : ∀ ops (u : State), BankChange u.banks (run ops u).state.banks) (h : live (dispatch c run) s = .next t) :
    BankChange s.banks t.banks :=
  live_bankChange (dispatch_bankChange rule s) h

theorem live_dispatch_same {c : Command} {run : List Byte → State → CommandResult} {s t : State}
    (rule : ∀ ops (u : State), SameBanks u (run ops u).state) (h : live (dispatch c run) s = .next t) :
    BankChange s.banks t.banks :=
  live_dispatch_bankChange (fun ops u => .of_eq (rule ops u).banks) h

theorem runSetParam_sameBanks (ops : List Byte) (s : State) : SameBanks s (runSetParam ops s).state := by
  unfold runSetParam
  dsimp only
  split
  · exact ⟨rfl, rfl, rfl, rfl⟩
  · split
    · exact ⟨rfl, rfl, rfl, rfl⟩
    · dsimp only
      split <;> simp [SameBanks]

theorem runClearFaults_sameBanks (ops : List Byte) (s : State) : SameBanks s (runClearFaults ops s).state := by
  unfold runClearFaults
  dsimp only
  split <;> exact ⟨rfl, rfl, rfl, rfl⟩

theorem runReadCounters_sameBanks (ops : List Byte) (s : State) : SameBanks s (runReadCounters ops s).state := by
  unfold runReadCounters
  dsimp only
  split <;> exact ⟨rfl, rfl, rfl, rfl⟩

theorem runNodeReset_sameBanks (ops : List Byte) (s : State) : SameBanks s (runNodeReset ops s).state := by
  unfold runNodeReset
  dsimp only
  split
  · exact ⟨rfl, rfl, rfl, rfl⟩
  · split
    · exact ⟨rfl, rfl, rfl, rfl⟩
    · simp [SameBanks]

theorem runCancel_sameBanks (ops : List Byte) (s : State) : SameBanks s (runCancel ops s).state := by
  unfold runCancel
  dsimp only
  split
  · simp [SameBanks]
  · split
    · split <;> exact ⟨rfl, rfl, rfl, rfl⟩
    · exact ⟨rfl, rfl, rfl, rfl⟩

theorem runFlush_sameBanks (ops : List Byte) (s : State) : SameBanks s (runFlush ops s).state := by
  show SameBanks s (State.releaseAll _ _)
  rw [releaseAll_frame]
  exact ⟨rfl, rfl, rfl, rfl⟩

/-! The Bank Controller -/

theorem cursor_eq_none {s : State} : s.banks.cursor = none ↔ s.commit = none := Option.map_eq_none_iff

theorem validating_eq_false {s : State} : s.validating = false ↔ s.commit = none := by
  rw [State.validating, Option.isSome_eq_false_iff, Option.isNone_iff_eq_none]

theorem validating_eq_true {s : State} : s.validating = true ↔ s.commit ≠ none := Option.isSome_iff_ne_none

@[simp] theorem setBank_shadow_active (b : Bank) (s : State) : (s.setBank s.activeBank.other b).active = s.active := by
  unfold State.active State.setBank
  cases s.activeBank <;> rfl

@[simp] theorem setBank_shadow_shadow (b : Bank) (s : State) : (s.setBank s.activeBank.other b).shadow = b := by
  unfold State.shadow State.setBank
  cases s.activeBank <;> simp [State.bank, BankId.other]

theorem setBank_shadow_bankChange {s : State} (idle : s.commit = none) (b : Bank) :
    BankChange s.banks (s.setBank s.activeBank.other b).banks := by
  have written : (s.setBank s.activeBank.other b).banks = { s.banks with shadow := b } := by simp [State.banks]
  rw [written]
  exact .shadowWritten _ b (cursor_eq_none.mpr idle)

theorem runTableWrite_bankChange (ops : List Byte) (s : State) :
    BankChange s.banks (runTableWrite ops s).state.banks := by
  unfold runTableWrite
  split
  · exact .same _
  · dsimp only
    split
    · exact .same _
    · split
      · exact .same _
      · next idle => exact setBank_shadow_bankChange (validating_eq_false.mp (by simpa using idle)) _

theorem runShadowLoad_bankChange (ops : List Byte) (s : State) :
    BankChange s.banks (runShadowLoad ops s).state.banks := by
  unfold runShadowLoad
  split
  · exact .same _
  · next idle => exact setBank_shadow_bankChange (validating_eq_false.mp (by simpa using idle)) _

theorem startCommit_bankChange (f : Frame) (n : Nat) (s : State) : BankChange s.banks (s.startCommit f n).banks := by
  rw [banks_eq (t := s.startCommit f n) (s := s) (by simp) (by simp) (by simp)]
  exact .sweepBegun s.banks

theorem takeCommit_bankChange (s : State) : BankChange s.banks s.takeCommit.banks := by
  unfold State.takeCommit
  split
  · exact .same _
  · next f n t ht =>
    rw [← (takeHead_sameBanks ht).banks]
    split
    · exact .of_eq (finishControl_banks f n _)
    · split
      · exact .of_eq (finishControl_banks f n _)
      · exact startCommit_bankChange f n t

/-- The commit ends (R96). -/
theorem rejectCommit_bankChange (c : PendingCommit) (t : TableId) (i : Nat) (r : Reason) (s : State) :
    BankChange s.banks (s.rejectCommit c t i r).banks := by
  exact .ended (by simp) (by simp) (by simp) (by simp [State.rejectCommit])

theorem takeSwap_banks (c : PendingCommit) (s : State) :
    (s.takeSwap c).banks = { active := s.shadow, shadow := s.active, cursor := none } := by
  have acked : (s.takeSwap c).banks = s.swapBanks.banks := SameBanks.banks (by simp [SameBanks, State.takeSwap])
  rw [acked]
  cases e : s.activeBank <;>
    simp [State.banks, State.active, State.shadow, State.bank, State.swapBanks, BankId.other, e]

theorem softReset_bankChange (level : ResetLevel) (s : State) : BankChange s.banks (s.softReset level).banks := by
  cases level with
  | queues =>
    have ended : (s.softReset .queues).commit = none := rfl
    exact .ended (by simp [State.softReset]) (by simp [State.softReset]) (by simp [State.softReset]) ended
  | full =>
    have ended : (s.softReset .full).commit = none := by simp [State.softReset, State.resetQueues]
    have emptied : (s.softReset .full).banks = {} := by
      rw [banks_eq (t := s.softReset .full) (s := State.reset) rfl rfl rfl, ended]
      rfl
    rw [emptied]
    exact .reset s.banks

theorem takeSoftReset_bankChange (s : State) : BankChange s.banks s.takeSoftReset.banks := by
  unfold State.takeSoftReset
  split
  · exact .same _
  · next f n t ht =>
    rw [← (takeHead_sameBanks ht).banks]
    split
    · exact .of_eq (finishControl_banks f n _)
    · split
      · exact .of_eq (finishControl_banks f n _)
      · next level _ =>
        dsimp only
        split
        · exact softReset_bankChange level t
        · have acked (g : Frame) : ((t.softReset level).fillLowest g).banks = (t.softReset level).banks :=
            SameBanks.banks (by simp [SameBanks])
          rw [acked]
          exact softReset_bankChange level t

/-- The cursor of a sweep under way moves on while no command waits (R95). -/
theorem idleStep_bankChange (s : State) : BankChange s.banks s.idleStep.banks := by
  unfold State.idleStep
  split
  · exact .same _
  · next c sweeping => exact .sweepAdvanced s.banks c.cursor (congrArg (Option.map PendingCommit.cursor) sweeping)

/-! ### Every command -/

/-- What a command can do to the banks. -/
theorem exec_bankChange {c : Instr} {s t : State} (h : exec c s = .next t) : BankChange s.banks t.banks := by
  cases c with
  | hardReset cause =>
    obtain rfl : _ = t := Host.Outcome.next.inj h
    split
    · exact .reset _
    · exact .same _
  | resetNRise =>
    obtain rfl : _ = t := Host.Outcome.next.inj h
    split
    · exact .reset _
    · exact .same _
  | tick =>
    exact live_same (f := fun s => s.settleTick.countTick.revivalTick.holdoffTick.scanStep) (by simp [SameBanks]) h
  | expiry | revivalPoint | scanDue | uTxFrameEnd | responseStart | responseCharacter | strayCharacter =>
    exact live_same (by simp [SameBanks]) h
  | linkUp p times =>
    rw [exec, execLinkUp] at h
    refine live_same ?_ h
    split
    · exact ⟨rfl, rfl, rfl, rfl⟩
    · split
      · exact setPort_sameBanks p _ s
      · simp [SameBanks]
  | linkDown p times =>
    rw [exec, execLinkDown] at h
    refine live_bankChange ?_ h
    split
    · split
      · exact .of_eq (setPort_sameBanks p _ s).banks
      · exact .of_eq (enterDown_banks p s)
    · exact .same _
  | hold p | go p =>
    refine live_same ?_ h
    split
    · exact setPort_sameBanks p _ s
    · exact ⟨rfl, rfl, rfl, rfl⟩
  | uFrameArrival bytes invalid =>
    rw [exec, execUFrameArrival] at h
    refine live_same ?_ h
    split
    · split <;> simp [SameBanks]
    · exact ⟨rfl, rfl, rfl, rfl⟩
  | dFrameArrival bytes invalid =>
    rw [exec, execDFrameArrival] at h
    refine live_same ?_ h
    split
    · split <;> simp [SameBanks]
    · exact ⟨rfl, rfl, rfl, rfl⟩
  | frameStartInReception p data =>
    rw [exec, execFrameStartInReception] at h
    refine live_same ?_ h
    split
    · split <;> simp [SameBanks]
    · exact ⟨rfl, rfl, rfl, rfl⟩
  | enumerate header count =>
    rw [exec, execEnumerate] at h
    refine live_same ?_ h
    split <;> simp [SameBanks]
  | chainEndAck =>
    rw [exec, execChainEndAck] at h
    refine live_same ?_ h
    split <;> exact ⟨rfl, rfl, rfl, rfl⟩
  | mergeGrant =>
    rw [exec, execMergeGrant] at h
    refine live_same ?_ h
    split <;> simp [SameBanks]
  | otqSendStart =>
    rw [exec, execOtqSendStart] at h
    refine live_same ?_ h
    split
    · exact ⟨rfl, rfl, rfl, rfl⟩
    · split <;> exact ⟨rfl, rfl, rfl, rfl⟩
  | otqSendEnd =>
    rw [exec, execOtqSendEnd] at h
    refine live_same ?_ h
    split <;> simp [SameBanks]
  | noticePlace =>
    rw [exec, execNoticePlace] at h
    refine live_same ?_ h
    split <;> simp [SameBanks]
  | requestAdmission =>
    rw [exec, execRequestAdmission] at h
    refine live_bankChange ?_ h
    split
    · exact .same _
    · next ht =>
      rw [← (takeHead_sameBanks ht).banks]
      exact .of_eq (SameBanks.banks (by simp [SameBanks]))
  | badCommand =>
    rw [exec, execBadCommand] at h
    refine live_bankChange ?_ h
    split
    · exact .same _
    · next ht => exact .of_eq ((finishControl_banks _ _ _).trans (takeHead_sameBanks ht).banks)
  | readStatus => exact live_dispatch_same (fun _ _ => ⟨rfl, rfl, rfl, rfl⟩) h
  | getParam => exact live_dispatch_same (fun ops u => by simp [SameBanks, runGetParam_state]) h
  | tableRead => exact live_dispatch_same (fun ops u => by simp [SameBanks, runTableRead_state]) h
  | nodeRead => exact live_dispatch_same (fun ops u => by simp [SameBanks, runNodeRead_state]) h
  | setParam =>
    rw [exec, execSetParam] at h
    refine live_bankChange ?_ h
    rw [← (settleBefore_sameBanks s.changesScanEnable s).banks]
    exact dispatch_bankChange (fun ops u => .of_eq (runSetParam_sameBanks ops u).banks) _
  | clearFaults => exact live_dispatch_same runClearFaults_sameBanks h
  | readCounters => exact live_dispatch_same runReadCounters_sameBanks h
  | cancel => exact live_dispatch_same runCancel_sameBanks h
  | flush => exact live_dispatch_same runFlush_sameBanks h
  | nodeReset => exact live_dispatch_same runNodeReset_sameBanks h
  | lineHalt => exact live_dispatch_same (fun _ u => by simp [SameBanks, runLineHalt]) h
  | lineRun => exact live_dispatch_same (fun _ u => by simp [SameBanks, runLineRun]) h
  | tableWrite => exact live_dispatch_bankChange runTableWrite_bankChange h
  | shadowLoad => exact live_dispatch_bankChange runShadowLoad_bankChange h
  | commit => exact live_bankChange (takeCommit_bankChange s) h
  | commitReject =>
    rw [exec, execCommitReject] at h
    refine live_bankChange ?_ h
    split
    · exact .same _
    · split
      · exact .same _
      · exact rejectCommit_bankChange _ _ _ _ s
  | swap =>
    rw [exec, execSwap] at h
    refine live_bankChange ?_ h
    split
    · exact .same _
    · next c sweeping =>
      split
      · exact .same _
      · next passed =>
        have active : s.settleDues.active = s.active := active_congr (by simp) (by simp) (by simp)
        have shadow : s.settleDues.shadow = s.shadow := shadow_congr (by simp) (by simp) (by simp)
        rw [takeSwap_banks, active, shadow]
        exact .swapped s.banks c.cursor (congrArg (Option.map PendingCommit.cursor) sweeping) passed
  | softReset =>
    rw [exec, execSoftReset] at h
    refine live_bankChange ?_ h
    rw [← (settleBefore_sameBanks namesLevel s).banks]
    exact takeSoftReset_bankChange _
  | selection =>
    rw [exec, execSelection] at h
    refine live_same ?_ h
    split <;> simp [SameBanks]
  | readBackComplete =>
    rw [exec, execReadBackComplete] at h
    refine live_same ?_ h
    split
    · exact ⟨rfl, rfl, rfl, rfl⟩
    · next x _ =>
      have counted : SameBanks s (if x.step = .sync then s.bump .syncs else s) := by
        split <;> exact ⟨rfl, rfl, rfl, rfl⟩
      dsimp only
      split <;> exact counted
  | lineContention k rb =>
    rw [exec, execLineContention] at h
    refine live_same ?_ h
    split
    · exact ⟨rfl, rfl, rfl, rfl⟩
    · split <;> simp [SameBanks]
  | lineFault =>
    rw [exec, execLineFault] at h
    refine live_same ?_ h
    split <;> simp [SameBanks]
  | noResponse =>
    rw [exec, execNoResponse] at h
    refine live_same ?_ h
    split <;> simp [SameBanks]
  | responseEnd =>
    rw [exec, execResponseEnd] at h
    refine live_same ?_ h
    split <;> simp [SameBanks]
  | guardEnd =>
    rw [exec, execGuardEnd] at h
    refine live_same ?_ h
    split <;> simp [SameBanks]
  | resetCharacterFinished =>
    rw [exec, execResetCharacterFinished] at h
    refine live_same ?_ h
    split <;> exact ⟨rfl, rfl, rfl, rfl⟩

/-- Settles O57: the law reads the banks and the cursor alone, and each change that a step can make keeps it; the swap
does because what the sweep has passed and what remains from its cursor on is the whole SHADOW bank. -/
theorem stepKeepsActiveBankValid : Obligations.StepKeepsActiveBankValid := by
  intro s t law h
  rw [← lawful_iff] at law ⊢
  exact step_keeps (P := fun u => u.banks.Lawful) (fun _ _ k => k) (fun u k => (idleStep_bankChange u).lawful k)
    (fun _ _ _ k he => (exec_bankChange he).lawful k) law h

end Sys2Proof.Machine
end

section
/-! ## TABLE_WRITE, TABLE_READ and SHADOW_LOAD -/

namespace Sys2Proof.Machine

/-! ### The images of a bank (R89, R188) -/

theorem TableId.ofCode_code (tb : TableId) : TableId.ofCode tb.code = some tb := by cases tb <;> rfl

theorem TableId.ofCode_eq_none {table : Byte} (route : table ≠ 1#8) (scan : table ≠ 2#8) :
    TableId.ofCode table = none := by
  rw [TableId.ofCode, if_neg route, if_neg scan]

theorem image_setImage (b : Bank) (tb td : TableId) {i : Nat} (j : Nat) (img : Image) (inside : i < tb.size) :
    (b.setImage tb i img).image td j = if td.code = tb.code ∧ j = i then img else b.image td j := by
  have written {n : Nat} (v : Vector Image n) (size : i < n) :
      vget (vset v i img) j Image.zero = if j = i then img else vget v j Image.zero := by
    rw [vget_vset]
    by_cases same : j = i
    · subst same
      simp [size]
    · simp [same, Ne.symm same]
  cases tb with
  | route =>
    cases td with
    | route => simpa [Bank.setImage, Bank.image] using written b.routes inside
    | scan => simp [Bank.setImage, Bank.image, TableId.code]
  | scan =>
    cases td with
    | route => simp [Bank.setImage, Bank.image, TableId.code]
    | scan => simpa [Bank.setImage, Bank.image] using written b.scans inside

/-- Ten operand bytes are the bytes of the image they make (R91, R188). -/
theorem imageOf_toList (table index : Byte) {bytes : List Byte} (len : bytes.length = 10) :
    (imageOf (table :: index :: bytes) 2).toList = bytes := by
  match bytes, len with
  | [_, _, _, _, _, _, _, _, _, _], _ => rfl

/-! ### TABLE_WRITE (R91) -/

section Shadow
variable {s : State} {f : Frame} {rest : List Frame} {n : Nat}

theorem took_active : (s.took rest n).active = s.active := active_congr rfl rfl rfl

theorem took_shadow : (s.took rest n).shadow = s.shadow := shadow_congr rfl rfl rfl

theorem took_validating : (s.took rest n).validating = s.validating := rfl

theorem exec_tableWrite {ops : List Byte} (head : s.HeadCommand .tableWrite ops f rest n) (len : ops.length = 12) :
    exec .tableWrite s = .next ((runTableWrite ops (s.took rest n)).state.answered f n
      (runTableWrite ops (s.took rest n)).code (runTableWrite ops (s.took rest n)).payload) := by
  rw [exec, execTableWrite, live_of_live head.live, head.dispatch_run len]

theorem runTableWrite_unknown {table : Byte} (unknown : TableId.ofCode table = none) (index : Byte) (bytes : List Byte)
    (s : State) : runTableWrite (table :: index :: bytes) s = refuseCommand s .badParam [] := by
  simp [runTableWrite, opByte, unknown]

theorem runTableWrite_known (tb : TableId) (index : Byte) (bytes : List Byte) (s : State) :
    runTableWrite (tb.code :: index :: bytes) s =
      if tb.size ≤ index.toNat then refuseCommand s .badIndex []
      else if s.validating then refuseCommand s .commitBusy []
      else {
        state := s.setBank s.activeBank.other
          (s.shadow.setImage tb index.toNat (imageOf (tb.code :: index :: bytes) 2))
        code := .done, payload := [tb.code, index] } := by
  simp [runTableWrite, opByte, tb.ofCode_code]

/-- A write of one bank changes the banks alone. -/
theorem setBank_frame (i : BankId) (b : Bank) (s : State) :
    s.setBank i b = { s with bank0 := (s.setBank i b).bank0, bank1 := (s.setBank i b).bank1 } := by
  cases i <;> rfl

/-- What is said of the two table ids with their sizes is said of the table they name (R91). -/
theorem table_of_id {table : Byte} {i : Nat} (p : Nat → Nat → Prop)
    (h : table = 1#8 ∧ p 128 i ∨ table = 2#8 ∧ p 32 i) : ∃ tb : TableId, tb.code = table ∧ p tb.size i := by
  rcases h with ⟨rfl, h⟩ | ⟨rfl, h⟩
  · exact ⟨.route, rfl, h⟩
  · exact ⟨.scan, rfl, h⟩

/-! ### TABLE_READ (R92) -/

theorem exec_tableRead {table sel index : Byte} (head : s.HeadCommand .tableRead [table, sel, index] f rest n) :
    exec .tableRead s = .next ((runTableRead [table, sel, index] (s.took rest n)).state.answered f n
      (runTableRead [table, sel, index] (s.took rest n)).code
      (runTableRead [table, sel, index] (s.took rest n)).payload) := by
  rw [exec, execTableRead, live_of_live head.live, head.dispatch_run rfl]

theorem selectedBank_eq_none {sel : Byte} (s : State) (active : sel ≠ 0#8) (shadow : sel ≠ 1#8) :
    s.selectedBank sel = none := by
  rw [State.selectedBank, if_neg active, if_neg shadow]

theorem BankId.eq_other {i j : BankId} (h : i ≠ j) : i = j.other := by
  cases i with
  | bank0 =>
    cases j with
    | bank0 => exact absurd rfl h
    | bank1 => rfl
  | bank1 =>
    cases j with
    | bank0 => rfl
    | bank1 => exact absurd rfl h

/-- A selector names the ACTIVE bank or the SHADOW bank (R92). -/
theorem selectedBank_of {sel : Byte} {b : Bank} {id : BankId}
    (h : sel = 0#8 ∧ b = s.active ∧ id = s.activeBank ∨ sel = 1#8 ∧ b = s.shadow ∧ id ≠ s.activeBank) :
    s.selectedBank sel = some id ∧ s.bank id = b := by
  rcases h with ⟨rfl, rfl, rfl⟩ | ⟨rfl, rfl, other⟩
  · exact ⟨rfl, rfl⟩
  · obtain rfl := BankId.eq_other other
    exact ⟨rfl, rfl⟩

theorem runTableRead_unknown {table sel : Byte} (unknown : TableId.ofCode table = none ∨ s.selectedBank sel = none)
    (index : Byte) : runTableRead [table, sel, index] s = refuseCommand s .badParam [] := by
  unfold runTableRead
  split
  · next named chosen =>
    rcases unknown with unnamed | unchosen
    · cases unnamed.symm.trans named
    · cases unchosen.symm.trans chosen
  · rfl

theorem runTableRead_known (tb : TableId) {sel index : Byte} {id : BankId} (choice : s.selectedBank sel = some id) :
    runTableRead [tb.code, sel, index] s =
      if tb.size ≤ index.toNat then refuseCommand s .badIndex []
      else {
        state := s, code := .done
        payload := tb.code :: sel :: id.code :: index :: ((s.bank id).image tb index.toNat).toList } := by
  simp [runTableRead, opByte, tb.ofCode_code, choice]

/-! ### SHADOW_LOAD (R93) -/

theorem exec_shadowLoad (head : s.HeadCommand .shadowLoad [] f rest n) :
    exec .shadowLoad s = .next ((runShadowLoad [] (s.took rest n)).state.answered f n
      (runShadowLoad [] (s.took rest n)).code (runShadowLoad [] (s.took rest n)).payload) := by
  rw [exec, execShadowLoad, live_of_live head.live, head.dispatch_run rfl]

theorem runShadowLoad_busy (busy : s.commit ≠ none) : runShadowLoad [] s = refuseCommand s .commitBusy [] :=
  if_pos (validating_eq_true.mpr busy)

theorem runShadowLoad_idle (idle : s.commit = none) : runShadowLoad [] s =
    { state := { s with bank0 := s.active, bank1 := s.active }, code := .done, payload := [] } := by
  have copied : s.setBank s.activeBank.other s.active = { s with bank0 := s.active, bank1 := s.active } := by
    unfold State.active State.setBank
    cases e : s.activeBank <;> rfl
  rw [runShadowLoad, validating_eq_false.mpr idle, ← copied]
  rfl

end Shadow

/-- Settles O34: the operands name a table and an entry or are refused; what is written, read or copied is a bank's
image by its table and index. -/
theorem tablesAreWrittenReadAndCopied : Obligations.TablesAreWrittenReadAndCopied := by
  refine ⟨fun s t f rest n table index bytes head ht len => ?_, fun s t f rest n table sel index head ht => ?_,
    fun s t f rest n head ht => ?_⟩
  · rw [exec_tableWrite head (by simp [len]), ← ht]
    refine ⟨fun route scan => ?_, fun outside => ?_, fun inside => ?_⟩
    · rw [runTableWrite_unknown (TableId.ofCode_eq_none route scan)]
      rfl
    · obtain ⟨tb, rfl, far⟩ := table_of_id (fun size i => size ≤ i) outside
      rw [runTableWrite_known, if_pos far]
      rfl
    · obtain ⟨tb, rfl, near⟩ := table_of_id (fun size i => i < size) inside
      rw [runTableWrite_known, if_neg (Nat.not_le.mpr near)]
      refine ⟨fun busy => ?_, fun idle => ?_⟩
      · rw [if_pos (by rw [ht]; exact validating_eq_true.mpr busy)]
        rfl
      · rw [if_neg (by rw [ht, took_validating, validating_eq_false.mpr idle]; decide)]
        refine ⟨_, rfl, setBank_frame _ _ t, ?_, fun td i => ?_⟩
        · rw [setBank_shadow_active, ht, took_active]
        · rw [setBank_shadow_shadow, image_setImage _ _ _ _ _ near, ht, took_shadow]
          split
          · exact imageOf_toList _ _ len
          · rfl
  · rw [exec_tableRead head, ← ht]
    refine ⟨fun unknown => ?_, fun tb b id named selected => ?_⟩
    · have nothing : TableId.ofCode table = none ∨ t.selectedBank sel = none := by
        rcases unknown with ⟨route, scan⟩ | ⟨active, shadow⟩
        · exact .inl (TableId.ofCode_eq_none route scan)
        · exact .inr (selectedBank_eq_none t active shadow)
      rw [runTableRead_unknown nothing]
      rfl
    · obtain rfl := named
      obtain ⟨choice, rfl⟩ : t.selectedBank sel = some id ∧ t.bank id = b := by
        rw [ht]
        exact selectedBank_of selected
      rw [runTableRead_known tb choice]
      refine ⟨fun far => ?_, fun near => ?_⟩
      · rw [if_pos far]
        rfl
      · rw [if_neg (Nat.not_le.mpr near)]
        cases id <;> rfl
  · rw [exec_shadowLoad head, ← ht]
    refine ⟨fun busy => ?_, fun idle => ?_⟩
    · rw [runShadowLoad_busy (by rw [ht]; exact busy)]
      rfl
    · rw [runShadowLoad_idle (by rw [ht]; exact idle), ht, took_active]

end Sys2Proof.Machine
end

section
/-! ## COMMIT, COMMIT_REJECT and SWAP -/

namespace Sys2Proof.Machine

/-! ### COMMIT (R94) -/

section Commit
variable {s : State} {f : Frame} {rest : List Frame} {n : Nat}

theorem exec_commit (head : s.HeadCommand .commit [] f rest n) : exec .commit s =
    .next (if s.validating then (s.took rest n).answered f n .commitBusy [] else (s.took rest n).startCommit f n) := by
  rw [exec, execCommit, live_of_live head.live, State.takeCommit, head.toHead.takeHead head.isCommand]
  dsimp only
  rw [head.operands, if_neg (by decide), finishControl_eq]
  rfl

/-- An addressed COMMIT keeps its slot RESERVED for the ACK (R94). -/
theorem startCommit_addressed (addressed : f.position ≠ 63#6) (s : State) : s.startCommit f n = { s with
    loq := vset s.loq n (.reserved .commit)
    commit := some {
      tag := f.tag, cls := f.cls, addressed := true, slot := some n, cursor := { table := .route, index := 0 } } } := by
  have single : broadcastFrame f = false := beq_eq_false_iff_ne.mpr addressed
  rw [State.startCommit, single]
  rfl

/-- A broadcast COMMIT gives up the slot of its dispatch (R94, R163). -/
theorem startCommit_broadcast (head : s.Head f rest n) (all : f.position = 63#6) :
    (s.took rest n).startCommit f n = { s.took rest n with
      loq := s.loq
      commit := some {
        tag := f.tag, cls := f.cls, addressed := false, slot := none
        cursor := { table := .route, index := 0 } } } := by
  obtain ⟨inside, free, -⟩ := lowestFree_spec head.slot
  have reserved : (s.took rest n).slot n = .reserved .dispatch := vget_vset_same _ _ _ _ inside
  have released : (s.took rest n).freeSlot n = { s.took rest n with loq := s.loq } := by
    rw [freeSlot_unfilled (by rw [reserved]; rfl), took_loq, vset_free_back free]
  have broadcast : broadcastFrame f = true := beq_iff_eq.mpr all
  rw [State.startCommit, broadcast, if_pos rfl, released]
  rfl

end Commit

/-! ### COMMIT_REJECT (R95, R96) -/

section Reject
variable {s : State} {c : PendingCommit}

theorem exec_commitReject_idle (live : s.inReset = false) (idle : s.commit = none) :
    exec .commitReject s = .next s := by
  rw [exec, execCommitReject, live_of_live live, idle]

theorem exec_commitReject_passed (live : s.inReset = false) (pending : s.commit = some c)
    (passed : sweepFrom s.shadow c.cursor = none) : exec .commitReject s = .next s := by
  rw [exec, execCommitReject, live_of_live live, pending]
  dsimp only
  rw [passed]

theorem exec_commitReject_failed (live : s.inReset = false) (pending : s.commit = some c) {tb : TableId} {i : Nat}
    {r : Reason} (failed : sweepFrom s.shadow c.cursor = some (tb, i, r)) :
    exec .commitReject s = .next (s.rejectCommit c tb i r) := by
  rw [exec, execCommitReject, live_of_live live, pending]
  dsimp only
  rw [failed]

end Reject

/-- Settles O35: the head is taken for a sweep or is answered COMMIT_BUSY; what is left of the sweep decides on the
rejection. -/
theorem commitStartsASweepThatRejectsTheFirstFailure : Obligations.CommitStartsASweepThatRejectsTheFirstFailure := by
  refine ⟨fun s t f rest n head ht => ?_, fun s live => ⟨fun idle => ?_, fun c pending passed => ?_,
    fun c k r pending low high failing before => ?_⟩⟩
  · rw [exec_commit head, ht]
    refine ⟨fun busy => ?_, fun idle addressed => ?_, fun idle all => ?_⟩
    · rw [if_pos (validating_eq_true.mpr busy)]
    · rw [validating_eq_false.mpr idle, startCommit_addressed addressed]
      rfl
    · rw [validating_eq_false.mpr idle, startCommit_broadcast head.toHead all]
      rfl
  · exact exec_commitReject_idle live idle
  · exact exec_commitReject_passed live pending (sweepFrom_eq_none.mpr passed)
  · rw [exec_commitReject_failed live pending (sweepFrom_eq_some low high failing before)]
    refine ⟨fun released => ?_, fun n held => ?_⟩
    · rw [State.rejectCommit, State.ackCommit, released]
      rfl
    · rw [State.rejectCommit, State.ackCommit, held]
      rcases Nat.lt_or_ge k 128 with route | scan
      · simp only [if_pos route]
        rfl
      · simp only [if_neg (Nat.not_lt.mpr scan)]
        rfl

/-! ### SWAP (R97, R98, R117) -/

section Swap
variable {s : State} {c : PendingCommit}

theorem exec_swap_idle (live : s.inReset = false) (idle : s.commit = none) : exec .swap s = .next s := by
  rw [exec, execSwap, live_of_live live, idle]

theorem exec_swap_failing (live : s.inReset = false) (pending : s.commit = some c)
    (failing : sweepFrom s.shadow c.cursor ≠ none) : exec .swap s = .next s := by
  obtain ⟨stop, failed⟩ := Option.ne_none_iff_exists'.mp failing
  rw [exec, execSwap, live_of_live live, pending]
  dsimp only
  rw [failed]

theorem exec_swap_passed (live : s.inReset = false) (pending : s.commit = some c)
    (passed : sweepFrom s.shadow c.cursor = none) : exec .swap s = .next (s.settleDues.takeSwap c) := by
  rw [exec, execSwap, live_of_live live, pending]
  dsimp only
  rw [passed]

theorem BankId.other_ne (i : BankId) : i.other ≠ i := by cases i <;> decide

/-- The swap is one event of the banks, the epoch, the Exchange Queue and the scan side; its ACK is of the slots
alone. -/
theorem takeSwap_frame (c : PendingCommit) (s : State) :
    s.takeSwap c = { s.swapBanks with loq := (s.takeSwap c).loq } :=
  answer_frame _ _ _

theorem takeSwap_active (c : PendingCommit) (s : State) : (s.takeSwap c).active = s.shadow :=
  congrArg Banks.active (takeSwap_banks c s)

theorem takeSwap_shadow (c : PendingCommit) (s : State) : (s.takeSwap c).shadow = s.active :=
  congrArg Banks.shadow (takeSwap_banks c s)

/-- The ACK of a swap: the new epoch and the new ACTIVE bank (R97, R98). -/
theorem takeSwap_loq (c : PendingCommit) (s : State) : (s.takeSwap c).loq = match c.slot with
    | none => s.loq
    | some n => vset s.loq n (.filled (ackFrame c.cls c.tag Command.commit.code .done
        [hiByte (nextEpoch s.epoch), loByte (nextEpoch s.epoch), s.activeBank.other.code]) s.filledCount) := by
  unfold State.takeSwap State.ackCommit State.answer
  cases c.slot <;> rfl

theorem retireScan_current {r : ScanRecord} (flying : s.inflightRecord = some (.scan r)) (current : r.epoch = s.epoch) :
    s.retireScan = some {
      scanIndex := r.scanIndex, sequence := (s.scanRecord r.scanIndex).sequence
      missed := (s.scanRecord r.scanIndex).missed } := by
  rw [State.retireScan, flying]
  exact if_pos current

theorem retireScan_other (old : ∀ r, s.inflightRecord = some (.scan r) → r.epoch ≠ s.epoch) :
    s.retireScan = s.scan.retired := by
  unfold State.retireScan
  split
  · next r flying => exact if_neg (old r flying)
  all_goals rfl

end Swap

/-- Settles O36: what is left of the sweep decides; the swap is taken after the owed dues, which leave the banks, the
epoch, the commit and the record in flight as they were. -/
theorem swapExchangesTheBanks : Obligations.SwapExchangesTheBanks := by
  intro s v live hv
  refine ⟨exec_swap_idle live, fun c pending ⟨k, low, high, failing⟩ => ?_, fun c pending passed => ?_⟩
  · exact exec_swap_failing live pending fun all => failing (sweepFrom_eq_none.mp all k low high)
  · have flying : v.inflightRecord = s.inflightRecord := by simp [State.inflightRecord, hv]
    have epoch : v.epoch = s.epoch := by simp [hv]
    have bank : v.activeBank = s.activeBank := by simp [hv]
    have active : v.active = s.active := active_congr (by simp [hv]) (by simp [hv]) bank
    have shadow : v.shadow = s.shadow := shadow_congr (by simp [hv]) (by simp [hv]) bank
    refine ⟨v.takeSwap c, ?_, ?_, ?_, ?_, ?_, ?_, fun cls => ?_, fun i => ?_, fun unheld => ?_,
      fun n held => ?_, fun r scan current => ?_, fun old => ?_⟩
    · rw [exec_swap_passed live pending (sweepFrom_eq_none.mpr passed), hv]
    · obtain ⟨loq, swapped⟩ : ∃ l, v.takeSwap c = { v.swapBanks with loq := l } := ⟨_, takeSwap_frame c v⟩
      rw [swapped]
      rfl
    · rw [takeSwap_frame, ← bank]
      exact BankId.other_ne _
    · rw [takeSwap_active, shadow]
    · rw [takeSwap_shadow, active]
    · rw [takeSwap_frame, ← epoch]
      rfl
    · rw [takeSwap_frame]
      exact list_remove v.queue ExRecord.isScan cls
    · rw [takeSwap_frame]
      exact vget_replicate _ i
    · rw [takeSwap_loq, unheld]
    · rw [takeSwap_loq, held, takeSwap_frame, ← bank]
      cases v.activeBank <;> rfl
    · rw [takeSwap_frame]
      exact retireScan_current (flying.trans scan) (current.trans epoch.symm)
    · rw [takeSwap_frame]
      exact (retireScan_other fun r scan => epoch ▸ old r (flying ▸ scan)).trans (by rw [hv, settleDues_retired])

end Sys2Proof.Machine
end

section
/-! ## The due of an OFFLINE node -/

namespace Sys2Proof.Machine

/-- A due that is not outstanding and whose node is OFFLINE goes by R113. -/
theorem judgeDue_offline {s : State} {i : Nat} {img : Image} (himg : vget s.active.scans i Image.zero = img)
    (fresh : (s.scanRecord i).outstanding = false) (offline : s.nodeOffline img.scanNode = true) :
    s.judgeDue i = s.offlineDue i img := by
  subst himg
  rw [State.judgeDue, fresh, if_neg Bool.false_ne_true, if_pos offline]

/-- The result NODE_OFFLINE is reported ALWAYS, or when it differs from the last one; it has no data to compare (R115). -/
theorem reportDue_nodeOffline {mode : Nat} {r : ScanState} :
    reportDue mode r .nodeOffline [] = true ↔ mode ≠ 1 ∨ r.lastOutcome ≠ some .nodeOffline := by
  simp [reportDue_iff]

/-- The result NODE_OFFLINE of a due that is not outstanding changes the last result alone (R114). -/
theorem judged_nodeOffline {r : ScanState} (fresh : r.outstanding = false) :
    r.judged .nodeOffline [] = { r with lastOutcome := some .nodeOffline, lastData := none } := by
  rw [ScanState.judged, ← fresh]
  rfl

/-- A NODE_OFFLINE report carries no data (R116). -/
theorem scanReportFrame_nodeOffline (cls : Cls) (i missed : Nat) (epoch : Word16) (sequence : Byte) (time : Word32) :
    scanReportFrame cls i epoch .nodeOffline sequence missed time [] = {
      kind := .scanReport, cls := cls, position := 0#6, tag := BitVec.ofNat 12 i, logical := epoch, code := 0x0B#8
      aux := sequence
      payload := [BitVec.ofNat 8 missed, time.extractLsb' 8 8, time.extractLsb' 0 8] } :=
  scanReportFrame_eq cls i missed epoch .nodeOffline sequence time []

section Offline
variable {s : State} {i : Nat} {img : Image}

theorem offlineDue_quiet (quiet : ¬reportDue img.scanMode (s.scanRecord i) .nodeOffline [] = true) :
    s.offlineDue i img = s.setScanRecord i ((s.scanRecord i).judged .nodeOffline []) := by
  rw [State.offlineDue, if_neg quiet]

theorem offlineDue_reports {n : Nat} (due : reportDue img.scanMode (s.scanRecord i) .nodeOffline [] = true)
    (room : 4 ≤ s.freeCount) (lowest : s.lowestFree = some n) :
    s.offlineDue i img =
      (s.fillSlot n (scanReportFrame (BitVec.ofNat 2 img.scanClass) i s.epoch .nodeOffline (s.scanRecord i).sequence
        (s.scanRecord i).missed s.scan.time [])).setScanRecord i ((s.scanRecord i).judged .nodeOffline []).reported := by
  rw [State.offlineDue, if_pos due, if_pos room, State.fillLowest, lowest]

theorem offlineDue_missed (due : reportDue img.scanMode (s.scanRecord i) .nodeOffline [] = true) (full : s.freeCount < 4) :
    s.offlineDue i img = s.missDue i := by
  rw [State.offlineDue, if_pos due, if_neg (Nat.not_le.mpr full)]

end Offline

/-- Settles O10: the due goes by R113, whose three cases are told apart by the report mode and by the FREE count, which
taking the due leaves as they were. -/
theorem offlineDueIsReportedOrMissed : Obligations.OfflineDueIsReportedOrMissed := by
  intro s u i rest img last judged report live owed hu himg offline hlast fresh hjudged hreport
  have record : u.scanRecord i = last := by rw [hu, hlast]; rfl
  have result : (u.scanRecord i).judged .nodeOffline [] = judged := by rw [record, judged_nodeOffline fresh, hjudged]
  have due : reportDue img.scanMode (u.scanRecord i) .nodeOffline [] = true ↔ report := by
    rw [reportDue_nodeOffline, record, hreport]
  have taken : exec .scanDue s = .next (u.offlineDue i img) := by
    have entry : vget u.active.scans i Image.zero = img := by rw [hu, himg]; rfl
    have gone : u.nodeOffline img.scanNode = true := by rw [hu]; exact offline
    rw [exec_scanDue live owed, ← hu, judgeDue_offline entry (record ▸ fresh) gone]
  rw [taken]
  refine ⟨fun quiet => ?_, fun n loud room lowest => ?_, fun loud full => ?_⟩
  · rw [offlineDue_quiet (mt due.mp quiet), result, hu]
    rfl
  · have lowest' : u.lowestFree = some n := by rw [hu]; exact lowest
    have room' : 4 ≤ u.freeCount := by rw [hu]; exact room
    rw [offlineDue_reports (due.mpr loud) room' lowest', result, record, scanReportFrame_nodeOffline, hjudged, hu]
    rfl
  · have full' : u.freeCount < 4 := by rw [hu]; exact full
    rw [offlineDue_missed (due.mpr loud) full', missDue_eq, record, hu]
    rfl

end Sys2Proof.Machine
end

section
/-! ## A link enters UP -/

namespace Sys2Proof.Machine

theorem exec_linkUp_limit {s : State} {p : PortId} {run rest : List SymbolTime} (live : s.inReset = false)
    (down : (s.port p).link = .down) (valid : ∀ x ∈ run, validTime x = true)
    (limit : (s.port p).acquisition + run.length = 1024) (nonempty : run ≠ []) :
    exec (.linkUp p (run ++ rest)) s = .next (s.enterUp p) := by
  have fallen : ¬s.isUp p = true := by simp [State.isUp, down]
  rw [exec, execLinkUp, live_of_live live, if_neg fallen, acquire_limit _ _ _ valid nonempty limit]

/-- A port right after its entry into UP (R139). -/
def Port.rise (q : Port) : Port :=
  { q with link := .up, acquisition := 0, silence := 0, held := false, holdSent := false }

/-- A port that has just entered UP has sent no HOLD, so its receive side sends HOLD at the upper limit, and no GO
(R148 to R150). -/
theorem judge_rise (q : Port) (atLimit goAt : Bool) :
    q.rise.judge atLimit goAt = { q.rise with
      holdSent := atLimit
      flowOut := if atLimit = true then some .hold else q.flowOut } := by
  cases atLimit <;> simp [Port.judge, Port.rise]

/-- The entry of Port U into UP clears the Scan State records and starts scan time (R108, R118, R141). -/
theorem enterUp_u (s : State) : s.enterUp .u = { s with
    portU := s.portU.rise.judge (decide (3 ≤ s.otq.length) || decide (3 ≤ s.inbox.length))
      (decide (s.otq.length ≤ 1) && decide (s.inbox.length ≤ 1))
    notice := { s.notice with linkU := some .up }
    scan := { s.scan with records := Vector.replicate 32 {}, time := 0#32, startPending := true } } := rfl

theorem enterUp_d (s : State) : s.enterUp .d = { s with
    portD := s.portD.rise.judge (decide (7 ≤ s.htq.length)) (decide (s.htq.length ≤ 5))
    notice := { s.notice with linkD := some .up } } := rfl

/-- Settles O12: the run ends in the port's entry into UP, and the receive side of the risen port judges its queues. -/
theorem linkEntersUpAtTheLimit : Obligations.LinkEntersUpAtTheLimit := by
  intro s run rest live valid
  refine ⟨fun down limit nonempty => ?_, fun down limit nonempty => ?_⟩
  · refine ⟨_, exec_linkUp_limit live down valid limit nonempty, ?_, fun i => ?_, ?_⟩
    · rw [enterUp_u]
    · rw [enterUp_u]
      exact vget_replicate _ i
    · rw [enterUp_u, judge_rise, Bool.decide_or]
      simp only [Bool.or_eq_true, decide_eq_true_eq]
      rfl
  · refine ⟨_, exec_linkUp_limit live down valid limit nonempty, ?_, ?_⟩
    · rw [enterUp_d]
    · rw [enterUp_d, judge_rise]
      simp only [decide_eq_true_eq]
      rfl

end Sys2Proof.Machine
end

section
/-! ## CHAIN_END_ACK and MERGE_GRANT -/

namespace Sys2Proof.Machine

/-! ### CHAIN_END_ACK (R123, R157) -/

theorem exec_chainEndAck_waits {s : State} (live : s.inReset = false) (waits : s.chainEnd = none ∨ s.lowestFree = none) :
    exec .chainEndAck s = .next s := by
  rw [exec, execChainEndAck, live_of_live live]
  rcases waits with idle | full
  · rw [idle]
  · rw [full]
    split
    · next free => cases free
    · rfl

theorem exec_chainEndAck_answers {s : State} {a : ChainEnd} {n : Nat} (live : s.inReset = false)
    (pending : s.chainEnd = some a) (lowest : s.lowestFree = some n) : exec .chainEndAck s =
      .next { s.fillSlot n (ackFrame a.cls a.tag enumerateCode .chainEnd [a.count]) with chainEnd := none } := by
  rw [exec, execChainEndAck, live_of_live live, pending, lowest]

/-- Settles O22: the two things that the command waits for, and the ACK that it writes. -/
theorem chainEndAnswerTakesAFreeSlot : Obligations.ChainEndAnswerTakesAFreeSlot := by
  intro s live
  refine ⟨exec_chainEndAck_waits live, fun a n pending lowest => ?_⟩
  rw [exec_chainEndAck_answers live pending lowest]
  rfl

/-! ### SET_PARAM of THROUGH_WEIGHT (R167, R169) -/

/-- The answer to a command and the write of a parameter reach neither the streak count nor the frame being sent. -/
theorem exec_setThroughWeight {s : State} {f : Frame} {rest : List Frame} {n : Nat} {hi lo : Byte}
    (head : s.HeadCommand .setParam [11#8, hi, lo] f rest n) :
    ∃ t, exec .setParam s = .next t ∧ t.streak = s.streak ∧ t.uTx = s.uTx := by
  have unsettled := setParam_unsettled head (id := 11) rfl rfl (by omega)
  refine ⟨_, exec_setParam head unsettled head, ?_⟩
  rw [runSetParam_known (id := 11) rfl rfl rfl]
  split
  · rw [if_neg (by omega : ¬11 ≤ 5)]
    simp
  · simp [refuseCommand]

/-! ### MERGE_GRANT (R128, R129) -/

theorem uTxReady_iff {s : State} : s.uTxReady = true ↔ s.portU.link = .up ∧ s.portU.held = false ∧ s.uTx = none := by
  simp [State.uTxReady, and_assoc]

theorem exec_mergeGrant_unready {s : State} (live : s.inReset = false)
    (unready : ¬(s.portU.link = .up ∧ s.portU.held = false ∧ s.uTx = none)) : exec .mergeGrant s = .next s := by
  rw [exec, execMergeGrant, live_of_live live, if_neg (mt uTxReady_iff.mp unready)]

theorem exec_mergeGrant_ready {s : State} (live : s.inReset = false)
    (ready : s.portU.link = .up ∧ s.portU.held = false ∧ s.uTx = none) : exec .mergeGrant s = .next s.grant := by
  rw [exec, execMergeGrant, live_of_live live, if_pos (uTxReady_iff.mpr ready)]

section Grant
variable {s : State} {g : Frame} {rest : List Frame}

theorem grant_nothing (empty : s.htq = []) (noLocal : s.nextLocal = none) : s.grant = s := by
  rw [State.grant, empty, noLocal]

theorem grant_through (head : s.htq = g :: rest) (turn : s.nextLocal = none ∨ s.streak < s.params.throughWeight) :
    s.grant = s.sendThrough g (if s.nextLocal = none then 0 else s.streak + 1) := by
  rw [State.grant, head]
  cases offer : s.nextLocal with
  | none => rfl
  | some x => exact if_pos (turn.resolve_left (by simp [offer]))

theorem grant_local {n : Nat} {f : Frame} (offer : s.nextLocal = some (n, f))
    (turn : s.htq = [] ∨ s.params.throughWeight ≤ s.streak) : s.grant = s.sendLocal n f := by
  rw [State.grant, offer]
  cases through : s.htq with
  | nil => rfl
  | cons g rest => exact if_neg (Nat.not_lt.mpr (turn.resolve_left (by simp [through])))

end Grant

/-- Settles O23: at a frame boundary the two offers and the streak count choose the side. -/
theorem mergeGrantFollowsTheStreakTable : Obligations.MergeGrantFollowsTheStreakTable := by
  refine ⟨fun s f rest n hi lo head => exec_setThroughWeight head, fun s live => ?_⟩
  refine ⟨exec_mergeGrant_unready live, fun up free idle => ?_⟩
  rw [exec_mergeGrant_ready live ⟨up, free, idle⟩]
  refine ⟨fun empty noLocal => ?_, fun g rest head turn => ?_, fun n f offer turn => ?_⟩
  · rw [grant_nothing empty noLocal]
  · rw [grant_through head turn]
    rfl
  · rw [grant_local offer turn]
    rfl

end Sys2Proof.Machine
end

section
/-! ## The order of the local frames

R126's order of the frames that the bridge writes is the order of the model's keys; `bestSlot` finds the least key, and the
slot law makes it the key of one slot only. -/

namespace Sys2Proof.Machine

/-! ### R126's order as a key -/

/-- ACK or NOTICE: the frames that leave first (R126). -/
def Frame.Urgent (f : Frame) : Prop := f.kind = .ack ∨ f.kind = .notice

/-- A frame of fill number `k` leaves no later than one of fill number `j` (R126). -/
def Frame.LeavesBy (f : Frame) (k : Nat) (g : Frame) (j : Nat) : Prop :=
  (f.Urgent → g.Urgent → k ≤ j) ∧
  (f.kind = .reply → ¬g.Urgent ∧ (g.kind = .reply → f.cls < g.cls ∨ f.cls = g.cls ∧ k ≤ j)) ∧
  (f.kind = .scanReport → g.kind = .scanReport ∧ k ≤ j)

/-- The three groups of the frames that the bridge writes (R126). -/
theorem rank_cases {f : Frame} (homeward : f.kind.homeward = true) :
    f.Urgent ∧ f.kind ≠ .reply ∧ f.kind ≠ .scanReport ∧ f.rank = 0 ∨
    ¬f.Urgent ∧ f.kind = .reply ∧ f.rank = 1 + f.cls.toNat ∨
    ¬f.Urgent ∧ f.kind = .scanReport ∧ f.rank = 5 := by
  unfold Frame.Urgent Frame.rank
  cases kind : f.kind <;> simp_all [FrameKind.homeward]

/-- With fill numbers below 64, keys are compared by the group and then by the fill number. -/
theorem sendKey_le_iff_lex {f g : Frame} {k j : Nat} (hk : k < 64) (hj : j < 64) :
    f.sendKey k ≤ g.sendKey j ↔ f.rank < g.rank ∨ f.rank = g.rank ∧ k ≤ j := by
  unfold Frame.sendKey
  omega

/-- The order of the keys is R126's: each group of `f` says what `g` may be, and how the two compare within a group. -/
theorem sendKey_le_iff {f g : Frame} {k j : Nat} (hf : f.kind.homeward = true) (hg : g.kind.homeward = true)
    (hk : k < 64) (hj : j < 64) : f.sendKey k ≤ g.sendKey j ↔ f.LeavesBy k g j := by
  have hc := f.cls.isLt
  have hd := g.cls.isLt
  rw [sendKey_le_iff_lex hk hj]
  simp only [Frame.LeavesBy, BitVec.lt_def, BitVec.toNat_eq]
  rcases rank_cases hf with ⟨urgent, reply, report, rank⟩ | ⟨later, reply, rank⟩ | ⟨later, report, rank⟩
  · rcases rank_cases hg with ⟨gu, -, -, rank'⟩ | ⟨gu, -, rank'⟩ | ⟨gu, -, rank'⟩ <;>
      simp [urgent, reply, report, gu, rank, rank']
  · rcases rank_cases hg with ⟨gu, -, -, rank'⟩ | ⟨gu, gr, rank'⟩ | ⟨gu, gs, rank'⟩
    · simp [reply, gu, rank, rank']
    · simp [later, reply, gu, gr, rank, rank']
    · simp [later, reply, gu, gs, rank, rank']
      omega
  · rcases rank_cases hg with ⟨gu, -, gs, rank'⟩ | ⟨gu, gr, rank'⟩ | ⟨gu, gs, rank'⟩
    · simp [report, gs, rank, rank']
    · simp [report, gr, rank, rank']
      omega
    · simp [later, report, gs, rank, rank']

/-! ### The least key among the offered slots -/

section Best
variable {sending : Nat → Bool} {start : Nat}

/-- The best of a list is its first slot, when that one is offered, or the best of the others. -/
theorem bestSlot_cons_cases {x : Slot} {rest : List Slot} {n k : Nat} {f : Frame}
    (h : bestSlot sending start (x :: rest) = some (n, f, k)) :
    n = start ∧ sending start = false ∨ bestSlot sending (start + 1) rest = some (n, f, k) := by
  cases x with
  | free => exact .inr h
  | reserved _ => exact .inr h
  | filled g j =>
    simp only [bestSlot] at h
    split at h
    · exact .inr h
    · next idle =>
      have here : (start, g, j) = (n, f, k) → n = start ∧ sending start = false := fun e => by
        cases e
        exact ⟨rfl, by simpa using idle⟩
      split at h
      · exact .inl (here (Option.some.inj h))
      · next found =>
        split at h
        · exact .inl (here (Option.some.inj h))
        · exact .inr (found.trans h)

/-- The best slot is not being sent. -/
theorem bestSlot_idle {l : List Slot} {n k : Nat} {f : Frame} (h : bestSlot sending start l = some (n, f, k)) :
    sending n = false := by
  induction l generalizing start with
  | nil => cases h
  | cons x rest ih =>
    rcases bestSlot_cons_cases h with ⟨rfl, idle⟩ | later
    · exact idle
    · exact ih later

/-- Where a slot is offered there is a best one, and its key is no greater. -/
theorem bestSlot_le {l : List Slot} {i j : Nat} {g : Frame} (entry : l[i]? = some (.filled g j))
    (idle : sending (start + i) = false) :
    ∃ n f k, bestSlot sending start l = some (n, f, k) ∧ f.sendKey k ≤ g.sendKey j := by
  induction l generalizing start i with
  | nil => cases entry
  | cons x rest ih =>
    cases i with
    | zero =>
      cases entry
      simp only [bestSlot]
      rw [if_neg (by simpa using idle)]
      split
      · exact ⟨_, _, _, rfl, Nat.le_refl _⟩
      · split
        · exact ⟨_, _, _, rfl, Nat.le_refl _⟩
        · next after => exact ⟨_, _, _, rfl, Nat.le_of_not_le after⟩
    | succ i =>
      obtain ⟨n, f, k, later, le⟩ := ih (start := start + 1) (i := i) entry
        (by rwa [Nat.add_assoc, Nat.add_comm 1 i])
      cases x with
      | free => exact ⟨n, f, k, later, le⟩
      | reserved _ => exact ⟨n, f, k, later, le⟩
      | filled g' j' =>
        simp only [bestSlot, later]
        split
        · exact ⟨n, f, k, rfl, le⟩
        · split
          · next before => exact ⟨_, _, _, rfl, Nat.le_trans before le⟩
          · exact ⟨n, f, k, rfl, le⟩

end Best

/-! ### The offered frames of the Local Output Queue (R122, R127) -/

/-- Slot `n` is FILLED with frame `f` of fill number `k`, and its transmission has not begun. -/
def State.Offers (s : State) (n : Nat) (f : Frame) (k : Nat) : Prop :=
  n < 64 ∧ s.slot n = .filled f k ∧ ∀ t, s.uTx = some t → t.source ≠ .slot n

section Offers
variable {s : State} {n m k j : Nat} {f g : Frame}

theorem sendingSlot_eq_false : s.sendingSlot n = false ↔ ∀ t, s.uTx = some t → t.source ≠ .slot n := by
  unfold State.sendingSlot
  cases s.uTx <;> simp

theorem offers_iff : s.Offers n f k ↔ s.loq.toList[n]? = some (.filled f k) ∧ s.sendingSlot n = false := by
  rw [sendingSlot_eq_false, State.Offers, ← and_assoc]
  refine and_congr_left fun _ => ⟨fun ⟨inside, filled⟩ => ?_, fun entry => ?_⟩
  · rw [getElem?_toList s.loq .free inside, ← filled, State.slot]
  · have inside : n < 64 := by simpa using (List.getElem?_eq_some_iff.mp entry).1
    rw [getElem?_toList s.loq .free inside] at entry
    exact ⟨inside, Option.some.inj entry⟩

theorem State.SlotLaw.fill_lt (law : s.SlotLaw) (h : s.Offers n f k) : k < 64 := by
  have below := law.book.fills.2 k (List.mem_filterMap.mpr ⟨_, List.mem_of_getElem? (offers_iff.mp h).1, rfl⟩)
  have few : (fillsOf s.loq).length ≤ 64 := by
    simpa [fillsOf] using List.length_filterMap_le Slot.fill? s.loq.toList
  omega

/-- No two slots have the same fill number (R122). -/
theorem State.SlotLaw.fill_unique (law : s.SlotLaw) (h : s.Offers n f k) (h' : s.Offers m g k) : n = m := by
  have apart := List.pairwise_iff_getElem.mp (List.pairwise_filterMap.mp law.book.fills.1)
  obtain ⟨hn, filled⟩ := List.getElem?_eq_some_iff.mp (offers_iff.mp h).1
  obtain ⟨hm, filled'⟩ := List.getElem?_eq_some_iff.mp (offers_iff.mp h').1
  rcases Nat.lt_trichotomy n m with lt | eq | gt
  · exact absurd rfl (apart n m hn hm lt k (by rw [filled]; rfl) k (by rw [filled']; rfl))
  · exact eq
  · exact absurd rfl (apart m n hm hn gt k (by rw [filled']; rfl) k (by rw [filled]; rfl))

theorem State.KindLaw.offers_homeward (law : s.KindLaw) (h : s.Offers n f k) : f.kind.homeward = true := by
  obtain ⟨slots, -⟩ := law
  obtain ⟨entry, -⟩ := offers_iff.mp h
  exact slots f k (List.mem_of_getElem? entry)

/-! ### The next local frame (R126) -/

theorem bestSlot_offers (h : bestSlot s.sendingSlot 0 s.loq.toList = some (n, f, k)) : s.Offers n f k :=
  offers_iff.mpr ⟨(bestSlot_mem h).2, bestSlot_idle h⟩

theorem bestSlot_of_offers (h : s.Offers m g j) :
    ∃ n f k, bestSlot s.sendingSlot 0 s.loq.toList = some (n, f, k) ∧ f.sendKey k ≤ g.sendKey j := by
  obtain ⟨entry, idle⟩ := offers_iff.mp h
  exact bestSlot_le entry (by rwa [Nat.zero_add])

theorem nextLocal_eq_none : s.nextLocal = none ↔ ∀ n f k, ¬s.Offers n f k := by
  rw [State.nextLocal, Option.map_eq_none_iff]
  constructor
  · intro empty n f k offer
    obtain ⟨_, _, _, found, -⟩ := bestSlot_of_offers offer
    cases empty.symm.trans found
  · intro nothing
    cases found : bestSlot s.sendingSlot 0 s.loq.toList with
    | none => rfl
    | some x => exact absurd (bestSlot_offers found) (nothing _ _ _)

/-- The next local frame is the offered one of least key; under the slot law there is only one. -/
theorem nextLocal_eq_some (law : s.SlotLaw) : s.nextLocal = some (n, f) ↔
    ∃ k, s.Offers n f k ∧ ∀ m g j, s.Offers m g j → f.sendKey k ≤ g.sendKey j := by
  constructor
  · intro chosen
    obtain ⟨⟨_, _, k⟩, found, same⟩ := Option.map_eq_some_iff.mp chosen
    cases same
    refine ⟨k, bestSlot_offers found, fun m g j offer => ?_⟩
    obtain ⟨_, _, _, found', le⟩ := bestSlot_of_offers offer
    cases found.symm.trans found'
    exact le
  · rintro ⟨k, offer, least⟩
    obtain ⟨m, g, j, found, le⟩ := bestSlot_of_offers offer
    have offer' := bestSlot_offers found
    have keys : f.sendKey k = g.sendKey j := Nat.le_antisymm (least m g j offer') le
    have small := law.fill_lt offer
    have small' := law.fill_lt offer'
    obtain rfl : k = j := by simp only [Frame.sendKey] at keys; omega
    obtain rfl := law.fill_unique offer offer'
    obtain ⟨-, filled, -⟩ := offer
    obtain ⟨-, filled', -⟩ := offer'
    obtain ⟨rfl, -⟩ := Slot.filled.inj (filled.symm.trans filled')
    rw [State.nextLocal, found]
    rfl

end Offers

/-- Settles O24: the next local frame is the one of least key, and the keys are in R126's order. -/
theorem localFramesLeaveByGroupAndFillNumber : Obligations.LocalFramesLeaveByGroupAndFillNumber := by
  intro s offered urgent slotLaw kindLaw hoffered hurgent
  obtain rfl : offered = s.Offers := by
    funext n f k
    exact propext (hoffered n f k)
  obtain rfl : urgent = Frame.Urgent := funext fun f => propext (hurgent f)
  refine ⟨nextLocal_eq_none, fun n f => ?_⟩
  rw [nextLocal_eq_some slotLaw]
  refine exists_congr fun k => and_congr_right fun offer => forall₄_congr fun m g j offer' => ?_
  exact sendKey_le_iff (kindLaw.offers_homeward offer) (kindLaw.offers_homeward offer') (slotLaw.fill_lt offer)
    (slotLaw.fill_lt offer')

end Sys2Proof.Machine
end

section
/-! ## The ends of the frames being sent -/

namespace Sys2Proof.Machine

/-! ### The flow symbol at the start of a run of idle symbols (R148) -/

/-- A port repeats its flow symbol when it is UP and no frame follows at once. -/
theorem repeatFlow_unless {p : Port} {follows : Bool} {offered : Prop} [Decidable offered]
    (h : follows = true ↔ p.link = .up ∧ p.held = false ∧ offered) :
    (if follows = true then p else p.repeatFlow) =
      if p.link = .down ∨ p.held = false ∧ offered then p
      else { p with flowOut := some (if p.holdSent then .hold else .go) } := by
  unfold Port.repeatFlow
  cases link : p.link with
  | down => simp
  | up => simp [h, link]

section Idle
variable {s : State}

theorem offersFrame_iff : s.offersFrame = true ↔ s.htq ≠ [] ∨ s.nextLocal ≠ none := by
  simp [State.offersFrame, Option.isSome_iff_ne_none]

theorem idleU_frame (s : State) : s.idleU = { s with portU := s.idleU.portU } := by
  unfold State.idleU
  split <;> rfl

theorem idleU_portU (idle : s.uTx = none) : s.idleU.portU =
    if s.portU.link = .down ∨ s.portU.held = false ∧ (s.htq ≠ [] ∨ s.nextLocal ≠ none) then s.portU
    else { s.portU with flowOut := some (if s.portU.holdSent then .hold else .go) } := by
  have follows : (s.uTxReady && s.offersFrame) = true ↔
      s.portU.link = .up ∧ s.portU.held = false ∧ (s.htq ≠ [] ∨ s.nextLocal ≠ none) := by
    simp only [Bool.and_eq_true, uTxReady_iff, offersFrame_iff, idle, and_true, and_assoc]
  rw [← repeatFlow_unless follows, State.idleU]
  split <;> rfl

theorem dTxReady_iff : s.dTxReady = true ↔ s.portD.link = .up ∧ s.portD.held = false ∧ s.dTx = none := by
  simp [State.dTxReady, and_assoc]

theorem idleD_frame (s : State) : s.idleD = { s with portD := s.idleD.portD } := by
  unfold State.idleD
  split <;> rfl

theorem idleD_portD (idle : s.dTx = none) : s.idleD.portD =
    if s.portD.link = .down ∨ s.portD.held = false ∧ s.otq ≠ [] then s.portD
    else { s.portD with flowOut := some (if s.portD.holdSent then .hold else .go) } := by
  have follows : (s.dTxReady && !s.otq.isEmpty) = true ↔
      s.portD.link = .up ∧ s.portD.held = false ∧ s.otq ≠ [] := by
    simp [dTxReady_iff, idle, and_assoc]
  rw [← repeatFlow_unless follows, State.idleD]
  split <;> rfl

end Idle

/-! ### A FILLED slot becomes FREE (R122) -/

section Freed
variable {s : State} {n m k j : Nat} {f g : Frame}

theorem freeSlot_filled (filled : s.slot n = .filled f k) :
    s.freeSlot n = { s with loq := vmap (Slot.lower k) (vset s.loq n .free) } := by
  rw [State.freeSlot, filled]

theorem lt_of_filled (filled : s.slot n = .filled f k) : n < 64 := by
  by_contra outside
  rw [State.slot, vget_outside _ _ _ (Nat.not_lt.mp outside)] at filled
  cases filled

/-- The other slots keep what they hold; fill numbers above the freed one fall by 1. -/
theorem freeSlot_slot (filled : s.slot n = .filled f k) (m : Nat) :
    (s.freeSlot n).slot m = if m = n then .free else Slot.lower k (s.slot m) := by
  rw [freeSlot_filled filled]
  show vget (vmap (Slot.lower k) (vset s.loq n .free)) m (Slot.lower k .free) = _
  rw [vget_vmap]
  split
  · next same =>
    rw [same, vget_vset_same _ _ _ _ (lt_of_filled filled)]
    rfl
  · next other =>
    rw [vget_vset_ne _ _ _ _ _ (Ne.symm other)]
    rfl

theorem lower_unfilled {x : Slot} (unfilled : ∀ g j, x ≠ .filled g j) : Slot.lower k x = x := by
  cases x with
  | filled g j => exact absurd rfl (unfilled g j)
  | free => rfl
  | reserved h => rfl

end Freed

/-! ### U_TX_FRAME_END (R127, R130, R136) -/

/-- The frame that has been sent has left its slot, the HTQ, or the place where it was held apart. -/
def State.frameLeft (x : UTx) (s : State) : State :=
  match x.source with
  | .slot n => State.freeSlot n { s with uTx := none }
  | .htq => State.judgeD { s with uTx := none, htq := s.htq.drop 1 }
  | .detached => { s with uTx := none }

section Left
variable {s : State} {x : UTx}

theorem exec_uTxFrameEnd_idle (live : s.inReset = false) (idle : s.uTx = none) : exec .uTxFrameEnd s = .next s := by
  rw [exec, execUTxFrameEnd, live_of_live live, State.endUTx, idle]

theorem exec_uTxFrameEnd_sending (live : s.inReset = false) (sending : s.uTx = some x) :
    exec .uTxFrameEnd s = .next (s.frameLeft x).idleU := by
  rw [exec, execUTxFrameEnd, live_of_live live, State.endUTx, sending]
  rfl

@[simp] theorem frameLeft_uTx : (s.frameLeft x).uTx = none := by
  unfold State.frameLeft
  split <;> simp

@[simp] theorem frameLeft_portU : (s.frameLeft x).portU = s.portU := by
  unfold State.frameLeft
  split <;> simp

theorem frameLeft_slot {n : Nat} (source : x.source = .slot n) :
    s.frameLeft x = State.freeSlot n { s with uTx := none } := by
  rw [State.frameLeft, source]

theorem frameLeft_htq (source : x.source = .htq) :
    s.frameLeft x = State.judgeD { s with uTx := none, htq := s.htq.drop 1 } := by
  rw [State.frameLeft, source]

theorem frameLeft_detached (source : x.source = .detached) : s.frameLeft x = { s with uTx := none } := by
  rw [State.frameLeft, source]

end Left

/-! ### OTQ_SEND_START and OTQ_SEND_END (R144, R149) -/

section Otq
variable {s : State} {f : Frame}

theorem exec_otqSendStart_head {rest : List Frame} (live : s.inReset = false) (head : s.otq = f :: rest)
    (ready : s.dTxReady = true) : exec .otqSendStart s = .next { s with dTx := some f } := by
  rw [exec, execOtqSendStart, live_of_live live, head]
  exact congrArg Host.Outcome.next (if_pos ready)

theorem exec_otqSendStart_waits (live : s.inReset = false) (waits : s.otq = [] ∨ ¬s.dTxReady = true) :
    exec .otqSendStart s = .next s := by
  rw [exec, execOtqSendStart, live_of_live live]
  split
  · rfl
  · next head => rw [if_neg (waits.resolve_left (by simp [head]))]

theorem exec_otqSendEnd_idle (live : s.inReset = false) (idle : s.dTx = none) : exec .otqSendEnd s = .next s := by
  rw [exec, execOtqSendEnd, live_of_live live, idle]

theorem exec_otqSendEnd_sending (live : s.inReset = false) (sending : s.dTx = some f) :
    exec .otqSendEnd s = .next (State.judgeU { s with dTx := none, otq := s.otq.drop 1 }).idleD := by
  rw [exec, execOtqSendEnd, live_of_live live, sending]

end Otq

/-- Settles O25: the frame leaves its place, and the idle transmitter's flow symbol is repeated when none follows. -/
theorem sentFramesLeaveTheirQueues : Obligations.SentFramesLeaveTheirQueues := by
  refine ⟨fun s live => ⟨exec_uTxFrameEnd_idle live, fun x sending => ?_⟩, fun s live => ?_⟩
  · refine ⟨s.frameLeft x, _, exec_uTxFrameEnd_sending live sending, idleU_frame _, ?_, frameLeft_htq, frameLeft_detached,
      fun n f k source filled => ?_⟩
    · rw [idleU_portU frameLeft_uTx, frameLeft_portU]
    · have slot := freeSlot_slot (s := { s with uTx := none }) filled
      rw [frameLeft_slot source]
      refine ⟨?_, (slot n).trans (if_pos rfl), fun m g j other holds => ?_, fun m other unfilled => ?_⟩
      · rw [freeSlot_filled (s := { s with uTx := none }) filled]
      · rw [slot, if_neg other]
        exact congrArg (Slot.lower k) holds
      · rw [slot, if_neg other]
        exact lower_unfilled unfilled
  · refine ⟨fun f rest head up free idle => exec_otqSendStart_head live head (dTxReady_iff.mpr ⟨up, free, idle⟩),
      fun waits => exec_otqSendStart_waits live ?_, exec_otqSendEnd_idle live, fun f sending => ?_⟩
    · rw [dTxReady_iff]
      rcases waits with empty | down | held | busy
      · exact .inl empty
      · simp [down]
      · simp [held]
      · simp [busy]
    · refine ⟨_, _, exec_otqSendEnd_sending live sending, rfl, idleD_frame _, ?_⟩
      rw [idleD_portD rfl]
      rfl

end Sys2Proof.Machine
end

section
/-! ## NOTICE_PLACE and the items of the Notice Set

The items stand in strict order of their places, so the list is determined by its members: dropping the first item leaves
the rest, and dropping the first 16 one after another leaves what follows them. -/

namespace Sys2Proof.Machine

/-! ### The members of the set (R131) -/

/-- The LINK item of a port. -/
def NoticeSet.link (t : NoticeSet) : PortId → Option LinkState
  | .u => t.linkU
  | .d => t.linkD

/-- The set holds an item: the field of its subject says so. -/
def NoticeSet.Holds (t : NoticeSet) : NoticeItem → Prop
  | .fault k => t.faults.getLsbD k.code = true
  | .link p l => t.link p = some l
  | .node n st => 1 ≤ n ∧ n ≤ 31 ∧ vget t.nodes (n - 1) none = some st
  | .unreachable u => t.unreachable = some u

theorem FaultKind.mem_all (k : FaultKind) : k ∈ FaultKind.all := by cases k <;> decide

theorem mem_nodeItems {start : Nat} {l : List (Option NodeState)} {x : NoticeItem} :
    x ∈ nodeItems start l ↔ ∃ i st, l[i]? = some (some st) ∧ x = .node (start + i) st := by
  induction l generalizing start with
  | nil => simp [nodeItems]
  | cons y rest ih =>
    have tail : x ∈ nodeItems (start + 1) rest ↔ ∃ i st, rest[i]? = some (some st) ∧ x = .node (start + (i + 1)) st := by
      simp only [ih, Nat.add_assoc, Nat.add_comm 1]
    have split := Nat.or_exists_add_one (p := fun i => ∃ st, (y :: rest)[i]? = some (some st) ∧ x = .node (start + i) st)
    rw [← split]
    cases y <;> simp [nodeItems, tail]

theorem mem_nodeItems_node {v : Vector (Option NodeState) 31} {n : Nat} {st : NodeState} :
    .node n st ∈ nodeItems 1 v.toList ↔ 1 ≤ n ∧ n ≤ 31 ∧ vget v (n - 1) none = some st := by
  rw [mem_nodeItems]
  constructor
  · rintro ⟨i, st', entry, same⟩
    cases same
    have inside : i < 31 := by simpa using (List.getElem?_eq_some_iff.mp entry).1
    rw [getElem?_toList v none inside] at entry
    exact ⟨by omega, by omega, by simpa using entry⟩
  · rintro ⟨low, high, entry⟩
    refine ⟨n - 1, st, ?_, by rw [Nat.add_sub_cancel' low]⟩
    rw [getElem?_toList v none (by omega), entry]

theorem mem_items {t : NoticeSet} {x : NoticeItem} : x ∈ t.items ↔ t.Holds x := by
  have node : ∀ {y : NoticeItem}, (∀ n st, y ≠ .node n st) → y ∉ nodeItems 1 t.nodes.toList := fun other h => by
    obtain ⟨_, _, -, e⟩ := mem_nodeItems.mp h
    exact other _ _ e
  simp only [NoticeSet.items, List.mem_append]
  cases x with
  | fault k => simp [NoticeSet.Holds, node, FaultKind.mem_all]
  | link p l => cases p <;> simp [NoticeSet.Holds, NoticeSet.link, node]
  | node n st => simp [NoticeSet.Holds, mem_nodeItems_node]
  | unreachable u => simp [NoticeSet.Holds, node]

/-! ### Their order (R134) -/

/-- One subject stands before another (R134). -/
def NoticeItem.Before (a b : NoticeItem) : Prop := a.place < b.place

theorem FaultKind.code_lt (k : FaultKind) : k.code < 6 := by cases k <;> decide

theorem nodeItems_sorted (start : Nat) (l : List (Option NodeState)) : (nodeItems start l).Pairwise NoticeItem.Before := by
  induction l generalizing start with
  | nil => exact .nil
  | cons y rest ih =>
    cases y with
    | none => exact ih _
    | some st =>
      refine .cons (fun x hx => ?_) (ih _)
      obtain ⟨i, st', -, rfl⟩ := mem_nodeItems.mp hx
      simp only [NoticeItem.Before, NoticeItem.place]
      omega

theorem faultItems_sorted (p : FaultKind → Bool) :
    ((FaultKind.all.filter p).map NoticeItem.fault).Pairwise NoticeItem.Before := by
  have codes : FaultKind.all.Pairwise fun j k => j.code < k.code := by decide
  exact List.pairwise_map.mpr (codes.filter p)

theorem optionItem_sorted {α : Type} (o : Option α) (f : α → NoticeItem) :
    (o.toList.map f).Pairwise NoticeItem.Before := by
  cases o <;> simp

/-- Each part of the list takes up places of its own. -/
theorem items_sorted (t : NoticeSet) : t.items.Pairwise NoticeItem.Before := by
  have faults : ∀ x ∈ (FaultKind.all.filter fun k => t.faults.getLsbD k.code).map NoticeItem.fault, x.place < 6 := by
    intro x hx
    obtain ⟨k, -, rfl⟩ := List.mem_map.mp hx
    exact k.code_lt
  have linkU : ∀ x ∈ t.linkU.toList.map (NoticeItem.link .u), x.place = 6 := by
    intro x hx
    obtain ⟨l, -, rfl⟩ := List.mem_map.mp hx
    rfl
  have linkD : ∀ x ∈ t.linkD.toList.map (NoticeItem.link .d), x.place = 7 := by
    intro x hx
    obtain ⟨l, -, rfl⟩ := List.mem_map.mp hx
    rfl
  have nodes : ∀ x ∈ nodeItems 1 t.nodes.toList, 8 ≤ x.place ∧ x.place ≤ 38 := by
    intro x hx
    obtain ⟨i, st, entry, rfl⟩ := mem_nodeItems.mp hx
    have inside : i < 31 := by simpa using (List.getElem?_eq_some_iff.mp entry).1
    simp only [NoticeItem.place]
    omega
  have unreachable : ∀ x ∈ t.unreachable.toList.map NoticeItem.unreachable, x.place = 39 := by
    intro x hx
    obtain ⟨l, -, rfl⟩ := List.mem_map.mp hx
    rfl
  simp only [NoticeSet.items, List.pairwise_append, faultItems_sorted, optionItem_sorted, nodeItems_sorted, true_and,
    List.mem_append, NoticeItem.Before]
  grind

/-! ### An item leaves the set (R134) -/

theorem bit_getLsbD (j k : FaultKind) : k.bit.getLsbD j.code = decide (j = k) := by cases k <;> cases j <;> rfl

theorem drop_link (t : NoticeSet) (p q : PortId) (l : LinkState) :
    (t.drop (.link p l)).link q = if q = p then none else t.link q := by
  cases p <;> cases q <;> rfl

/-- An item that is dropped is held no more. -/
theorem not_holds_dropped {t : NoticeSet} {a : NoticeItem} (held : t.Holds a) : ¬(t.drop a).Holds a := by
  cases a with
  | fault k => simp [NoticeSet.drop, NoticeSet.Holds, bit_getLsbD]
  | link p l => simp [NoticeSet.Holds, drop_link]
  | node n st =>
    obtain ⟨low, high, -⟩ := held
    simp [NoticeSet.drop, NoticeSet.Holds, vget_vset_same _ _ _ _ (show n - 1 < 31 by omega)]
  | unreachable u => exact nofun

/-- Dropping a held item leaves every other item as it was, since no subject has two. -/
theorem drop_holds_other {t : NoticeSet} {a x : NoticeItem} (held : t.Holds a) (other : x ≠ a) :
    (t.drop a).Holds x ↔ t.Holds x := by
  cases a with
  | fault k =>
    cases x with
    | fault j =>
      have differs : j ≠ k := fun e => other (congrArg _ e)
      have kept : (~~~k.bit).getLsbD j.code = true := by
        rw [BitVec.getLsbD_not, bit_getLsbD, decide_eq_false differs, decide_eq_true j.code_lt]
        rfl
      rw [NoticeSet.Holds, NoticeSet.drop, BitVec.getLsbD_and, kept, Bool.and_true, NoticeSet.Holds]
    | _ => rfl
  | link p l =>
    have here : t.link p = some l := held
    cases x with
    | link q m =>
      simp only [NoticeSet.Holds, drop_link]
      split
      · next same =>
        subst same
        have differs : l ≠ m := fun e => other (congrArg _ e.symm)
        simp [here, differs]
      · rfl
    | _ => cases p <;> rfl
  | node n st =>
    obtain ⟨low, high, here⟩ : 1 ≤ n ∧ n ≤ 31 ∧ vget t.nodes (n - 1) none = some st := held
    cases x with
    | node m st' =>
      refine and_congr_right fun low' => and_congr_right fun _ => ?_
      by_cases same : n = m
      · subst same
        have differs : st ≠ st' := fun e => other (congrArg _ e.symm)
        rw [NoticeSet.drop, vget_vset_same _ _ _ _ (by omega), here]
        simp [differs]
      · rw [NoticeSet.drop, vget_vset_ne _ _ _ _ _ (by omega)]
    | _ => rfl
  | unreachable u =>
    have here : t.unreachable = some u := held
    cases x with
    | unreachable v =>
      have differs : u ≠ v := fun e => other (congrArg _ e.symm)
      simp [NoticeSet.drop, NoticeSet.Holds, here, differs]
    | _ => rfl

/-- A list in strict order of its places is determined by its members. -/
theorem eq_of_sorted {l m : List NoticeItem} (hl : l.Pairwise NoticeItem.Before) (hm : m.Pairwise NoticeItem.Before)
    (same : ∀ x, x ∈ l ↔ x ∈ m) : l = m :=
  have : Std.Irrefl NoticeItem.Before := ⟨fun x => Nat.lt_irrefl x.place⟩
  have : Std.Antisymm NoticeItem.Before := ⟨fun _ _ h h' => absurd h' (Nat.lt_asymm h)⟩
  hl.eq_of_mem_iff hm same

theorem drop_items {t : NoticeSet} {a : NoticeItem} {rest : List NoticeItem} (h : t.items = a :: rest) :
    (t.drop a).items = rest := by
  have sorted := items_sorted t
  rw [h] at sorted
  obtain ⟨first, sorted⟩ := List.pairwise_cons.mp sorted
  have held : t.Holds a := mem_items.mp (h ▸ List.mem_cons_self)
  refine eq_of_sorted (items_sorted _) sorted fun x => ?_
  rw [mem_items]
  by_cases same : x = a
  · subst same
    exact iff_of_false (not_holds_dropped held) fun hx => Nat.lt_irrefl _ (first _ hx)
  · rw [drop_holds_other held same, ← mem_items, h, List.mem_cons]
    exact or_iff_right same

theorem foldl_drop_items (k : Nat) (t : NoticeSet) : ((t.items.take k).foldl NoticeSet.drop t).items = t.items.drop k := by
  induction k generalizing t with
  | zero => rfl
  | succ k ih =>
    cases h : t.items with
    | nil => simpa using h
    | cons a rest =>
      rw [List.take_succ_cons, List.foldl_cons, List.drop_succ_cons, ← drop_items h]
      exact ih _

/-! ### The bytes of an item (R186) -/

theorem bytes_node {n : Nat} (high : n ≤ 31) (st : NodeState) :
    (NoticeItem.node n st).bytes = [BitVec.ofNat 8 (0x80 + n), st.code] := by
  have fields := or_toNat_of_aligned (a := 0x80#8) (b := BitVec.ofNat 8 n) 7 (by decide)
    (by rw [BitVec.toNat_ofNat]; omega)
  have byte : 0x80#8 ||| BitVec.ofNat 8 n = BitVec.ofNat 8 (0x80 + n) := by
    apply BitVec.eq_of_toNat_eq
    rw [fields, BitVec.toNat_ofNat, BitVec.toNat_ofNat, BitVec.toNat_ofNat]
    omega
  rw [NoticeItem.bytes, byte]

theorem bytes_unreachable (u : Unreachable) :
    (NoticeItem.unreachable u).bytes = [BitVec.ofNat 8 (0xC0 + u.position.toNat), BitVec.ofNat 8 u.count] := by
  have small := u.position.isLt
  have fields := or_toNat_of_aligned (a := 0xC0#8) (b := u.position.setWidth 8) 6 (by decide)
    (by rw [BitVec.toNat_setWidth]; omega)
  have byte : 0xC0#8 ||| u.position.setWidth 8 = BitVec.ofNat 8 (0xC0 + u.position.toNat) := by
    apply BitVec.eq_of_toNat_eq
    rw [fields, BitVec.toNat_setWidth, BitVec.toNat_ofNat, BitVec.toNat_ofNat]
    omega
  rw [NoticeItem.bytes, byte]

/-! ### NOTICE_PLACE (R132 to R134) -/

section Place
variable {s : State}

theorem noticeReady_iff : s.noticeReady = true ↔
    s.notice.items ≠ [] ∧ s.portU.link = .up ∧ s.params.noticeHoldoff ≤ s.notice.holdoff ∧ 2 ≤ s.freeCount := by
  simp [State.noticeReady, and_assoc]

theorem exec_noticePlace_waits (live : s.inReset = false) (waits : s.notice.items = [] ∨ s.portU.link = .down ∨
    s.notice.holdoff < s.params.noticeHoldoff ∨ s.freeCount < 2) : exec .noticePlace s = .next s := by
  have unready : ¬s.noticeReady = true := by
    rw [noticeReady_iff]
    rintro ⟨items, up, elapsed, room⟩
    rcases waits with empty | down | early | full
    · exact items empty
    · cases up.symm.trans down
    · omega
    · omega
  rw [exec, execNoticePlace, live_of_live live, if_neg unready]

theorem exec_noticePlace_ready (live : s.inReset = false) (ready : s.noticeReady = true) :
    exec .noticePlace s = .next s.placeNotice := by
  rw [exec, execNoticePlace, live_of_live live, if_pos ready]

theorem placeNotice_eq {n : Nat} (lowest : s.lowestFree = some n) : s.placeNotice = { s with
    loq := vset s.loq n (.filled
      (noticeFrame s.notice.sequence ((s.notice.items.take 16).flatMap NoticeItem.bytes)) s.filledCount)
    notice := { (s.notice.items.take 16).foldl NoticeSet.drop s.notice with
      holdoff := 0, sequence := s.notice.sequence + 1#12 } } := by
  rw [State.placeNotice, State.fillLowest, lowest]
  rfl

end Place

/-- Settles O26: the NOTICE takes the first 16 items, and what is left of the set is the others. -/
theorem noticeCarriesTheFirstSixteenItems : Obligations.NoticeCarriesTheFirstSixteenItems := by
  refine ⟨fun s live => ⟨exec_noticePlace_waits live, fun n items up elapsed room lowest => ?_⟩, fun t => ?_,
    fun _ => rfl, rfl, rfl, rfl, rfl, rfl, fun _ st _ high => bytes_node high st, rfl, bytes_unreachable⟩
  · refine ⟨_, exec_noticePlace_ready live (noticeReady_iff.mpr ⟨items, up, elapsed, room⟩), ?_⟩
    rw [placeNotice_eq lowest]
    exact ⟨rfl, rfl, foldl_drop_items 16 s.notice, rfl, rfl⟩
  · exact ⟨items_sorted t, fun _ => mem_items, fun _ => mem_items, fun _ => mem_items, fun _ _ => mem_items,
      fun _ => mem_items⟩

end Sys2Proof.Machine
end

section
/-! ## Flow control and what a DOWN link leaves

`State.LinkLaws` is the flow law and the law of DOWN links by part: each receive side with its queues, what stays behind
without the uplink, and what without the downlink. `linkLaws_iff` ties it to the two laws. -/

namespace Sys2Proof.Machine

/-! ### The judgement of a receive side (R148) -/

section Judge
variable {p : Port} {holdAt goAt : Bool}

theorem judge_of_down (down : p.link = .down) : p.judge holdAt goAt = p := by
  simp [Port.judge, down]

theorem judge_of_full (up : p.link = .up) (full : holdAt = true) (unsent : p.holdSent = false) :
    p.judge holdAt goAt = { p with holdSent := true, flowOut := some .hold } := by
  simp [Port.judge, up, full, unsent]

theorem judge_of_low (up : p.link = .up) (low : goAt = true) (sent : p.holdSent = true) :
    p.judge holdAt goAt = { p with holdSent := false, flowOut := some .go } := by
  simp [Port.judge, up, low, sent]

/-- Between its limits a receive side sends nothing, nor does it repeat what it has sent. -/
theorem judge_of_between (notFull : holdAt = false ∨ p.holdSent = true) (notLow : goAt = false ∨ p.holdSent = false) :
    p.judge holdAt goAt = p := by
  unfold Port.judge
  rw [if_neg (c := (holdAt && !p.holdSent) = true) (by rcases notFull with h | h <;> simp [h]),
    if_neg (c := (goAt && p.holdSent) = true) (by rcases notLow with h | h <;> simp [h]), ite_self]

theorem judge_cases (p : Port) (holdAt goAt : Bool) : p.judge holdAt goAt = p ∨
    ∃ sent symbol, p.link = .up ∧ p.judge holdAt goAt = { p with holdSent := sent, flowOut := symbol } := by
  unfold Port.judge
  split
  · next up =>
    split
    · exact .inr ⟨_, _, up, rfl⟩
    · split
      · exact .inr ⟨_, _, up, rfl⟩
      · exact .inl rfl
  · exact .inl rfl

@[simp] theorem judge_link : (p.judge holdAt goAt).link = p.link := by
  obtain e | ⟨_, _, -, e⟩ := judge_cases p holdAt goAt <;> rw [e]

end Judge

/-! ### A receive side and its queues (R149, R150) -/

/-- The flags of a DOWN port are clear; an UP port has sent HOLD when its queues are full, and not when they are low. -/
structure Port.Follows (p : Port) (full low : Prop) : Prop where
  down : p.DownLawful
  onFull : p.link = .up → full → p.holdSent = true
  onLow : p.link = .up → low → p.holdSent = false

/-- A judgement puts the flag in agreement, whatever it was. -/
theorem judge_follows {p : Port} {holdAt goAt : Bool} {full low : Prop} (down : p.DownLawful)
    (atFull : holdAt = true ↔ full) (atLow : goAt = true ↔ low) (apart : full → ¬low) :
    (p.judge holdAt goAt).Follows full low := by
  cases link : p.link with
  | down =>
    rw [judge_of_down link]
    exact ⟨down, by simp [link], by simp [link]⟩
  | up =>
    refine ⟨fun fallen => ?_, fun _ isFull => ?_, fun _ isLow => ?_⟩
    · rw [judge_link, link] at fallen
      cases fallen
    · cases sent : p.holdSent with
      | false => rw [judge_of_full link (atFull.mpr isFull) sent]
      | true => rw [judge_of_between (.inr sent) (.inl (by simpa using mt atLow.mp (apart isFull))), sent]
    · cases sent : p.holdSent with
      | false => rw [judge_of_between (.inl (by simpa using mt atFull.mp fun h => apart h isLow)) (.inr sent), sent]
      | true => rw [judge_of_low link (atLow.mpr isLow) sent]

/-- Port U follows the OTQ and the Inbox (R149). -/
def State.FollowsU (s : State) : Prop :=
  s.portU.Follows (3 ≤ s.otq.length ∨ 3 ≤ s.inbox.length) (s.otq.length ≤ 1 ∧ s.inbox.length ≤ 1)

/-- Port D follows the HTQ (R150). -/
def State.FollowsD (s : State) : Prop := s.portD.Follows (7 ≤ s.htq.length) (s.htq.length ≤ 5)

theorem judgeU_followsU {s : State} (down : s.portU.DownLawful) : s.judgeU.FollowsU :=
  judge_follows down (by simp) (by simp) (by omega)

theorem judgeD_followsD {s : State} (down : s.portD.DownLawful) : s.judgeD.FollowsD :=
  judge_follows down (by simp) (by simp) (by omega)

/-- Another port with the same link and hold sent flag follows the same queues. -/
theorem Port.Follows.of_same {p q : Port} {full low : Prop} (f : p.Follows full low) (link : q.link = p.link)
    (sent : q.holdSent = p.holdSent) (down : q.DownLawful) : q.Follows full low :=
  ⟨down, fun up => sent ▸ f.onFull (link ▸ up), fun up => sent ▸ f.onLow (link ▸ up)⟩

theorem downLawful_of_up {p : Port} (up : p.link = .up) : p.DownLawful := fun down => nomatch up.symm.trans down

/-! ### What a DOWN link leaves (R137, R155, R159) -/

/-- What there is without the uplink: nothing being sent on it, no frame, no slot in use and no slot owed one. -/
structure State.Quiet (s : State) : Prop where
  uTx : s.uTx = none
  inbox : s.inbox = []
  chainEnd : s.chainEnd = none
  dues : s.scan.duesOwed = []
  slots : ∀ x ∈ s.loq.toList, x = Slot.free
  queued : ∀ r ∈ s.queue.all, r.isProbe = true
  flying : s.inflightRecord.bind ExRecord.slot = none
  commit : s.commit.bind PendingCommit.slot = none

/-- Without the downlink nothing is being sent on it and the OTQ is empty. -/
def State.Drained (s : State) : Prop := s.portD.link = .down → s.dTx = none ∧ s.otq = []

structure State.LinkLaws (s : State) : Prop where
  followsU : s.FollowsU
  followsD : s.FollowsD
  quiet : s.portU.link = .down → s.Quiet
  drained : s.Drained

theorem linkLaws_iff (s : State) : s.LinkLaws ↔ s.FlowLaw ∧ s.DownLaw := by
  have unslotted : ∀ {α : Type} (o : Option α) (slot : α → Option Nat), o.bind slot = none ↔ ∀ r ∈ o, slot r = none := by
    intro α o slot
    cases o <;> simp
  constructor
  · rintro ⟨u, d, quiet, drained⟩
    refine ⟨⟨u.down, d.down, fun up => ⟨u.onFull up, u.onLow up⟩, fun up => ⟨d.onFull up, d.onLow up⟩⟩, fun down => ?_, drained⟩
    obtain ⟨uTx, inbox, chainEnd, dues, slots, queued, flying, commit⟩ := quiet down
    exact ⟨uTx, inbox, chainEnd, dues, slots, queued, (unslotted _ _).mp flying, (unslotted _ _).mp commit⟩
  · rintro ⟨⟨downU, downD, flowU, flowD⟩, behind, drained⟩
    refine ⟨⟨downU, fun up => (flowU up).1, fun up => (flowU up).2⟩, ⟨downD, fun up => (flowD up).1, fun up => (flowD up).2⟩,
      fun down => ?_, drained⟩
    obtain ⟨uTx, inbox, chainEnd, dues, slots, queued, flying, commit⟩ := behind down
    exact ⟨uTx, inbox, chainEnd, dues, slots, queued, (unslotted _ _).mpr flying, (unslotted _ _).mpr commit⟩

/-! ### Events that leave the ports and the frame queues alone -/

/-- `t` has the ports of `s`, its frame queues, and the frame being sent on Port D. -/
structure SameLinks (s t : State) : Prop where
  portU : t.portU = s.portU
  portD : t.portD = s.portD
  otq : t.otq = s.otq
  htq : t.htq = s.htq
  inbox : t.inbox = s.inbox
  dTx : t.dTx = s.dTx

theorem SameLinks.refl (s : State) : SameLinks s s := ⟨rfl, rfl, rfl, rfl, rfl, rfl⟩

theorem SameLinks.of_eq {s t : State} (h : t = s) : SameLinks s t := h ▸ .refl s

theorem SameLinks.trans {s t u : State} (a : SameLinks s t) (b : SameLinks t u) : SameLinks s u :=
  ⟨b.portU.trans a.portU, b.portD.trans a.portD, b.otq.trans a.otq, b.htq.trans a.htq, b.inbox.trans a.inbox,
    b.dTx.trans a.dTx⟩

section Laws
variable {s t : State}

theorem State.FollowsU.of_same (f : s.FollowsU) (portU : t.portU = s.portU) (otq : t.otq = s.otq)
    (inbox : t.inbox = s.inbox) : t.FollowsU := by
  rwa [State.FollowsU, portU, otq, inbox]

theorem State.FollowsD.of_same (f : s.FollowsD) (portD : t.portD = s.portD) (htq : t.htq = s.htq) : t.FollowsD := by
  rwa [State.FollowsD, portD, htq]

theorem State.Drained.of_same (d : s.Drained) (portD : t.portD = s.portD) (dTx : t.dTx = s.dTx) (otq : t.otq = s.otq) :
    t.Drained := by
  rwa [State.Drained, portD, dTx, otq]

theorem State.LinkLaws.same (l : s.LinkLaws) (links : SameLinks s t)
    (quiet : s.portU.link = .down → s.Quiet → t.Quiet) : t.LinkLaws := by
  obtain ⟨portU, portD, otq, htq, inbox, dTx⟩ := links
  exact ⟨l.followsU.of_same portU otq inbox, l.followsD.of_same portD htq,
    fun down => quiet (portU ▸ down) (l.quiet (portU ▸ down)), l.drained.of_same portD dTx otq⟩

/-- While Port U is UP nothing is asked of the blocks behind it. -/
theorem State.LinkLaws.whileUp (l : s.LinkLaws) (up : s.portU.link = .up) (links : SameLinks s t) : t.LinkLaws :=
  l.same links fun down => nomatch up.symm.trans down

theorem State.LinkLaws.live {f : State → State} (l : s.LinkLaws) (hf : (f s).LinkLaws) (h : Machine.live f s = .next t) :
    t.LinkLaws :=
  live_keeps (P := State.LinkLaws) l hf h

theorem State.LinkLaws.event {f : State → State} (l : s.LinkLaws) (links : SameLinks s (f s))
    (quiet : s.portU.link = .down → s.Quiet → (f s).Quiet) (h : Machine.live f s = .next t) : t.LinkLaws :=
  l.live (l.same links quiet) h

/-- What waits behind Port U shows that it is UP. -/
theorem State.LinkLaws.up_of (l : s.LinkLaws) (busy : ¬s.Quiet) : s.portU.link = .up := by
  cases link : s.portU.link with
  | up => rfl
  | down => exact absurd (l.quiet link) busy

end Laws

/-! ### Behind a DOWN uplink -/

section Quiet
variable {s t : State}

/-- An event that leaves the blocks behind the uplink alone. -/
theorem State.Quiet.same (q : s.Quiet) (uTx : t.uTx = s.uTx) (inbox : t.inbox = s.inbox)
    (chainEnd : t.chainEnd = s.chainEnd) (dues : t.scan.duesOwed = s.scan.duesOwed) (loq : t.loq = s.loq)
    (queue : t.queue = s.queue) (dlc : t.dlc = s.dlc) (commit : t.commit = s.commit) : t.Quiet :=
  ⟨uTx.trans q.uTx, inbox.trans q.inbox, chainEnd.trans q.chainEnd, dues.trans q.dues, loq ▸ q.slots, queue ▸ q.queued,
    by rw [State.inflightRecord, dlc]; exact q.flying, commit ▸ q.commit⟩

/-- An event of the DLC alone, which leaves the record in flight or takes it away. -/
theorem State.Quiet.withDlc (q : s.Quiet) {d : Dlc} (flying : (d.inflight.map Exchange.record).bind ExRecord.slot = none) :
    ({ s with dlc := d } : State).Quiet :=
  ⟨q.uTx, q.inbox, q.chainEnd, q.dues, q.slots, q.queued, flying, q.commit⟩

theorem State.Quiet.bump (q : s.Quiet) (c : Counter) : (s.bump c).Quiet :=
  q.same rfl rfl rfl rfl rfl rfl rfl rfl

theorem State.Quiet.latch (q : s.Quiet) (k : FaultKind) : (s.latch k).Quiet :=
  q.same rfl rfl rfl rfl rfl rfl rfl rfl

theorem State.Quiet.slot_none (q : s.Quiet) {x : Exchange} (hx : s.dlc.inflight = some x) : x.record.slot = none := by
  have flying := q.flying
  rwa [inflightRecord_of_some hx, Option.bind_some] at flying

/-! Ticks -/

theorem State.Quiet.takeExpired (q : s.Quiet) : s.takeExpired.Quiet := by
  rw [takeExpired_nothing fun r hr => ?_]
  · exact q
  · have probe := q.queued r hr
    cases r with
    | probe n => rfl
    | controller c => cases probe
    | scan c => cases probe

theorem State.Quiet.reviveNow (q : s.Quiet) : s.reviveNow.Quiet := by
  unfold State.reviveNow
  split
  · exact q
  · split
    · exact q
    · next n _ =>
      split
      · refine ⟨q.uTx, q.inbox, q.chainEnd, q.dues, q.slots, fun r hr => ?_, q.flying, q.commit⟩
        rcases List.mem_cons.mp ((insert_perm s.queue (.probe n)).mem_iff.mp hr) with rfl | hr
        · rfl
        · exact q.queued r hr
      · exact q

theorem State.Quiet.withScan (q : s.Quiet) {e : ScanEngine} (dues : e.duesOwed = s.scan.duesOwed) :
    ({ s with scan := e } : State).Quiet :=
  q.same rfl rfl rfl dues rfl rfl rfl rfl

theorem State.Quiet.settleRevival (q : s.Quiet) : s.settleRevival.Quiet := by
  unfold State.settleRevival
  split
  · exact State.Quiet.reviveNow (q.withScan rfl)
  · exact q

theorem State.Quiet.settleDues (q : s.Quiet) : s.settleDues.Quiet := by
  rwa [settleDues_nothing q.dues]

theorem State.Quiet.tick (q : s.Quiet) (down : s.portU.link = .down) :
    s.settleTick.countTick.revivalTick.holdoffTick.scanStep.Quiet := by
  have settled : s.settleTick.Quiet := q.takeExpired.settleRevival.settleDues
  have unscanned : s.settleTick.countTick.revivalTick.holdoffTick.scanning = false := by
    simp [State.scanning, down]
  rw [State.scanStep, if_neg (by simp [unscanned])]
  refine settled.same (by simp) (by simp) (by simp) ?_ (by simp) (by simp) (by simp) (by simp)
  rw [holdoffTick_scan, revivalTick_scan]
  split
  · rfl
  · split <;> rfl

/-! Commits -/

theorem State.Quiet.uncommitted (q : s.Quiet) : ({ s with commit := none } : State).Quiet :=
  ⟨q.uTx, q.inbox, q.chainEnd, q.dues, q.slots, q.queued, q.flying, rfl⟩

theorem ackCommit_unheld {c : PendingCommit} (unheld : c.slot = none) (code : AckCode) (payload : List Byte) (s : State) :
    s.ackCommit c code payload = s := by
  rw [State.ackCommit, unheld]
  rfl

theorem State.Quiet.commit_slot (q : s.Quiet) {c : PendingCommit} (hc : s.commit = some c) : c.slot = none := by
  have commit := q.commit
  rwa [hc, Option.bind_some] at commit

theorem State.Quiet.rejectCommit (q : s.Quiet) {c : PendingCommit} (hc : s.commit = some c) (t : TableId) (i : Nat)
    (r : Reason) : (s.rejectCommit c t i r).Quiet := by
  rw [State.rejectCommit, ackCommit_unheld (q.commit_slot hc)]
  exact q.uncommitted

theorem State.Quiet.takeSwap (q : s.Quiet) {c : PendingCommit} (hc : s.commit = some c) : (s.takeSwap c).Quiet := by
  rw [State.takeSwap, ackCommit_unheld (q.commit_slot hc)]
  refine ⟨q.uTx, q.inbox, q.chainEnd, q.dues, q.slots, fun r hr => ?_, q.flying, rfl⟩
  have kept : r ∈ (s.queue.remove ExRecord.isScan).all := hr
  rw [all_remove] at kept
  exact q.queued r (List.mem_filter.mp kept).1

theorem State.Quiet.idleStep (q : s.Quiet) : s.idleStep.Quiet := by
  unfold State.idleStep
  split
  · exact q
  · next c hc =>
    have unheld := q.commit_slot hc
    exact ⟨q.uTx, q.inbox, q.chainEnd, q.dues, q.slots, q.queued, q.flying, unheld⟩

/-! Exchanges -/

theorem State.Quiet.beginAttempt (q : s.Quiet) {x : Exchange} (unslotted : x.record.slot = none) :
    (s.beginAttempt x).Quiet := by
  refine ⟨by simpa using q.uTx, by simpa using q.inbox, by simpa using q.chainEnd, by simpa using q.dues,
    by simpa using q.slots, by simpa using q.queued, ?_, by simpa using q.commit⟩
  rw [beginAttempt_inflightRecord, Option.bind_some, unslotted]

theorem State.Quiet.select (q : s.Quiet) : s.select.Quiet := by
  unfold State.select
  split
  · exact q
  · next r left taken =>
    have all := takeFirst_perm taken
    have probe : r.isProbe = true := q.queued r (all.mem_iff.mpr List.mem_cons_self)
    have rest : ({ s with queue := left } : State).Quiet :=
      ⟨q.uTx, q.inbox, q.chainEnd, q.dues, q.slots, fun y hy => q.queued y (all.mem_iff.mpr (List.mem_cons_of_mem r hy)),
        q.flying, q.commit⟩
    cases r with
    | controller c => cases probe
    | scan c => cases probe
    | probe n =>
      have launched : ({ s with queue := left, dlc := { s.dlc with sessionLost := false } } : State).Quiet :=
        rest.withDlc rest.flying
      show (State.startExchange (.probe n) { s with queue := left }).Quiet
      refine launched.beginAttempt ?_
      exact congrArg ExRecord.slot (planExchange_record _ (.probe n))

/-- The result of an exchange whose record holds no slot reaches no slot. -/
theorem handResult_unslotted {x : Exchange} (unslotted : x.record.slot = none) (o : Option OutcomeCode) (data : List Byte)
    (s : State) : (s.handResult x o data).loq = s.loq ∧ (s.handResult x o data).scan.duesOwed = s.scan.duesOwed := by
  unfold State.handResult
  split
  · next r hr =>
    rw [hr] at unslotted
    have unslotted : r.slot = none := unslotted
    split
    · exact ⟨rfl, rfl⟩
    · cases o <;> simp [unslotted, State.answer, State.releaseReply]
  · next r hr =>
    rw [hr] at unslotted
    have unslotted : r.slot = none := unslotted
    split
    · exact ⟨rfl, rfl⟩
    · split
      · cases o <;> simp [State.scanRetired, unslotted, State.answer, State.releaseReply]
      · cases o with
        | none => simp [State.scanUnjudged, unslotted, State.releaseReply]
        | some p =>
          refine ⟨?_, scanJudged_scan_duesOwed r p data s⟩
          simp only [State.scanJudged, unslotted]
          split <;> rfl
  · exact ⟨rfl, rfl⟩

theorem State.Quiet.complete (q : s.Quiet) {x : Exchange} (unslotted : x.record.slot = none) (o : Option OutcomeCode)
    (data : List Byte) : (s.complete x o data).Quiet := by
  obtain ⟨loq, dues⟩ := handResult_unslotted unslotted o data s
  refine ⟨by simpa using q.uTx, by simpa using q.inbox, by simpa using q.chainEnd, ?_, ?_, by simpa using q.queued,
    by simp [State.inflightRecord], by simpa using q.commit⟩
  · rw [complete_scan, dues, q.dues]
  · rw [complete_loq, loq]
    exact q.slots

theorem State.Quiet.endAttempt (q : s.Quiet) {x : Exchange} (unslotted : x.record.slot = none) (o : OutcomeCode)
    (data : List Byte) : (s.endAttempt x o data).Quiet := by
  unfold State.endAttempt
  obtain ⟨result, payload, e⟩ | e := recordAttempt_cases x o data s
  · have done := q.complete (x := x.noted o) unslotted result payload
    rw [e]
    exact done.withDlc done.flying
  · rw [e]
    exact q.withDlc unslotted

theorem State.Quiet.stray (q : s.Quiet) : s.stray.Quiet := (q.bump _).latch _

theorem State.Quiet.receiveChar (q : s.Quiet) (c : DropChar) : (s.receiveChar c).Quiet := by
  unfold State.receiveChar
  split
  · exact q.stray
  · exact q.stray
  · exact q.stray
  · exact q
  · split
    · split
      · exact q
      · next hx =>
        have unslotted := q.slot_none hx
        exact q.withDlc unslotted
    · exact q.stray
  · split
    · exact q
    · next x hx =>
      have unslotted := q.slot_none hx
      dsimp only
      split
      · exact q.endAttempt (x := { x with response := x.response ++ [c] }) unslotted _ _
      · exact q.withDlc unslotted

theorem State.Quiet.leaveGuard (q : s.Quiet) : s.leaveGuard.Quiet := by
  unfold State.leaveGuard
  split
  · exact q.withDlc q.flying
  · exact q.withDlc q.flying

theorem State.Quiet.endGuard (q : s.Quiet) : s.endGuard.Quiet := by
  unfold State.endGuard
  split
  · exact q.leaveGuard
  · next x hx =>
    have unslotted := q.slot_none hx
    split
    · exact (q.complete (x := x.noted .sent) unslotted _ _).leaveGuard
    · split
      · exact (q.complete unslotted _ _).leaveGuard
      · unfold State.continueExchange
        split
        · exact q.beginAttempt (x := s.mainStep x) unslotted
        · exact q.beginAttempt unslotted

end Quiet

/-! ### The links and the frames on them -/

section Links
variable {s t : State}

/-- A port changes in what no law looks at. -/
theorem State.LinkLaws.setPort (l : s.LinkLaws) (p : PortId) {q : Port} (link : q.link = (s.port p).link)
    (sent : q.holdSent = (s.port p).holdSent) (down : q.DownLawful) : (s.setPort p q).LinkLaws := by
  cases p with
  | u =>
    exact ⟨Port.Follows.of_same l.followsU link sent down, l.followsD, fun fallen =>
      (l.quiet (link.symm.trans fallen)).same rfl rfl rfl rfl rfl rfl rfl rfl, l.drained⟩
  | d => exact ⟨l.followsU, Port.Follows.of_same l.followsD link sent down, fun fallen =>
      (l.quiet fallen).same rfl rfl rfl rfl rfl rfl rfl rfl, fun fallen => l.drained (link.symm.trans fallen)⟩

theorem State.LinkLaws.port_down (l : s.LinkLaws) (p : PortId) : (s.port p).DownLawful := by
  cases p with
  | u => exact l.followsU.down
  | d => exact l.followsD.down

theorem isUp_iff {p : PortId} : s.isUp p = true ↔ (s.port p).link = .up := by simp [State.isUp]

theorem not_isUp_iff {p : PortId} : ¬s.isUp p = true ↔ (s.port p).link = .down := by
  rw [isUp_iff]
  cases (s.port p).link <;> simp

/-- Port U judges its queues after an event that touched them, while it is UP. -/
theorem judgeU_linkLaws (up : s.portU.link = .up) (followsD : s.FollowsD) (drained : s.Drained) : s.judgeU.LinkLaws := by
  refine ⟨judgeU_followsU (downLawful_of_up up), followsD, fun fallen => ?_, drained⟩
  have same : s.judgeU.portU.link = s.portU.link := judge_link
  exact nomatch up.symm.trans (same.symm.trans fallen)

/-- Port D judges the HTQ after an event that touched it. -/
theorem judgeD_linkLaws (followsU : s.FollowsU) (down : s.portD.DownLawful) (quiet : s.portU.link = .down → s.Quiet)
    (drained : s.Drained) : s.judgeD.LinkLaws := by
  refine ⟨followsU, judgeD_followsD down, fun fallen => ?_, fun fallen => ?_⟩
  · exact (quiet fallen).same rfl rfl rfl rfl rfl rfl rfl rfl
  · have same : s.judgeD.portD.link = s.portD.link := judge_link
    exact drained (same.symm.trans fallen)

theorem State.LinkLaws.enterUp (l : s.LinkLaws) (p : PortId) : (s.enterUp p).LinkLaws := by
  cases p with
  | u =>
    have risen : ({ s with portU := s.portU.rise } : State).judgeU.LinkLaws := judgeU_linkLaws rfl l.followsD l.drained
    exact risen.whileUp judge_link ⟨rfl, rfl, rfl, rfl, rfl, rfl⟩
  | d =>
    have risen : ({ s with portD := s.portD.rise } : State).judgeD.LinkLaws :=
      judgeD_linkLaws l.followsU (downLawful_of_up rfl)
        (fun fallen => (l.quiet fallen).same rfl rfl rfl rfl rfl rfl rfl rfl) nofun
    exact risen.same ⟨rfl, rfl, rfl, rfl, rfl, rfl⟩ fun _ q => q.same rfl rfl rfl rfl rfl rfl rfl rfl

theorem fall_follows (p : Port) (full low : Prop) : p.fall.Follows full low :=
  ⟨fun _ => ⟨rfl, rfl, rfl⟩, nofun, nofun⟩

/-- An uplink loss leaves nothing behind Port U (R32, R58, R104, R137, R159). -/
theorem uplinkLoss_quiet (dues : s.scan.duesOwed = []) : s.uplinkLoss.Quiet := by
  refine ⟨rfl, rfl, rfl, dues, fun x hx => ?_, nofun, ?_, ?_⟩
  · have free : x ∈ (Vector.replicate 64 Slot.free).toList := hx
    simpa using free
  · show (s.dlc.loseSession.inflight.map Exchange.record).bind ExRecord.slot = none
    rw [loseSession_inflight]
    cases s.dlc.inflight <;> simp
  · show (s.commit.map fun c => { c with slot := none }).bind PendingCommit.slot = none
    cases s.commit <;> rfl

theorem State.LinkLaws.enterDown (l : s.LinkLaws) (p : PortId) : (s.enterDown p).LinkLaws := by
  cases p with
  | u =>
    have lost : (s.settleDues.setPort .u s.portU.fall).uplinkLoss.Quiet := uplinkLoss_quiet (settleDues_duesOwed s)
    refine judgeD_linkLaws (fall_follows s.portU _ _) ?_ (fun _ => lost.same rfl rfl rfl rfl rfl rfl rfl rfl) ?_
    · show s.settleDues.portD.DownLawful
      rw [settleDues_portD]
      exact l.followsD.down
    · exact l.drained.of_same (settleDues_portD s) (settleDues_dTx s) (settleDues_otq s)
  | d =>
    have portD : (s.enterDown .d).portD = s.portD.fall := by simp [State.enterDown, State.setPort]
    have otq : (s.enterDown .d).otq = [] := fold_discardOutward_otq _ _
    have dTx : (s.enterDown .d).dTx = none := fold_discardOutward_dTx _ _
    refine ⟨judgeU_followsU ?_, ?_, fun fallen => ?_, fun _ => ⟨dTx, otq⟩⟩
    · simpa [State.setPort] using l.followsU.down
    · rw [State.FollowsD, portD]
      exact fall_follows _ _ _
    · have link : (s.enterDown .d).portU.link = s.portU.link := by
        rw [show (s.enterDown .d).portU = Port.judge _ _ _ from rfl, judge_link]
        simp [State.setPort]
      exact (l.quiet (link.symm.trans fallen)).same (by simp [State.enterDown]) (by simp [State.enterDown])
        (by simp [State.enterDown]) (by simp [State.enterDown]) (by simp [State.enterDown]) (by simp [State.enterDown])
        (by simp [State.enterDown]) (by simp [State.enterDown])

/-! ### The switches (R151 to R157) -/

/-- Only while Port D is UP does a frame enter the OTQ (R152, R154, R157). -/
theorem State.Drained.placeOtq (up : s.portD.link = .up) (f : Frame) : (s.placeOtq f).Drained := by
  rw [State.Drained, placeOtq_portD, up]
  nofun

theorem State.Drained.enumerateAt (d : s.Drained) (h : Header) (c : Byte) : (s.enumerateAt h c).Drained := by
  unfold State.enumerateAt
  dsimp only
  split
  · next up => exact State.Drained.placeOtq (isUp_iff.mp up) _
  · exact d

theorem State.Drained.forwardOutward (d : s.Drained) (f : Frame) : (s.forwardOutward f).Drained := by
  unfold State.forwardOutward
  split
  · next up => exact State.Drained.placeOtq (isUp_iff.mp up) _
  · exact d

theorem State.Drained.placeInbox (d : s.Drained) (f : Frame) : (s.placeInbox f).Drained :=
  d.of_same (placeInbox_portD f s) (placeInbox_dTx f s) (placeInbox_otq f s)

theorem State.Drained.broadcastControl (d : s.Drained) (f : Frame) : (s.broadcastControl f).Drained := by
  unfold State.broadcastControl
  dsimp only
  split
  · next up =>
    refine State.Drained.placeOtq ?_ f
    rw [← isUp_iff.mp up]
    split
    · exact congrArg Port.link (placeInbox_portD f s)
    · rfl
  · split
    · exact d.placeInbox f
    · exact d

theorem State.Drained.outwardSwitch (d : s.Drained) (f : Frame) : (s.outwardSwitch f).Drained := by
  unfold State.outwardSwitch
  split
  · exact d.enumerateAt _ _
  · split
    · exact d.placeInbox f
    · split
      · exact d
      · exact d.forwardOutward f
  · split
    · exact d.placeInbox f
    · split
      · exact d.broadcastControl f
      · exact d.forwardOutward f
  all_goals exact d

/-- A frame has ended on Port U while it is UP, and been judged (R142). -/
theorem State.LinkLaws.arrivedU (l : s.LinkLaws) (up : s.portU.link = .up) (portU : t.portU = s.portU.frameDone)
    (portD : t.portD = s.portD) (htq : t.htq = s.htq) (drained : t.Drained) : t.judgeU.LinkLaws :=
  judgeU_linkLaws (by rw [portU]; exact up) (l.followsD.of_same portD htq) drained

/-! ### Sending -/

theorem repeatFlow_link (p : Port) : p.repeatFlow.link = p.link := by
  unfold Port.repeatFlow; split <;> rfl

theorem repeatFlow_holdSent (p : Port) : p.repeatFlow.holdSent = p.holdSent := by
  unfold Port.repeatFlow; split <;> rfl

theorem repeatFlow_downLawful {p : Port} (down : p.DownLawful) : p.repeatFlow.DownLawful := by
  unfold Port.repeatFlow
  split
  · next up => exact downLawful_of_up up
  · exact down

theorem State.LinkLaws.idleU (l : s.LinkLaws) : s.idleU.LinkLaws := by
  unfold State.idleU
  split
  · exact l
  · exact l.setPort .u (repeatFlow_link _) (repeatFlow_holdSent _) (repeatFlow_downLawful l.followsU.down)

theorem State.LinkLaws.idleD (l : s.LinkLaws) : s.idleD.LinkLaws := by
  unfold State.idleD
  split
  · exact l
  · exact l.setPort .d (repeatFlow_link _) (repeatFlow_holdSent _) (repeatFlow_downLawful l.followsD.down)

theorem State.LinkLaws.endUTx (l : s.LinkLaws) : s.endUTx.LinkLaws := by
  unfold State.endUTx
  split
  · exact l
  · next x hx =>
    have up : s.portU.link = .up := l.up_of fun q => nomatch hx.symm.trans q.uTx
    have still : ∀ {t : State}, SameLinks s t → t.LinkLaws := l.whileUp up
    refine State.LinkLaws.idleU ?_
    split
    · next n _ => exact still (by constructor <;> simp)
    · exact judgeD_linkLaws l.followsU l.followsD.down (fun fallen => nomatch up.symm.trans fallen) l.drained
    · exact still ⟨rfl, rfl, rfl, rfl, rfl, rfl⟩

theorem State.LinkLaws.endDTx (l : s.LinkLaws) :
    ({ s with dTx := none, otq := s.otq.drop 1 } : State).judgeU.idleD.LinkLaws := by
  refine State.LinkLaws.idleD ⟨judgeU_followsU l.followsU.down, l.followsD, fun fallen => ?_, fun fallen => ⟨rfl, ?_⟩⟩
  · have quiet := l.quiet ((judge_link (p := s.portU)).symm.trans fallen)
    exact quiet.same rfl rfl rfl rfl rfl rfl rfl rfl
  · show s.otq.drop 1 = []
    rw [(l.drained fallen).2, List.drop_nil]

end Links

/-! ### The Inbox head and the commands -/

section Heads
variable {s t : State} {f : Frame} {n : Nat}

/-- A head is taken while Port U is UP, and Port U judges its flow control after it (R8, R149). -/
theorem State.LinkLaws.takeHead {want : Frame → Bool} (l : s.LinkLaws) (h : s.takeHead want = some (f, n, t)) :
    t.LinkLaws ∧ t.portU.link = .up := by
  obtain ⟨-, rest, head, -, rfl⟩ := takeHead_cases h
  have up : s.portU.link = .up := l.up_of fun q => nomatch head.symm.trans q.inbox
  exact ⟨judgeU_linkLaws (s := State.reserveSlot n .dispatch { s with inbox := rest }) up l.followsD l.drained,
    judge_link.trans up⟩

theorem finishControl_links (f : Frame) (n : Nat) (r : CommandResult) : SameLinks r.state (finishControl f n r) := by
  rw [finishControl_eq]
  constructor <;> simp

theorem State.LinkLaws.dispatch {c : Command} {run : List Byte → State → CommandResult} (l : s.LinkLaws)
    (rule : ∀ ops (t : State), SameLinks t (run ops t).state) : (dispatch c run s).LinkLaws := by
  unfold Machine.dispatch
  split
  · exact l
  · next f n t ht =>
    obtain ⟨taken, up⟩ := l.takeHead ht
    refine taken.whileUp up (SameLinks.trans ?_ (finishControl_links f n _))
    unfold runCommand
    split
    · exact rule _ _
    · exact .refl _

theorem State.LinkLaws.settleBefore (l : s.LinkLaws) (want : Frame → Bool) : (s.settleBefore want).LinkLaws := by
  cases link : s.portU.link with
  | down =>
    rw [settleBefore_waits (.inr (l.quiet link).inbox)]
    exact l
  | up =>
    refine l.whileUp link ?_
    unfold State.settleBefore
    split
    · exact .refl _
    · split
      · constructor <;> simp
      · exact .refl _

theorem runSetParam_links (ops : List Byte) (s : State) : SameLinks s (runSetParam ops s).state := by
  unfold runSetParam
  dsimp only
  split
  · exact .refl _
  · split
    · exact .refl _
    · dsimp only
      split
      · constructor <;> simp
      · constructor <;> simp

theorem runClearFaults_links (ops : List Byte) (s : State) : SameLinks s (runClearFaults ops s).state := by
  unfold runClearFaults
  dsimp only
  split
  · exact .refl _
  · constructor <;> rfl

theorem runReadCounters_links (ops : List Byte) (s : State) : SameLinks s (runReadCounters ops s).state := by
  unfold runReadCounters
  dsimp only
  split
  · constructor <;> rfl
  · exact .refl _

theorem runTableWrite_links (ops : List Byte) (s : State) : SameLinks s (runTableWrite ops s).state := by
  unfold runTableWrite
  split
  · exact .refl _
  · dsimp only
    split
    · exact .refl _
    · split
      · exact .refl _
      · constructor <;> simp

theorem runShadowLoad_links (ops : List Byte) (s : State) : SameLinks s (runShadowLoad ops s).state := by
  unfold runShadowLoad
  split
  · exact .refl _
  · constructor <;> simp

theorem runNodeReset_links (ops : List Byte) (s : State) : SameLinks s (runNodeReset ops s).state := by
  unfold runNodeReset
  dsimp only
  split
  · exact .refl _
  · split
    · exact .refl _
    · constructor <;> simp

theorem runCancel_links (ops : List Byte) (s : State) : SameLinks s (runCancel ops s).state := by
  unfold runCancel
  dsimp only
  split
  · constructor <;> simp
  · split
    · split
      · constructor <;> rfl
      · exact .refl _
    · exact .refl _

theorem runFlush_links (ops : List Byte) (s : State) : SameLinks s (runFlush ops s).state := by
  have released := releaseAll_frame (s.queue.all.filter (ExRecord.flushed (opByte ops 0)))
    { s with queue := s.queue.remove (ExRecord.flushed (opByte ops 0)) }
  have state : (runFlush ops s).state = _ := released
  rw [state]
  constructor <;> rfl

theorem startCommit_links (f : Frame) (n : Nat) (s : State) : SameLinks s (s.startCommit f n) := by
  constructor <;> simp

theorem State.LinkLaws.takeCommit (l : s.LinkLaws) : s.takeCommit.LinkLaws := by
  unfold State.takeCommit
  split
  · exact l
  · next f n t ht =>
    obtain ⟨taken, up⟩ := l.takeHead ht
    refine taken.whileUp up ?_
    split
    · exact finishControl_links f n (refuseCommand t .badParam [])
    · split
      · exact finishControl_links f n (refuseCommand t .commitBusy [])
      · exact startCommit_links f n t

/-- A soft reset empties the Inbox, and Port U judges its flow control after it (R160). -/
theorem State.LinkLaws.softReset (l : s.LinkLaws) (up : s.portU.link = .up) (level : ResetLevel) :
    (s.softReset level).LinkLaws ∧ (s.softReset level).portU.link = .up := by
  have judged : ∀ {t : State}, t.portU = s.portU → t.portD = s.portD → t.htq = s.htq → t.dTx = s.dTx → t.otq = s.otq →
      t.judgeU.LinkLaws ∧ t.judgeU.portU.link = .up := fun portU portD htq dTx otq =>
    ⟨judgeU_linkLaws (portU ▸ up) (l.followsD.of_same portD htq) (l.drained.of_same portD dTx otq),
      judge_link.trans (portU ▸ up)⟩
  cases level with
  | queues => exact judged (by simp) (by simp) (by simp) (by simp) (by simp)
  | full => exact judged (by simp) (by simp) (by simp) (by simp) (by simp)

theorem State.LinkLaws.takeSoftReset (l : s.LinkLaws) : s.takeSoftReset.LinkLaws := by
  unfold State.takeSoftReset
  split
  · exact l
  · next f n t ht =>
    obtain ⟨taken, up⟩ := l.takeHead ht
    split
    · exact taken.whileUp up (finishControl_links f n (refuseCommand t .badParam []))
    · split
      · exact taken.whileUp up (finishControl_links f n (refuseCommand t .badValue []))
      · next level _ =>
        obtain ⟨reset, still⟩ := taken.softReset up level
        dsimp only
        split
        · exact reset
        · exact reset.whileUp still (by constructor <;> simp)

end Heads

/-! ### Every command -/

theorem reset_linkLaws (pending : List Instr) (held : Bool) :
    ({ State.reset with inReset := held, pending := pending } : State).LinkLaws := by
  obtain ⟨-, -, -, -, -, -, -, -, -, -, flow, down, -, -⟩ := resetIsLawful
  exact (linkLaws_iff _).mpr ⟨flow, down⟩

/-- Every command keeps flow control in agreement with the queues, and what a DOWN link leaves. -/
theorem exec_linkLaws {c : Instr} {s t : State} (l : s.LinkLaws) (h : exec c s = .next t) : t.LinkLaws := by
  cases c with
  | hardReset cause =>
    obtain rfl : _ = t := Host.Outcome.next.inj h
    split
    · exact reset_linkLaws _ _
    · exact l
  | resetNRise =>
    obtain rfl : _ = t := Host.Outcome.next.inj h
    split
    · exact reset_linkLaws _ _
    · exact l
  | tick =>
    exact l.event (f := fun s => s.settleTick.countTick.revivalTick.holdoffTick.scanStep) (by constructor <;> simp)
      (fun down q => q.tick down) h
  | expiry => exact l.event (by constructor <;> simp) (fun _ q => q.takeExpired) h
  | revivalPoint => exact l.event (by constructor <;> simp) (fun _ q => q.settleRevival) h
  | scanDue =>
    refine l.event (by constructor <;> simp) (fun _ q => ?_) h
    rw [State.nextDue, q.dues]
    exact q
  | linkUp p times =>
    rw [exec, execLinkUp] at h
    refine l.live ?_ h
    split
    · exact l
    · split
      · exact l.setPort p rfl rfl (l.port_down p)
      · exact l.enterUp p
  | linkDown p times =>
    rw [exec, execLinkDown] at h
    refine l.live ?_ h
    split
    · next up =>
      split
      · exact l.setPort p rfl rfl (downLawful_of_up (isUp_iff.mp up))
      · exact l.enterDown p
    · exact l
  | hold p | go p =>
    refine l.live ?_ h
    split
    · next up => exact l.setPort p rfl rfl (downLawful_of_up (isUp_iff.mp up))
    · exact l
  | uFrameArrival bytes invalid =>
    rw [exec, execUFrameArrival] at h
    refine l.live ?_ h
    split
    · next up =>
      have before : (s.setPort .u s.portU.frameDone).Drained := l.drained
      dsimp only
      split
      · exact l.arrivedU (isUp_iff.mp up) rfl rfl rfl before
      · next f _ =>
        exact l.arrivedU (isUp_iff.mp up) (outwardSwitch_portU f _) (outwardSwitch_portD f _) (outwardSwitch_htq f _)
          (before.outwardSwitch f)
    · exact l
  | enumerate header count =>
    rw [exec, execEnumerate] at h
    refine l.live ?_ h
    split
    · next up =>
      have before : (s.setPort .u s.portU.frameDone).Drained := l.drained
      exact l.arrivedU (isUp_iff.mp up) (enumerateAt_portU header count _) (enumerateAt_portD header count _)
        (enumerateAt_htq header count _) (before.enumerateAt header count)
    · exact l
  | dFrameArrival bytes invalid =>
    rw [exec, execDFrameArrival] at h
    refine l.live ?_ h
    split
    · next up =>
      have up : s.portD.link = .up := isUp_iff.mp up
      dsimp only
      split
      · exact judgeD_linkLaws l.followsU (downLawful_of_up up)
          (fun fallen => (l.quiet fallen).same rfl rfl rfl rfl rfl rfl rfl rfl) fun fallen => nomatch up.symm.trans fallen
      · next f _ =>
        have portD : ((s.setPort .d s.portD.frameDone).homewardSwitch f).portD.link = .up := by
          rw [homewardSwitch_portD]
          exact up
        refine judgeD_linkLaws (l.followsU.of_same (by simp [State.setPort]) (by simp) (by simp)) (downLawful_of_up portD)
          (fun fallen => ?_) fun fallen => nomatch portD.symm.trans fallen
        rw [homewardSwitch_portU] at fallen
        exact (l.quiet fallen).same (by simp) (by simp) (by simp) (by simp) (by simp) (by simp) (by simp) (by simp)
    · exact l
  | chainEndAck =>
    rw [exec, execChainEndAck] at h
    refine l.event ?_ (fun _ q => ?_) h
    · split
      · constructor <;> simp
      · exact .refl _
    · rw [q.chainEnd]
      exact q
  | mergeGrant =>
    rw [exec, execMergeGrant] at h
    refine l.event ?_ (fun down q => ?_) h
    · split
      · constructor <;> simp
      · exact .refl _
    · rw [if_neg (by simp [State.uTxReady, down])]
      exact q
  | uTxFrameEnd => exact l.live l.endUTx h
  | otqSendStart =>
    rw [exec, execOtqSendStart] at h
    refine l.live ?_ h
    split
    · exact l
    · split
      · next ready =>
        obtain ⟨up, -, -⟩ := dTxReady_iff.mp ready
        exact ⟨l.followsU, l.followsD, fun fallen => (l.quiet fallen).same rfl rfl rfl rfl rfl rfl rfl rfl,
          fun fallen => nomatch up.symm.trans fallen⟩
      · exact l
  | otqSendEnd =>
    rw [exec, execOtqSendEnd] at h
    refine l.live ?_ h
    split
    · exact l
    · exact l.endDTx
  | noticePlace =>
    rw [exec, execNoticePlace] at h
    refine l.event ?_ (fun down q => ?_) h
    · split
      · constructor <;> simp
      · exact .refl _
    · rw [if_neg (by simp [State.noticeReady, down])]
      exact q
  | requestAdmission =>
    rw [exec, execRequestAdmission] at h
    refine l.live ?_ h
    split
    · exact l
    · next ht =>
      obtain ⟨taken, up⟩ := l.takeHead ht
      exact taken.whileUp up (by constructor <;> simp)
  | badCommand =>
    rw [exec, execBadCommand] at h
    refine l.live ?_ h
    split
    · exact l
    · next f n u ht =>
      obtain ⟨taken, up⟩ := l.takeHead ht
      exact taken.whileUp up (finishControl_links f n (refuseCommand u .badCommand []))
  | readStatus => exact l.live (l.dispatch fun _ t => .refl t) h
  | getParam => exact l.live (l.dispatch fun ops t => .of_eq (runGetParam_state ops t)) h
  | setParam =>
    rw [exec, execSetParam] at h
    exact l.live ((l.settleBefore _).dispatch runSetParam_links) h
  | clearFaults => exact l.live (l.dispatch runClearFaults_links) h
  | readCounters => exact l.live (l.dispatch runReadCounters_links) h
  | tableWrite => exact l.live (l.dispatch runTableWrite_links) h
  | tableRead => exact l.live (l.dispatch fun ops t => .of_eq (runTableRead_state ops t)) h
  | shadowLoad => exact l.live (l.dispatch runShadowLoad_links) h
  | commit => exact l.live l.takeCommit h
  | commitReject =>
    rw [exec, execCommitReject] at h
    refine l.live ?_ h
    split
    · exact l
    · next c hc =>
      split
      · exact l
      · exact l.same (by constructor <;> simp) fun _ q => q.rejectCommit hc _ _ _
  | swap =>
    rw [exec, execSwap] at h
    refine l.live ?_ h
    split
    · exact l
    · next c hc =>
      split
      · exact l
      · exact l.same (by constructor <;> simp) fun _ q => q.settleDues.takeSwap (by simpa using hc)
  | cancel => exact l.live (l.dispatch runCancel_links) h
  | flush => exact l.live (l.dispatch runFlush_links) h
  | nodeReset => exact l.live (l.dispatch runNodeReset_links) h
  | nodeRead => exact l.live (l.dispatch fun ops t => .of_eq (runNodeRead_state ops t)) h
  | lineHalt => exact l.live (l.dispatch fun _ t => by constructor <;> simp [runLineHalt]) h
  | lineRun => exact l.live (l.dispatch fun _ t => by constructor <;> simp [runLineRun]) h
  | softReset =>
    rw [exec, execSoftReset] at h
    exact l.live (l.settleBefore _).takeSoftReset h
  | selection =>
    rw [exec, execSelection] at h
    refine l.live ?_ h
    split
    · exact l.same (by constructor <;> simp) fun _ q => q.select
    · exact l
  | readBackComplete =>
    rw [exec, execReadBackComplete] at h
    refine l.live ?_ h
    split
    · exact l
    · next x hx =>
      obtain ⟨-, -, flying⟩ := transmitting_eq_some.mp hx
      have counted : ∀ d : Dlc, SameLinks s { (if x.step = .sync then s.bump .syncs else s) with dlc := d } := fun d => by
        split <;> exact ⟨rfl, rfl, rfl, rfl, rfl, rfl⟩
      have quiet : s.Quiet → (if x.step = .sync then s.bump .syncs else s).Quiet := fun q => by
        split
        · exact q.bump _
        · exact q
      dsimp only
      split
      · refine l.same (counted _) fun _ q => (quiet q).withDlc ?_
        have unslotted := q.slot_none flying
        exact unslotted
      · refine l.same (counted _) fun _ q => (quiet q).withDlc ?_
        have flight := (quiet q).flying
        exact flight
  | lineContention k rb =>
    rw [exec, execLineContention] at h
    refine l.live ?_ h
    split
    · exact l
    · next x hx =>
      obtain ⟨-, -, flying⟩ := transmitting_eq_some.mp hx
      split
      · exact l.same (by constructor <;> simp) fun _ q => ((q.bump _).latch _).endAttempt (q.slot_none flying) _ _
      · exact l
  | lineFault =>
    rw [exec, execLineFault] at h
    refine l.live ?_ h
    split
    · exact l
    · next x hx =>
      obtain ⟨-, -, flying⟩ := transmitting_eq_some.mp hx
      refine l.same (by constructor <;> simp) fun _ q => ?_
      have unslotted := q.slot_none flying
      have done := (q.latch .dropLineDead).complete (x := x.noted .lineFault) unslotted (some .lineFault) []
      exact done.withDlc done.flying
  | responseStart data framing => exact l.event (by constructor <;> simp) (fun _ q => q.receiveChar _) h
  | responseCharacter c | strayCharacter c => exact l.event (by constructor <;> simp) (fun _ q => q.receiveChar c) h
  | noResponse =>
    rw [exec, execNoResponse] at h
    refine l.live ?_ h
    split
    · next x _ flying => exact l.same (by constructor <;> simp) fun _ q => q.endAttempt (q.slot_none flying) _ _
    · exact l
  | responseEnd =>
    rw [exec, execResponseEnd] at h
    refine l.live ?_ h
    split
    · next x _ flying => exact l.same (by constructor <;> simp) fun _ q => q.endAttempt (q.slot_none flying) _ _
    · exact l
  | guardEnd =>
    rw [exec, execGuardEnd] at h
    refine l.live ?_ h
    split
    · exact l.same (by constructor <;> simp) fun _ q => q.endGuard
    · exact l
  | frameStartInReception p data =>
    rw [exec, execFrameStartInReception] at h
    refine l.live ?_ h
    split
    · next up =>
      have started := l.setPort p (q := { s.port p with rx := some { bytes := data, invalid := false }, silence := 0 })
        rfl rfl (downLawful_of_up (isUp_iff.mp up))
      dsimp only
      split
      · exact started.same (by constructor <;> simp) fun _ q =>
          q.same (by simp) (by simp) (by simp) (by simp) (by simp) (by simp) (by simp) (by simp)
      · exact started
    · exact l
  | resetCharacterFinished =>
    rw [exec, execResetCharacterFinished] at h
    refine l.live ?_ h
    split
    · exact l.same ⟨rfl, rfl, rfl, rfl, rfl, rfl⟩ fun _ q => q.withDlc q.flying
    · exact l

/-- Settles O59: the two laws by part, each kept by every command, and by the idle step, which moves the sweep's cursor. -/
theorem stepKeepsFlowAndDownLaws : Obligations.StepKeepsFlowAndDownLaws := by
  intro s t flow down hs
  refine (linkLaws_iff t).mp (step_keeps (P := State.LinkLaws) (fun u q l => ?_) (fun u l => ?_)
    (fun c u v l => exec_linkLaws l) ((linkLaws_iff s).mpr ⟨flow, down⟩) hs)
  · exact l.same ⟨rfl, rfl, rfl, rfl, rfl, rfl⟩ fun _ quiet => quiet.same rfl rfl rfl rfl rfl rfl rfl rfl
  · exact l.same (by constructor <;> simp) fun _ quiet => quiet.idleStep

end Sys2Proof.Machine
end

section
/-! ## What comes to a port: symbol times, HOLD and GO, frames and their starts -/

namespace Sys2Proof.Machine

section Events
variable {s : State} {p : PortId}

/-! ### Symbol times (R139, R140) -/

theorem exec_linkUp_up (live : s.inReset = false) (up : (s.port p).link = .up) (run : List SymbolTime) :
    exec (.linkUp p run) s = .next s := by
  rw [exec, execLinkUp, live_of_live live, if_pos (isUp_iff.mpr up)]

theorem exec_linkDown_down (live : s.inReset = false) (down : (s.port p).link = .down) (run : List SymbolTime) :
    exec (.linkDown p run) s = .next s := by
  rw [exec, execLinkDown, live_of_live live, if_neg (not_isUp_iff.mpr down)]

/-- A run that falls short of the acquisition limit moves the acquisition count alone. -/
theorem exec_linkUp_counts {run : List SymbolTime} {n : Nat} (live : s.inReset = false) (down : (s.port p).link = .down)
    (short : acquire (s.port p).acquisition run = some n) :
    exec (.linkUp p run) s = .next (s.setPort p { s.port p with acquisition := n }) := by
  rw [exec, execLinkUp, live_of_live live, if_neg (not_isUp_iff.mpr down), short]

/-- A run that falls short of the silence limit moves the silence count, and its invalid symbols spoil the frame in
reception (R143). -/
theorem exec_linkDown_counts {run : List SymbolTime} {n : Nat} (live : s.inReset = false) (up : (s.port p).link = .up)
    (short : silence (s.port p).silence run = some n) :
    exec (.linkDown p run) s = .next (s.setPort p { (s.port p).spoil run with silence := n }) := by
  rw [exec, execLinkDown, live_of_live live, if_pos (isUp_iff.mpr up), short]

/-! ### HOLD and GO (R148) -/

theorem exec_hold_up (live : s.inReset = false) (up : (s.port p).link = .up) :
    exec (.hold p) s = .next (s.setPort p { s.port p with held := true, silence := 0 }) := by
  rw [exec, execHold, live_of_live live, if_pos (isUp_iff.mpr up)]

theorem exec_hold_down (live : s.inReset = false) (down : (s.port p).link = .down) : exec (.hold p) s = .next s := by
  rw [exec, execHold, live_of_live live, if_neg (not_isUp_iff.mpr down)]

theorem exec_go_up (live : s.inReset = false) (up : (s.port p).link = .up) :
    exec (.go p) s = .next (s.setPort p { s.port p with held := false, silence := 0 }) := by
  rw [exec, execGo, live_of_live live, if_pos (isUp_iff.mpr up)]

theorem exec_go_down (live : s.inReset = false) (down : (s.port p).link = .down) : exec (.go p) s = .next s := by
  rw [exec, execGo, live_of_live live, if_neg (not_isUp_iff.mpr down)]

/-! ### Frames (R142, R143) -/

/-- Port U after the end of a frame, before the frame is judged. -/
def State.endedU (s : State) : State := s.setPort .u s.portU.frameDone

/-- Port D after the end of a frame, before the frame is judged. -/
def State.endedD (s : State) : State := s.setPort .d s.portD.frameDone

section Arrival
variable {bytes : List Byte} {invalid : Bool} {f : Frame}

theorem exec_uFrameArrival_bad (live : s.inReset = false) (up : s.portU.link = .up)
    (bad : checkFrame (s.portU.wholeFrame bytes) (s.portU.spoiled invalid) = none) :
    exec (.uFrameArrival bytes invalid) s = .next (s.endedU.checkError .u).judgeU := by
  rw [exec, execUFrameArrival, live_of_live live, if_pos ((isUp_iff (p := .u)).mpr up), bad]
  rfl

theorem exec_uFrameArrival_good (live : s.inReset = false) (up : s.portU.link = .up)
    (good : checkFrame (s.portU.wholeFrame bytes) (s.portU.spoiled invalid) = some f) :
    exec (.uFrameArrival bytes invalid) s = .next (s.endedU.outwardSwitch f).judgeU := by
  rw [exec, execUFrameArrival, live_of_live live, if_pos ((isUp_iff (p := .u)).mpr up), good]
  rfl

theorem exec_uFrameArrival_down (live : s.inReset = false) (down : s.portU.link = .down) :
    exec (.uFrameArrival bytes invalid) s = .next s := by
  rw [exec, execUFrameArrival, live_of_live live, if_neg ((not_isUp_iff (p := .u)).mpr down)]

theorem exec_dFrameArrival_bad (live : s.inReset = false) (up : s.portD.link = .up)
    (bad : checkFrame (s.portD.wholeFrame bytes) (s.portD.spoiled invalid) = none) :
    exec (.dFrameArrival bytes invalid) s = .next (s.endedD.checkError .d).judgeD := by
  rw [exec, execDFrameArrival, live_of_live live, if_pos ((isUp_iff (p := .d)).mpr up), bad]
  rfl

theorem exec_dFrameArrival_good (live : s.inReset = false) (up : s.portD.link = .up)
    (good : checkFrame (s.portD.wholeFrame bytes) (s.portD.spoiled invalid) = some f) :
    exec (.dFrameArrival bytes invalid) s = .next (s.endedD.homewardSwitch f).judgeD := by
  rw [exec, execDFrameArrival, live_of_live live, if_pos ((isUp_iff (p := .d)).mpr up), good]
  rfl

theorem exec_dFrameArrival_down (live : s.inReset = false) (down : s.portD.link = .down) :
    exec (.dFrameArrival bytes invalid) s = .next s := by
  rw [exec, execDFrameArrival, live_of_live live, if_neg ((not_isUp_iff (p := .d)).mpr down)]

theorem exec_enumerate_up (live : s.inReset = false) (up : s.portU.link = .up) (h : Header) (c : Byte) :
    exec (.enumerate h c) s = .next (s.endedU.enumerateAt h c).judgeU := by
  rw [exec, execEnumerate, live_of_live live, if_pos ((isUp_iff (p := .u)).mpr up)]
  rfl

end Arrival

/-- The port with a new frame in reception. -/
def Port.begun (data : List Byte) (q : Port) : Port := { q with rx := some { bytes := data, invalid := false }, silence := 0 }

/-- A frame start with none in reception begins one. -/
theorem exec_frameStart_first (live : s.inReset = false) (up : (s.port p).link = .up) (vacant : (s.port p).rx = none)
    (data : List Byte) :
    exec (.frameStartInReception p data) s = .next (s.setPort p ((s.port p).begun data)) := by
  rw [exec, execFrameStartInReception, live_of_live live, if_pos (isUp_iff.mpr up), vacant]
  rfl

/-- A frame start within a frame cuts it: a check error, and a new frame. -/
theorem exec_frameStart_cut {r : Reception} (live : s.inReset = false) (up : (s.port p).link = .up)
    (cut : (s.port p).rx = some r) (data : List Byte) :
    exec (.frameStartInReception p data) s = .next ((s.setPort p ((s.port p).begun data)).checkError p) := by
  rw [exec, execFrameStartInReception, live_of_live live, if_pos (isUp_iff.mpr up), cut]
  rfl

theorem exec_frameStart_down (live : s.inReset = false) (down : (s.port p).link = .down) (data : List Byte) :
    exec (.frameStartInReception p data) s = .next s := by
  rw [exec, execFrameStartInReception, live_of_live live, if_neg (not_isUp_iff.mpr down)]

end Events

/-- Settles O11: each run falls short of its limit, and the count is that of the symbol times since the run's turn. -/
theorem linksCountSymbolTimes : Obligations.LinksCountSymbolTimes := by
  intro s p first turn run live
  refine ⟨fun up => exec_linkUp_up live up run, fun down => exec_linkDown_down live down run,
    fun down valid => ⟨fun short => ?_, fun short turned fewer => ?_⟩,
    fun up quiet => ⟨fun short => ?_, fun short turned fewer => ?_⟩⟩
  · exact exec_linkUp_counts live down (acquire_run _ run valid short)
  · exact exec_linkUp_counts live down (acquire_turn _ first run turn short turned valid fewer)
  · exact exec_linkDown_counts live up (silence_run _ run quiet short)
  · exact exec_linkDown_counts live up (silence_turn _ first run turn short turned quiet fewer)

/-! ### What the receive sides send (R148 to R150) -/

section Judged
variable {s : State}

theorem judgeU_of_full (up : s.portU.link = .up) (full : 3 ≤ s.otq.length ∨ 3 ≤ s.inbox.length)
    (unsent : s.portU.holdSent = false) :
    s.judgeU = { s with portU := { s.portU with holdSent := true, flowOut := some .hold } } :=
  congrArg (fun q => { s with portU := q }) (judge_of_full up (by simpa using full) unsent)

theorem judgeU_of_low (up : s.portU.link = .up) (low : s.otq.length ≤ 1 ∧ s.inbox.length ≤ 1)
    (sent : s.portU.holdSent = true) :
    s.judgeU = { s with portU := { s.portU with holdSent := false, flowOut := some .go } } :=
  congrArg (fun q => { s with portU := q }) (judge_of_low up (by simpa using low) sent)

theorem judgeU_of_neither (neither : s.portU.link = .down ∨
    ¬(3 ≤ s.otq.length ∨ 3 ≤ s.inbox.length) ∧ s.portU.holdSent = false ∨
    ¬(s.otq.length ≤ 1 ∧ s.inbox.length ≤ 1) ∧ s.portU.holdSent = true) : s.judgeU = s := by
  refine congrArg (fun q => { s with portU := q }) ?_
  rcases neither with down | ⟨notFull, unsent⟩ | ⟨notLow, sent⟩
  · exact judge_of_down down
  · exact judge_of_between (.inl (by simpa using notFull)) (.inr unsent)
  · exact judge_of_between (.inr sent) (.inl (by simpa using notLow))

theorem judgeD_of_full (up : s.portD.link = .up) (full : 7 ≤ s.htq.length) (unsent : s.portD.holdSent = false) :
    s.judgeD = { s with portD := { s.portD with holdSent := true, flowOut := some .hold } } :=
  congrArg (fun q => { s with portD := q }) (judge_of_full up (by simpa using full) unsent)

theorem judgeD_of_low (up : s.portD.link = .up) (low : s.htq.length ≤ 5) (sent : s.portD.holdSent = true) :
    s.judgeD = { s with portD := { s.portD with holdSent := false, flowOut := some .go } } :=
  congrArg (fun q => { s with portD := q }) (judge_of_low up (by simpa using low) sent)

theorem judgeD_of_neither (neither : s.portD.link = .down ∨ s.htq.length < 7 ∧ s.portD.holdSent = false ∨
    5 < s.htq.length ∧ s.portD.holdSent = true) : s.judgeD = s := by
  refine congrArg (fun q => { s with portD := q }) ?_
  rcases neither with down | ⟨notFull, unsent⟩ | ⟨notLow, sent⟩
  · exact judge_of_down down
  · exact judge_of_between (.inl (by simpa using notFull)) (.inr unsent)
  · exact judge_of_between (.inr sent) (.inl (by simpa using notLow))

end Judged

/-- Settles O15: HOLD and GO write the held flag of an UP port, and each receive side sends by its own thresholds. -/
theorem holdAndGoFollowFlowControl : Obligations.HoldAndGoFollowFlowControl := by
  refine ⟨fun s p live => ⟨fun up => ⟨exec_hold_up live up, exec_go_up live up⟩,
    fun down => ⟨exec_hold_down live down, exec_go_down live down⟩⟩, fun s full low hfull hlow => ?_,
    fun s => ⟨judgeD_of_full, judgeD_of_low, judgeD_of_neither⟩⟩
  rw [hfull, hlow]
  exact ⟨judgeU_of_full, judgeU_of_low, judgeU_of_neither⟩

/-- Settles O17: a frame that fails its check reaches its port, the counter, the fault and its item alone. -/
theorem checkErrorsAreCountedAndLatched : Obligations.CheckErrorsAreCountedAndLatched := by
  intro s bytes invalid live
  exact ⟨exec_uFrameArrival_bad live, exec_dFrameArrival_bad live,
    fun r up cut => exec_frameStart_cut (p := .u) live up cut bytes,
    fun r up cut => exec_frameStart_cut (p := .d) live up cut bytes,
    fun p up vacant => exec_frameStart_first live up vacant bytes, exec_uFrameArrival_down live,
    exec_dFrameArrival_down live, fun p down => exec_frameStart_down live down bytes⟩

end Sys2Proof.Machine
end

section
/-! ## Good frames: the switches, the broadcast copies, enumeration, and the loss of the downlink -/

namespace Sys2Proof.Machine

/-! ### Queues with room and without (R144 to R147) -/

section Places
variable {s : State} {f : Frame}

theorem placeOtq_room (room : s.otq.length < 4) : s.placeOtq f = { s with otq := s.otq ++ [f] } := if_pos room

theorem placeOtq_full (full : 4 ≤ s.otq.length) : s.placeOtq f = s.overflow := if_neg (Nat.not_lt.mpr full)

theorem placeInbox_room (room : s.inbox.length < 4) : s.placeInbox f = { s with inbox := s.inbox ++ [f] } := if_pos room

theorem placeInbox_full (full : 4 ≤ s.inbox.length) : s.placeInbox f = s.overflow := if_neg (Nat.not_lt.mpr full)

theorem placeHtq_room (room : s.htq.length < 8) : s.placeHtq f = { s with htq := s.htq ++ [f] } := if_pos room

theorem placeHtq_full (full : 8 ≤ s.htq.length) : s.placeHtq f = s.overflow := if_neg (Nat.not_lt.mpr full)

/-! ### The Outward Switch (R151, R154) -/

theorem ownPosition_iff : (s.assigned && decide (f.position.toNat = s.position)) = true ↔
    1 ≤ s.position ∧ f.position.toNat = s.position := by
  simp [State.assigned, Nat.one_le_iff_ne_zero]

theorem outwardSwitch_own (kind : f.kind = .request ∨ f.kind = .control) (assigned : 1 ≤ s.position)
    (own : f.position.toNat = s.position) : s.outwardSwitch f = s.placeInbox f := by
  rcases kind with kind | kind <;> rw [State.outwardSwitch, kind] <;> exact if_pos (ownPosition_iff.mpr ⟨assigned, own⟩)

theorem outwardSwitch_beyond (kind : f.kind = .request ∨ f.kind = .control)
    (other : s.position = 0 ∨ f.position.toNat ≠ s.position) (addressed : f.position ≠ 63#6) :
    s.outwardSwitch f = s.forwardOutward f := by
  have notOwn : ¬(s.assigned && decide (f.position.toNat = s.position)) = true := by
    rw [ownPosition_iff]
    rintro ⟨assigned, own⟩
    exact other.elim (by omega) fun ne => ne own
  rcases kind with kind | kind <;> rw [State.outwardSwitch, kind] <;> exact (if_neg notOwn).trans (if_neg addressed)

/-- No bridge has position 63 (R151). -/
theorem not_own_of_broadcast (low : s.position ≤ 62) (all : f.position = 63#6) :
    ¬(s.assigned && decide (f.position.toNat = s.position)) = true := by
  rw [ownPosition_iff, all]
  rintro ⟨-, own⟩
  have : (63#6).toNat = 63 := rfl
  omega

theorem outwardSwitch_broadcast_request (kind : f.kind = .request) (low : s.position ≤ 62) (all : f.position = 63#6) :
    s.outwardSwitch f = s.bump .misdirected := by
  rw [State.outwardSwitch, kind]
  exact (if_neg (not_own_of_broadcast low all)).trans (if_pos all)

theorem outwardSwitch_broadcast_control (kind : f.kind = .control) (low : s.position ≤ 62) (all : f.position = 63#6) :
    s.outwardSwitch f = s.broadcastControl f := by
  rw [State.outwardSwitch, kind]
  exact (if_neg (not_own_of_broadcast low all)).trans (if_pos all)

theorem outwardSwitch_homeward (homeward : f.kind.homeward = true) : s.outwardSwitch f = s.bump .misdirected := by
  unfold State.outwardSwitch
  cases kind : f.kind with
  | reply | ack | scanReport | notice => rfl
  | request | control | enumerate => rw [kind] at homeward; cases homeward

theorem outwardSwitch_enumerate (kind : f.kind = .enumerate) :
    s.outwardSwitch f = s.enumerateAt f.toHeader (f.payload.headD 0#8) := by
  rw [State.outwardSwitch, kind]

theorem forwardOutward_up (up : s.portD.link = .up) : s.forwardOutward f = s.placeOtq f :=
  if_pos ((isUp_iff (p := .d)).mpr up)

theorem forwardOutward_down (down : s.portD.link = .down) : s.forwardOutward f = s.unreachableFrame f.position :=
  if_neg ((not_isUp_iff (p := .d)).mpr down)

/-- The UNREACHABLE item counts one frame more, up to 255 (R131). -/
theorem unreachable_next (p : BitVec 6) (o : Option Unreachable) :
    Unreachable.next p o = { position := p, count := min 255 ((o.map Unreachable.count).getD 0 + 1) } := by
  cases o with
  | none => rfl
  | some u =>
    have count : (if u.count < 255 then u.count + 1 else 255) = min 255 (u.count + 1) := by split <;> omega
    exact congrArg (fun k => ({ position := p, count := k } : Unreachable)) count

theorem unreachableFrame_eq (p : BitVec 6) (s : State) : s.unreachableFrame p = { s.bump .unreachable with
    notice := { s.notice with
      unreachable := some {
        position := p, count := min 255 ((s.notice.unreachable.map Unreachable.count).getD 0 + 1) } } } := by
  rw [← unreachable_next]
  rfl

end Places

/-- Settles O18: the kind and the target choose the queue or the counter, and the queue's room the rest. -/
theorem outwardSwitchJudgesByKindAndTarget : Obligations.OutwardSwitchJudgesByKindAndTarget := by
  intro s t bytes invalid f live up low good ht
  obtain rfl : t = s.endedU := ht
  rw [exec_uFrameArrival_good live up good]
  refine ⟨fun kind assigned own => ?_, fun kind other addressed => ?_, fun kind all => ?_, fun homeward => ?_⟩
  · rw [outwardSwitch_own (s := s.endedU) kind assigned own]
    exact ⟨fun room => by rw [placeInbox_room (s := s.endedU) room]; rfl,
      fun full => by rw [placeInbox_full (s := s.endedU) full]; rfl⟩
  · rw [outwardSwitch_beyond (s := s.endedU) kind other addressed]
    refine ⟨fun upD room => ?_, fun upD full => ?_, fun downD => ?_⟩
    · rw [forwardOutward_up (s := s.endedU) upD, placeOtq_room (s := s.endedU) room]
      rfl
    · rw [forwardOutward_up (s := s.endedU) upD, placeOtq_full (s := s.endedU) full]
      rfl
    · rw [forwardOutward_down (s := s.endedU) downD, unreachableFrame_eq]
      rfl
  · rw [outwardSwitch_broadcast_request (s := s.endedU) kind low all]
  · rw [outwardSwitch_homeward homeward]

/-! ### Overflows (R147, R172) -/

/-- `t` is `s` after `n` frame copies have been discarded for a full queue: counted, latched, the item placed by the first. -/
structure Overflowed (n : Nat) (s t : State) : Prop where
  counted : (t.counter .receiveOverflow).toNat = min 65535 ((s.counter .receiveOverflow).toNat + n)
  otherCounters : ∀ c, c ≠ .receiveOverflow → t.counter c = s.counter c
  latched : t.latched .receiveOverflow = (s.latched .receiveOverflow || decide (0 < n))
  otherFaults : ∀ k, k ≠ .receiveOverflow → t.latched k = s.latched k
  notice : t.notice = { s.notice with
    faults := if 0 < n ∧ s.latched .receiveOverflow = false then s.notice.faults ||| 4#6 else s.notice.faults }

section Overflow
variable {s t u : State} {f : Frame}

theorem Overflowed.none (counters : t.counters = s.counters) (faults : t.faults = s.faults) (notice : t.notice = s.notice) :
    Overflowed 0 s t := by
  have latched : ∀ k, t.latched k = s.latched k := fun k => by rw [State.latched, State.latched, faults]
  refine ⟨?_, fun c _ => counter_congr counters c, by simp [latched], fun k _ => latched k, by simp [notice]⟩
  have := (s.counter .receiveOverflow).isLt
  rw [counter_congr counters]
  omega

theorem overflowed_overflow (s : State) : Overflowed 1 s s.overflow := by
  have counter : ∀ c, s.overflow.counter c = (s.bump .receiveOverflow).counter c := fun c => rfl
  refine ⟨?_, fun c other => ?_, ?_, fun k other => ?_, ?_⟩
  · rw [counter, counter_bump, if_pos rfl, saturate_toNat]
  · rw [counter, counter_bump, if_neg other.symm]
  · rw [State.overflow, latched_latch]
    rfl
  · rw [State.overflow, latched_latch, decide_eq_false other, Bool.or_false]
    rfl
  · have bit : FaultKind.receiveOverflow.bit = 4#6 := rfl
    have before : (s.bump .receiveOverflow).latched .receiveOverflow = s.latched .receiveOverflow := rfl
    rw [State.overflow, latch_notice, bit, before]
    cases s.latched .receiveOverflow <;> rfl

theorem Overflowed.trans {m n : Nat} (a : Overflowed m s t) (b : Overflowed n t u) : Overflowed (m + n) s u := by
  refine ⟨?_, fun c other => (b.otherCounters c other).trans (a.otherCounters c other), ?_,
    fun k other => (b.otherFaults k other).trans (a.otherFaults k other), ?_⟩
  · have first := a.counted
    have second := b.counted
    omega
  · rw [b.latched, a.latched, Bool.or_assoc, ← Bool.decide_or]
    exact congrArg _ (decide_eq_decide.mpr (by omega))
  · rw [b.notice, a.latched, a.notice]
    cases s.latched .receiveOverflow with
    | true => simp
    | false =>
      by_cases hm : 0 < m
      · simp [hm]
      · have zero : m = 0 := by omega
        simp [zero]

theorem overflows_iff (p q : Prop) [Decidable p] [Decidable q] :
    0 < (if p then 1 else 0) + (if q then 1 else 0) ↔ p ∨ q := by
  by_cases hp : p
  · simp [hp]
  · simp [hp, Nat.pos_iff_ne_zero]

/-- A copy of the frame goes to the Inbox, or does not. -/
def State.inwardCopy (goes : Prop) [Decidable goes] (f : Frame) (s : State) : State := if goes then s.placeInbox f else s

/-- A copy of the frame goes to the OTQ, or does not. -/
def State.outwardCopy (goes : Prop) [Decidable goes] (f : Frame) (s : State) : State := if goes then s.placeOtq f else s

section Copies
variable (goes : Prop) [Decidable goes] (f : Frame) (s : State)

theorem inwardCopy_frame : s.inwardCopy goes f = { s with
    inbox := (s.inwardCopy goes f).inbox, counters := (s.inwardCopy goes f).counters
    faults := (s.inwardCopy goes f).faults, notice := (s.inwardCopy goes f).notice } := by
  unfold State.inwardCopy State.placeInbox
  split
  · split <;> rfl
  · rfl

theorem outwardCopy_frame : s.outwardCopy goes f = { s with
    otq := (s.outwardCopy goes f).otq, counters := (s.outwardCopy goes f).counters
    faults := (s.outwardCopy goes f).faults, notice := (s.outwardCopy goes f).notice } := by
  unfold State.outwardCopy State.placeOtq
  split
  · split <;> rfl
  · rfl

theorem inwardCopy_inbox : (s.inwardCopy goes f).inbox =
    if goes ∧ s.inbox.length < 4 then s.inbox ++ [f] else s.inbox := by
  unfold State.inwardCopy
  by_cases h : goes
  · by_cases room : s.inbox.length < 4
    · rw [if_pos h, placeInbox_room room, if_pos ⟨h, room⟩]
    · rw [if_pos h, placeInbox_full (Nat.not_lt.mp room), if_neg fun c => room c.2]
      rfl
  · rw [if_neg h, if_neg fun c => h c.1]

theorem outwardCopy_otq : (s.outwardCopy goes f).otq = if goes ∧ s.otq.length < 4 then s.otq ++ [f] else s.otq := by
  unfold State.outwardCopy
  by_cases h : goes
  · by_cases room : s.otq.length < 4
    · rw [if_pos h, placeOtq_room room, if_pos ⟨h, room⟩]
    · rw [if_pos h, placeOtq_full (Nat.not_lt.mp room), if_neg fun c => room c.2]
      rfl
  · rw [if_neg h, if_neg fun c => h c.1]

theorem inwardCopy_overflowed :
    Overflowed (if goes ∧ 4 ≤ s.inbox.length then 1 else 0) s (s.inwardCopy goes f) := by
  unfold State.inwardCopy
  by_cases h : goes
  · by_cases full : 4 ≤ s.inbox.length
    · rw [if_pos h, placeInbox_full full, if_pos ⟨h, full⟩]
      exact overflowed_overflow s
    · rw [if_pos h, placeInbox_room (Nat.not_le.mp full), if_neg fun c => full c.2]
      exact .none rfl rfl rfl
  · rw [if_neg h, if_neg fun c => h c.1]
    exact .none rfl rfl rfl

theorem outwardCopy_overflowed :
    Overflowed (if goes ∧ 4 ≤ s.otq.length then 1 else 0) s (s.outwardCopy goes f) := by
  unfold State.outwardCopy
  by_cases h : goes
  · by_cases full : 4 ≤ s.otq.length
    · rw [if_pos h, placeOtq_full full, if_pos ⟨h, full⟩]
      exact overflowed_overflow s
    · rw [if_pos h, placeOtq_room (Nat.not_le.mp full), if_neg fun c => full c.2]
      exact .none rfl rfl rfl
  · rw [if_neg h, if_neg fun c => h c.1]
    exact .none rfl rfl rfl

end Copies

end Overflow

/-! ### A broadcast CONTROL (R152) -/

/-- The bridge takes a copy of a broadcast CONTROL that selects it and has a broadcastable code (R152). -/
theorem inward_iff {s : State} {f : Frame} : (s.selectedBy f && broadcastable f.code) = true ↔
    (f.mark = false ∨ ∃ first last ops, f.payload = first :: last :: ops ∧ 1 ≤ s.position ∧
        first.toNat ≤ s.position ∧ s.position ≤ last.toNat) ∧
      f.code ∉ [0x01#8, 0x02#8, 0x05#8, 0x07#8, 0x0D#8, 0x0A#8] := by
  rw [Bool.and_eq_true]
  refine and_congr ?_ (by simp [broadcastable, and_assoc])
  unfold State.selectedBy
  cases f.mark with
  | false => simp
  | true =>
    simp only [if_true, Bool.true_eq_false, false_or]
    split
    · next first last ops payload =>
      rw [payload]
      simp [State.assigned, Nat.one_le_iff_ne_zero, and_assoc]
    · next unranged =>
      refine iff_of_false Bool.false_ne_true ?_
      rintro ⟨first, last, ops, payload, -⟩
      exact unranged first last ops payload

/-- A broadcast CONTROL is two copies, each on its own (R152). -/
theorem broadcastControl_eq {s : State} {f : Frame} {inward outward : Prop} [Decidable inward] [Decidable outward]
    (hin : (s.selectedBy f && broadcastable f.code) = true ↔ inward) (hout : s.isUp .d = true ↔ outward) :
    s.broadcastControl f = (s.inwardCopy inward f).outwardCopy outward f := by
  unfold State.broadcastControl State.outwardCopy State.inwardCopy
  simp only [hin, hout]

/-- Settles O19: the two copies, each with its own queue, and the overflows of both. -/
theorem broadcastControlIsCopiedInwardAndOutward : Obligations.BroadcastControlIsCopiedInwardAndOutward := by
  intro s bytes invalid f inward outward _ _ live up low good kind all hin hout
  have copies : s.endedU.outwardSwitch f = (s.endedU.inwardCopy inward f).outwardCopy outward f :=
    (outwardSwitch_broadcast_control (s := s.endedU) kind low all).trans
      (broadcastControl_eq (inward_iff.trans hin.symm) (isUp_iff.trans hout.symm))
  have inwardFrame := inwardCopy_frame inward f s.endedU
  have outwardFrame := outwardCopy_frame outward f (s.endedU.inwardCopy inward f)
  have inbox := inwardCopy_inbox inward f s.endedU
  have otq := outwardCopy_otq outward f (s.endedU.inwardCopy inward f)
  have overflows := (inwardCopy_overflowed inward f s.endedU).trans
    (outwardCopy_overflowed outward f (s.endedU.inwardCopy inward f))
  rw [exec_uFrameArrival_good live up good, copies]
  have otqBefore : (s.endedU.inwardCopy inward f).otq = s.otq := by rw [inwardFrame]; rfl
  have inboxAfter : ((s.endedU.inwardCopy inward f).outwardCopy outward f).inbox = (s.endedU.inwardCopy inward f).inbox := by
    rw [outwardFrame]
  have some_iff := overflows_iff (inward ∧ 4 ≤ s.inbox.length) (outward ∧ 4 ≤ s.otq.length)
  rw [otqBefore] at otq overflows
  obtain ⟨counted, otherCounters, latched, otherFaults, notice⟩ := overflows
  refine ⟨_, rfl, ?_, inboxAfter.trans inbox, otq, counted, otherCounters, ?_, otherFaults, ?_⟩
  · rw [outwardFrame, inwardFrame]
    rfl
  · rw [latched]
    exact congrArg _ (decide_eq_decide.mpr some_iff)
  · rw [notice]
    have placed := and_congr_left' (c := s.latched .receiveOverflow = false) some_iff
    exact congrArg (fun m => { s.notice with faults := m }) (if_congr placed rfl rfl)

/-! ### ENUMERATE (R156, R157) -/

section Enumerate
variable {s : State} {h : Header} {c : Byte}

theorem enumerateAt_up (up : s.portD.link = .up) : s.enumerateAt h c =
    State.placeOtq { h with kind := .enumerate, payload := [countSentOn c] } { s with position := positionAfter c } :=
  if_pos ((isUp_iff (s := { s with position := positionAfter c }) (p := .d)).mpr up)

theorem enumerateAt_down (down : s.portD.link = .down) : s.enumerateAt h c = { s with
    position := positionAfter c, chainEnd := some { tag := h.tag, cls := h.cls, count := countSentOn c } } :=
  if_neg ((not_isUp_iff (s := { s with position := positionAfter c }) (p := .d)).mpr down)

end Enumerate

/-- Settles O20: the position and the count by the count received, and the frame by Port D's link. -/
theorem enumerateRenumbersAndPassesTheCountOn : Obligations.EnumerateRenumbersAndPassesTheCountOn := by
  intro s t h c c' g live up hc hg ht
  obtain rfl : c' = countSentOn c := hc
  obtain rfl : t = { s.endedU with position := positionAfter c } := ht
  subst hg
  rw [exec_enumerate_up live up]
  refine ⟨fun upD room => ?_, fun upD full => ?_, fun downD => ?_, fun bytes invalid f good kind => ?_⟩
  · rw [enumerateAt_up (s := s.endedU) upD, placeOtq_room (s := { s.endedU with position := positionAfter c }) room]
    rfl
  · rw [enumerateAt_up (s := s.endedU) upD, placeOtq_full (s := { s.endedU with position := positionAfter c }) full]
    rfl
  · rw [enumerateAt_down (s := s.endedU) downD]
  · rw [exec_uFrameArrival_good live up good, outwardSwitch_enumerate kind, exec_enumerate_up live up]

/-! ### Port D (R153) -/

theorem homewardSwitch_homeward {f : Frame} (homeward : f.kind.homeward = true) (s : State) :
    s.homewardSwitch f = s.placeHtq f := if_pos homeward

theorem homewardSwitch_outward {f : Frame} (outward : f.kind.homeward = false) (s : State) :
    s.homewardSwitch f = s.bump .misdirected := if_neg (by simp [outward])

/-- Settles O21: the kind alone decides between the HTQ and MISDIRECTED. -/
theorem homewardFramesEnterTheHtq : Obligations.HomewardFramesEnterTheHtq := by
  intro s t bytes invalid f live up good ht
  obtain rfl : t = s.endedD := ht
  rw [exec_dFrameArrival_good live up good]
  refine ⟨fun kind => ?_, fun kind => ?_⟩
  · have homeward : f.kind.homeward = true := by rcases kind with k | k | k | k <;> rw [k] <;> rfl
    rw [homewardSwitch_homeward homeward]
    exact ⟨fun room => by rw [placeHtq_room (s := s.endedD) room]; rfl,
      fun full => by rw [placeHtq_full (s := s.endedD) full]; rfl⟩
  · have outward : f.kind.homeward = false := by rcases kind with k | k | k <;> rw [k] <;> rfl
    rw [homewardSwitch_outward outward]

/-! ### The loss of the downlink (R140, R155) -/

/-- `t` is `s` after the addressed frames `lost` have been counted unreachable, in this order. -/
structure Unreached (lost : List Frame) (s t : State) : Prop where
  frame : t = { s with counters := t.counters, notice := { s.notice with unreachable := t.notice.unreachable } }
  counted : (t.counter .unreachable).toNat = min 65535 ((s.counter .unreachable).toNat + lost.length)
  otherCounters : ∀ c, c ≠ .unreachable → t.counter c = s.counter c
  item : lost = [] → t.notice.unreachable = s.notice.unreachable
  lastItem : ∀ f, lost.getLast? = some f → t.notice.unreachable = some {
    position := f.position
    count := min 255 (((s.notice.unreachable.map Unreachable.count).getD 0) + lost.length) }

theorem Unreached.nil (s : State) : Unreached [] s s := by
  refine ⟨rfl, ?_, fun _ _ => rfl, fun _ => rfl, nofun⟩
  have := (s.counter .unreachable).isLt
  simp only [List.length_nil]
  omega

theorem unreachableFrame_counter (p : BitVec 6) (s : State) (c : Counter) :
    (s.unreachableFrame p).counter c = (s.bump .unreachable).counter c := rfl

theorem unreachableFrame_item (p : BitVec 6) (s : State) : (s.unreachableFrame p).notice.unreachable =
    some { position := p, count := min 255 ((s.notice.unreachable.map Unreachable.count).getD 0 + 1) } :=
  congrArg some (unreachable_next p s.notice.unreachable)

/-- One frame more, before the others. -/
theorem Unreached.cons {s t : State} {f : Frame} {lost : List Frame} (rest : Unreached lost (s.unreachableFrame f.position) t) :
    Unreached (f :: lost) s t := by
  obtain ⟨frame, counted, others, item, lastItem⟩ := rest
  refine ⟨frame, ?_, fun c other => ?_, nofun, fun g last => ?_⟩
  · rw [counted, unreachableFrame_counter, counter_bump, if_pos rfl, saturate_toNat, List.length_cons]
    omega
  · rw [others c other, unreachableFrame_counter, counter_bump, if_neg other.symm]
  · cases lost with
    | nil =>
      obtain rfl : f = g := by simpa using last
      exact (item rfl).trans (unreachableFrame_item _ s)
    | cons h lost =>
      rw [List.getLast?_cons_cons] at last
      rw [lastItem g last, unreachableFrame_item]
      simp only [Option.map_some, Option.getD_some, List.length_cons]
      congr 2
      omega

theorem foldl_discardOutward_unreached (frames : List Frame) (s : State) :
    Unreached (frames.filter fun f => (f.kind = .request ∨ f.kind = .control) ∧ f.position ≠ 63#6) s
      (frames.foldl State.discardOutward s) := by
  induction frames generalizing s with
  | nil => exact .nil s
  | cons f frames ih =>
    rw [List.foldl_cons, State.discardOutward]
    by_cases addressed : (f.kind = .request ∨ f.kind = .control) ∧ f.position ≠ 63#6
    · rw [if_pos addressed, List.filter_cons_of_pos (by simpa using addressed)]
      exact (ih _).cons
    · rw [if_neg addressed, List.filter_cons_of_neg (by simpa using addressed)]
      exact ih s

/-- Settles O14: the loss is the fallen port with the OTQ's frames counted from head to tail, and Port U's judgement. -/
theorem downlinkLossDiscardsTheOtq : Obligations.DownlinkLossDiscardsTheOtq := by
  intro s run rest lost live up quiet limit nonempty hlost
  have unreached := foldl_discardOutward_unreached s.otq { s with portD := s.portD.fall, otq := [], dTx := none }
  have answer := exec_linkDown_limit (rest := rest) (p := .d) live up quiet limit nonempty
  have down : s.enterDown .d = ((s.otq.foldl State.discardOutward { s with
    portD := s.portD.fall, otq := [], dTx := none }).noticeLink .d .down).judgeU := rfl
  rw [← hlost] at unreached
  rw [answer, down]
  generalize s.otq.foldl State.discardOutward { s with portD := s.portD.fall, otq := [], dTx := none } = t at unreached ⊢
  obtain ⟨frame, counted, others, item, lastItem⟩ := unreached
  refine ⟨t.noticeLink .d .down, rfl, ?_, congrArg State.portD frame, counted, others, item, lastItem⟩
  rw [frame]
  rfl

end Sys2Proof.Machine
end

section
/-! ## Frames on the link: the check at their arrival, and that what is written is read back -/

namespace Sys2Proof.Machine

/-! ### The check of a frame (R143, R185, R190) -/

theorem kind_isSome_iff (b : Byte) :
    (FrameKind.ofCode (b.extractLsb' 4 4)).isSome = true ↔ b.toNat / 16 ∈ [1, 2, 3, 9, 10, 11, 12] := by
  revert b; decide +kernel

theorem kind_enumerate_iff (b : Byte) : FrameKind.ofCode (b.extractLsb' 4 4) = some .enumerate ↔ b.toNat / 16 = 3 := by
  revert b; decide +kernel

/-- The length field is the low six bits of byte 3 (R185). -/
theorem lengthField_toNat (b1 b2 b3 : Byte) : ((b1 ++ b2 ++ b3).extractLsb' 0 6).toNat = b3.toNat % 64 := by
  have low := b3.isLt
  rw [BitVec.extractLsb'_toNat, BitVec.toNat_append, ← Nat.shiftLeft_add_eq_or_of_lt low, Nat.shiftLeft_eq]
  omega

/-- Eight header bytes and the rest are a frame when length, check and kind agree. -/
theorem parseFrame_isSome_iff (b0 b1 b2 b3 b4 b5 b6 b7 : Byte) (rest : List Byte) :
    (parseFrame (b0 :: b1 :: b2 :: b3 :: b4 :: b5 :: b6 :: b7 :: rest)).isSome = true ↔
      (b3.toNat % 64 ≤ 32 ∧ rest.length = b3.toNat % 64 + 2 ∧
        rest.drop (b3.toNat % 64) = crc16Bytes ([b0, b1, b2, b3, b4, b5, b6, b7] ++ rest.take (b3.toNat % 64))) ∧
      b0.toNat / 16 ∈ [1, 2, 3, 9, 10, 11, 12] ∧ (b0.toNat / 16 = 3 → b3.toNat % 64 = 1) := by
  rw [← kind_isSome_iff, ← kind_enumerate_iff]
  simp only [parseFrame, lengthField_toNat]
  split
  · next whole =>
    cases kind : FrameKind.ofCode (b0.extractLsb' 4 4) with
    | none => simp
    | some k =>
      dsimp only
      by_cases bare : k = .enumerate ∧ b3.toNat % 64 ≠ 1
      · rw [if_pos bare]
        exact iff_of_false Bool.false_ne_true fun h => bare.2 (h.2.2 (congrArg some bare.1))
      · rw [if_neg bare]
        exact iff_of_true rfl ⟨whole, rfl, fun e => not_and_not_right.mp bare (Option.some.inj e)⟩
  · next broken => exact iff_of_false Bool.false_ne_true fun h => broken h.1

theorem eight_bytes {bytes : List Byte} (long : 8 ≤ bytes.length) :
    ∃ b0 b1 b2 b3 b4 b5 b6 b7 rest, bytes = b0 :: b1 :: b2 :: b3 :: b4 :: b5 :: b6 :: b7 :: rest := by
  match bytes with
  | b0 :: b1 :: b2 :: b3 :: b4 :: b5 :: b6 :: b7 :: rest => exact ⟨b0, b1, b2, b3, b4, b5, b6, b7, rest, rfl⟩
  | [] | [_] | [_, _] | [_, _, _] | [_, _, _, _] | [_, _, _, _, _] | [_, _, _, _, _, _] | [_, _, _, _, _, _, _] =>
    simp at long

theorem parseFrame_short {bytes : List Byte} (short : bytes.length < 8) : parseFrame bytes = none := by
  unfold parseFrame
  split
  · simp only [List.length_cons] at short
    omega
  · rfl

theorem checkFrame_isSome_iff (bytes : List Byte) (invalidSymbol : Bool) :
    (checkFrame bytes invalidSymbol).isSome = true ↔
      invalidSymbol = false ∧ 10 ≤ bytes.length ∧ bytes.length ≤ 42 ∧
      (bytes.getD 3 0#8).toNat % 64 + 10 = bytes.length ∧
      (bytes.getD 0 0#8).toNat / 16 ∈ [1, 2, 3, 9, 10, 11, 12] ∧
      ((bytes.getD 0 0#8).toNat / 16 = 3 → bytes.length = 11) ∧
      bytes.drop (bytes.length - 2) = crc16Bytes (bytes.take (bytes.length - 2)) := by
  cases invalidSymbol with
  | true => simp [checkFrame]
  | false =>
    rw [checkFrame, if_neg Bool.false_ne_true]
    by_cases long : 8 ≤ bytes.length
    · obtain ⟨b0, b1, b2, b3, b4, b5, b6, b7, rest, rfl⟩ := eight_bytes long
      rw [parseFrame_isSome_iff]
      simp only [List.length_cons, List.getD_cons_succ, List.getD_cons_zero, true_and]
      constructor
      · rintro ⟨⟨fits, size, check⟩, kind, enumerate⟩
        refine ⟨by omega, by omega, by omega, kind, fun e => by have := enumerate e; omega, ?_⟩
        rw [show rest.length + 1 + 1 + 1 + 1 + 1 + 1 + 1 + 1 - 2 = b3.toNat % 64 + 8 by omega]
        exact check
      · rintro ⟨low, high, size, kind, enumerate, check⟩
        refine ⟨⟨by omega, by omega, ?_⟩, kind, fun e => by have := enumerate e; omega⟩
        rw [show rest.length + 1 + 1 + 1 + 1 + 1 + 1 + 1 + 1 - 2 = b3.toNat % 64 + 8 by omega] at check
        exact check
    · rw [parseFrame_short (Nat.not_le.mp long)]
      exact iff_of_false Bool.false_ne_true fun h => long (by omega)

/-- Settles O16: the check read as conditions on the bytes, and the CRC-16 one byte at a time. -/
theorem frameCheckAcceptsExactlyTheGoodFrames : Obligations.FrameCheckAcceptsExactlyTheGoodFrames := by
  refine ⟨checkFrame_isSome_iff, fun bytes => rfl, rfl, fun bit hbit bytes b => ?_⟩
  obtain rfl : bit = crc16Bit := funext hbit
  exact crc16_append bytes b

/-! ### The header (R185) -/

theorem append_toNat {m n : Nat} (a : BitVec m) (b : BitVec n) : (a ++ b).toNat = a.toNat * 2 ^ n + b.toNat := by
  rw [BitVec.toNat_append, ← Nat.shiftLeft_add_eq_or_of_lt b.isLt, Nat.shiftLeft_eq]

theorem hiByte_append_loByte (w : Word16) : hiByte w ++ loByte w = w :=
  BitVec.extractLsb'_append_extractLsb'

theorem three_bytes_append (w : BitVec 24) : w.extractLsb' 16 8 ++ w.extractLsb' 8 8 ++ w.extractLsb' 0 8 = w := by
  rw [BitVec.extractLsb'_append_extractLsb'_eq_extractLsb' (by rfl)]
  exact BitVec.extractLsb'_append_extractLsb'

section Header
variable (f : Frame)

theorem headWord_length (fits : f.payload.length ≤ 32) : ((headWord f).extractLsb' 0 6).toNat = f.payload.length := by
  rw [headWord, BitVec.extractLsb'_append_eq_right, BitVec.toNat_ofNat]
  omega

theorem headWord_tag : (headWord f).extractLsb' 6 12 = f.tag := by
  rw [headWord, BitVec.extractLsb'_append_eq_of_le (by decide)]
  exact BitVec.extractLsb'_append_eq_right

theorem headWord_position : (headWord f).extractLsb' 18 6 = f.position := by
  rw [headWord, BitVec.extractLsb'_append_eq_of_le (by decide)]
  exact BitVec.extractLsb'_append_eq_left

theorem headByte0_kind : (headByte0 f).extractLsb' 4 4 = f.kind.code := by
  rw [headByte0, BitVec.extractLsb'_append_eq_of_le (by decide), BitVec.extractLsb'_append_eq_of_le (by decide)]
  exact BitVec.extractLsb'_append_eq_left

theorem headByte0_cls : (headByte0 f).extractLsb' 2 2 = f.cls := by
  rw [headByte0, BitVec.extractLsb'_append_eq_of_le (by decide), BitVec.extractLsb'_append_eq_of_le (by decide)]
  exact BitVec.extractLsb'_append_eq_right

theorem headByte0_mark : (headByte0 f).getLsbD 1 = f.mark := by
  rw [headByte0, BitVec.getLsbD_append, BitVec.getLsbD_append]
  simp

theorem headByte0_rsv : (headByte0 f).getLsbD 0 = f.rsv := by
  rw [headByte0, BitVec.getLsbD_append]
  simp

theorem ofCode_code (k : FrameKind) : FrameKind.ofCode k.code = some k := by
  cases k <;> rfl

/-- The header's bytes as numbers (R185). -/
theorem headerBytes_toNat (fits : f.payload.length ≤ 32) : (headerBytes f).map BitVec.toNat = [
    f.kind.code.toNat * 16 + f.cls.toNat * 4 + f.mark.toNat * 2 + f.rsv.toNat,
    f.position.toNat * 4 + f.tag.toNat / 1024, f.tag.toNat / 4 % 256, f.tag.toNat % 4 * 64 + f.payload.length,
    f.logical.toNat / 256, f.logical.toNat % 256, f.code.toNat, f.aux.toNat] := by
  have position := f.position.isLt
  have tag := f.tag.isLt
  have logical := f.logical.isLt
  have word : (headWord f).toNat = f.position.toNat * 262144 + f.tag.toNat * 64 + f.payload.length := by
    rw [headWord, append_toNat, append_toNat, BitVec.toNat_ofNat]
    omega
  have first : (headByte0 f).toNat =
      f.kind.code.toNat * 16 + f.cls.toNat * 4 + f.mark.toNat * 2 + f.rsv.toNat := by
    rw [headByte0, append_toNat, append_toNat, append_toNat, BitVec.toNat_ofBool, BitVec.toNat_ofBool]
    omega
  simp only [headerBytes, List.map_cons, List.map_nil, first, hiByte, loByte, BitVec.extractLsb'_toNat, word,
    Nat.shiftRight_eq_div_pow, List.cons.injEq, and_true, true_and]
  omega

/-! ### A frame read back (R143, R185, R186) -/

/-- The encoded bytes are the eight of the header, the payload and the CRC-16. -/
theorem encodeFrame_eq : encodeFrame f = headByte0 f :: (headWord f).extractLsb' 16 8 :: (headWord f).extractLsb' 8 8 ::
    (headWord f).extractLsb' 0 8 :: hiByte f.logical :: loByte f.logical :: f.code :: f.aux ::
    (f.payload ++ crc16Bytes (headerBytes f ++ f.payload)) := rfl

theorem checkFrame_encodeFrame (fits : f.payload.length ≤ 32) (single : f.kind = .enumerate → f.payload.length = 1) :
    checkFrame (encodeFrame f) false = some f := by
  have payload : (f.payload ++ crc16Bytes (headerBytes f ++ f.payload)).take f.payload.length = f.payload :=
    List.take_left
  have check : (f.payload ++ crc16Bytes (headerBytes f ++ f.payload)).drop f.payload.length =
      crc16Bytes (headerBytes f ++ f.payload) := List.drop_left
  rw [checkFrame, if_neg Bool.false_ne_true, encodeFrame_eq]
  simp only [parseFrame, three_bytes_append, headWord_length f fits, payload, check, headByte0_kind, ofCode_code,
    headByte0_cls, headByte0_mark, headByte0_rsv, headWord_position, headWord_tag, hiByte_append_loByte]
  rw [if_pos ⟨fits, List.length_append, rfl⟩, if_neg fun bare => bare.2 (single bare.1)]

end Header

/-! ### Link symbols (R142, R191) -/

/-- The exclusive or of some bits is the parity of the number set. -/
theorem foldl_xor_parity (bit : Nat → Bool) (l : List Nat) (a : Bool) :
    l.foldl (fun a i => a ^^ bit i) a = (a ^^ decide (l.countP bit % 2 = 1)) := by
  induction l generalizing a with
  | nil => simp
  | cons i l ih =>
    rw [List.foldl_cons, ih, List.countP_cons]
    rcases Nat.mod_two_eq_zero_or_one (l.countP bit) with even | odd
    · cases bit i <;> simp [Nat.add_mod, even]
    · cases bit i <;> simp [Nat.add_mod, odd]

theorem oddParity_iff (w : BitVec 10) : oddParity w = true ↔ (List.range 10).countP (fun i => w.getLsbD i) % 2 = 1 := by
  rw [oddParity, foldl_xor_parity, Bool.false_xor, decide_eq_true_eq]

/-- The parity bit is sent last, after the control flag and the value. -/
theorem word_flagAndValue (y : LinkSymbol) : y.word.extractLsb' 1 9 = y.flagAndValue :=
  BitVec.extractLsb'_append_eq_left

/-- Settles O52: header, payload and check read back as they were written, and so is each symbol. -/
theorem framesReadBackAsWritten : Obligations.FramesReadBackAsWritten := by
  refine ⟨fun f fits => ⟨checkFrame_encodeFrame f fits, headerBytes f, rfl, headerBytes_toNat f fits⟩, rfl,
    fun y => ⟨ofWord_word y, (oddParity_iff y.word).mp (oddParity_word y)⟩, fun b => word_flagAndValue (.data b), ?_,
    fun w => validSymbol_iff, fun bytes => ⟨frameSymbols_length bytes, rfl, frameData_frameSymbols bytes⟩⟩
  simp only [word_flagAndValue]
  rfl

end Sys2Proof.Machine
end

section
/-! ## Hard resets, malformed CONTROLs, READ_STATUS, GET_PARAM, CLEAR_FAULTS and READ_COUNTERS -/

namespace Sys2Proof.Machine

/-! ### Commands during a hard reset (R161, R191) -/

theorem exec_hardReset_short {ns : Nat} (short : ns < 1000) (s : State) : exec (.hardReset (.resetN ns)) s = .next s := by
  have ignored : isHardReset (.resetN ns) = false := decide_eq_false (Nat.not_le.mpr short)
  rw [exec, execHardReset, ignored]
  rfl

theorem exec_resetNRise_of_live {s : State} (live : s.inReset = false) : exec .resetNRise s = .next s := by
  rw [exec, execResetNRise, live]
  rfl

/-- Every command but the two of the reset itself is a live event, which a bridge held in its reset does not take (R161). -/
theorem exec_of_held {c : Instr} {s : State} (held : s.inReset = true) (noReset : ∀ cause, c ≠ .hardReset cause)
    (noRise : c ≠ .resetNRise) : exec c s = .next s := by
  cases c with
  | hardReset cause => exact absurd rfl (noReset cause)
  | resetNRise => exact absurd rfl noRise
  | _ => exact congrArg Host.Outcome.next (if_pos held)

/-- Settles O3: the two commands of the reset by their conditions, every other one by the hold. -/
theorem hardResetHoldsUntilTheRise : Obligations.HardResetHoldsUntilTheRise :=
  ⟨fun _ s long => ⟨_, exec_hardReset long s, rfl, rfl, dtx_mark rfl, rfl, rfl⟩,
    fun _ s short => exec_hardReset_short short s, fun _ held => exec_resetNRise_of_held held,
    fun _ live => exec_resetNRise_of_live live, fun _ _ held noReset noRise => exec_of_held held noReset noRise⟩

/-! ### Malformed CONTROLs (R162 to R165) -/

section Malformed
variable {s : State} {f : Frame} {rest : List Frame} {n : Nat}

theorem exec_badCommand (head : s.Head f rest n) (kind : f.kind = .control) (unknown : ∀ c : Command, f.code ≠ c.code) :
    exec .badCommand s = .next ((s.took rest n).answered f n .badCommand []) := by
  have wanted : (decide (f.kind = .control) && decide (Command.ofCode f.code = none)) = true := by
    simp [kind, Command.ofCode_eq_none.mpr unknown]
  rw [exec, execBadCommand, live_of_live head.live, head.takeHead wanted]
  exact congrArg Host.Outcome.next (finishControl_eq f n _)

/-- The lengths of R164 in the order of the command codes. -/
theorem operandBytes_eq (c : Command) :
    c.operandBytes = [0, 1, 3, 1, 0, 12, 3, 0, 0, 2, 1, 1, 1, 0, 0, 1].getD (c.code.toNat - 1) 0 := by
  cases c <;> rfl

variable {c : Command} {ops : List Byte}

theorem State.HeadCommand.live_dispatch_malformed (head : s.HeadCommand c ops f rest n)
    (wrong : ops.length ≠ c.operandBytes) (run : List Byte → State → CommandResult) :
    live (Machine.dispatch c run) s = .next ((s.took rest n).answered f n .badParam []) := by
  rw [live_of_live head.live, head.dispatch, if_neg wrong]

/-- Operands of the wrong length are refused before the command's own rule, and no dues are settled for them. -/
theorem exec_malformed (head : s.HeadCommand c ops f rest n) (wrong : ops.length ≠ c.operandBytes) :
    exec c.instr s = .next ((s.took rest n).answered f n .badParam []) := by
  cases c with
  | commit =>
    rw [Command.instr, exec, execCommit, live_of_live head.live, State.takeCommit, head.toHead.takeHead head.isCommand]
    dsimp only
    rw [head.operands, if_pos wrong, finishControl_eq]
    rfl
  | softReset =>
    have owed : s.settleBefore namesLevel = s :=
      settleBefore_unwanted head.inbox (by simp [namesLevel, head.operands, wrong])
    rw [Command.instr, exec_softReset head.live, owed, State.takeSoftReset, head.toHead.takeHead head.isCommand]
    dsimp only
    rw [head.operands, if_pos wrong, finishControl_eq]
    rfl
  | setParam =>
    have owed : s.settleBefore s.changesScanEnable = s :=
      settleBefore_unwanted head.inbox (by simp [State.changesScanEnable, head.operands, wrong])
    rw [Command.instr, exec, execSetParam, live_of_live head.live, owed, head.dispatch, if_neg wrong]
  | _ => exact head.live_dispatch_malformed wrong _

theorem answered_broadcast (all : f.position = 63#6) (code : AckCode) (payload : List Byte) (s : State) :
    s.answered f n code payload = s.freeSlot n := if_pos all

theorem answered_addressed (addressed : f.position ≠ 63#6) (code : AckCode) (payload : List Byte) (s : State) :
    s.answered f n code payload = s.fillSlot n (ackFrame f.cls f.tag f.code code payload) := if_neg addressed

end Malformed

/-- Settles O29: an unknown code and a wrong length are each answered from the taken head, before any rule runs. -/
theorem malformedCommandsChangeNothing : Obligations.MalformedCommandsChangeNothing := by
  refine ⟨fun s t f rest n head ht kind unknown => ?_, fun s t f rest n c ops head ht wrong => ?_,
    fun s f n code payload => ⟨fun all => answered_broadcast all code payload s, fun addressed => ?_⟩, rfl⟩
  · rw [exec_badCommand head kind unknown, ht]
  · rw [← operandBytes_eq] at wrong
    rw [exec_malformed head wrong, ht]
  · rw [answered_addressed addressed]
    rfl

/-! ### READ_STATUS (R166) -/

/-- A flag above a number adds its weight to it. -/
theorem or_flagBit {m k w : Nat} {b : Bool} {p : Prop} [Decidable p] (hb : b = true ↔ p) (hk : k < 8) (hw : w = 2 ^ k)
    (fits : m < w) : BitVec.ofNat 8 m ||| flagBit b k = BitVec.ofNat 8 (m + bitIf p w) := by
  subst hw
  have flag : (flagBit b k).toNat = bitIf p (2 ^ k) := flagBit_toNat hb hk
  have aligned : 2 ^ k ∣ (flagBit b k).toNat := by
    rcases bitIf_le p (2 ^ k) with clear | set
    · rw [flag, clear]
      exact dvd_zero _
    · rw [flag, set]
  have low : (BitVec.ofNat 8 m).toNat = m :=
    Nat.mod_eq_of_lt (fits.trans (Nat.pow_lt_pow_right Nat.one_lt_two hk))
  have sum : (flagBit b k ||| BitVec.ofNat 8 m).toNat = bitIf p (2 ^ k) + m := by
    rw [or_toNat_of_aligned k aligned (low.symm ▸ fits), flag, low]
  rw [BitVec.or_comm, Nat.add_comm, ← sum, BitVec.ofNat_toNat, BitVec.setWidth_eq]

section Flags
variable {a b c d : Bool} {p q r v : Prop} [Decidable p] [Decidable q] [Decidable r] [Decidable v]

theorem three_flags (ha : a = true ↔ p) (hb : b = true ↔ q) (hc : c = true ↔ r) :
    flagBit a 0 ||| flagBit b 1 ||| flagBit c 2 = BitVec.ofNat 8 (bitIf p 1 + bitIf q 2 + bitIf r 4) := by
  have hp := bitIf_le p 1
  have hq := bitIf_le q 2
  have first : flagBit a 0 = BitVec.ofNat 8 (bitIf p 1) := by
    simpa using or_flagBit (m := 0) (w := 1) ha (by decide) rfl (by decide)
  rw [first, or_flagBit (w := 2) hb (by decide) rfl (by omega), or_flagBit (w := 4) hc (by decide) rfl (by omega)]

theorem four_flags (ha : a = true ↔ p) (hb : b = true ↔ q) (hc : c = true ↔ r) (hd : d = true ↔ v) :
    flagBit a 0 ||| flagBit b 1 ||| flagBit c 2 ||| flagBit d 3 =
      BitVec.ofNat 8 (bitIf p 1 + bitIf q 2 + bitIf r 4 + bitIf v 8) := by
  have hp := bitIf_le p 1
  have hq := bitIf_le q 2
  have hr := bitIf_le r 4
  rw [three_flags ha hb hc, or_flagBit (w := 8) hd (by decide) rfl (by omega)]

end Flags

theorem assigned_iff {s : State} : s.assigned = true ↔ 1 ≤ s.position := by
  rw [State.assigned, decide_eq_true_iff, Nat.one_le_iff_ne_zero]

/-- The first byte of the status record: the assigned flag above the position. -/
theorem positionByte_eq {s : State} (low : s.position ≤ 62) : flagBit s.assigned 7 ||| byteOf s.position =
    BitVec.ofNat 8 (bitIf (1 ≤ s.position) 128 + s.position) := by
  rw [BitVec.or_comm, byteOf, or_flagBit (w := 128) assigned_iff (by decide) rfl (by omega), Nat.add_comm]

/-- The policy byte: CHECK_POLICY, the guarded state and the halt request. -/
theorem policyByte_eq (s : State) :
    flagBit (decide (s.params.checkPolicy = 1)) 0 ||| flagBit s.guarded 1 ||| flagBit s.dlc.haltReq 2 =
      BitVec.ofNat 8 (bitIf (s.params.checkPolicy = 1) 1 +
        bitIf (s.params.checkPolicy = 0 ∧ s.latched .chainCheckU = true) 2 + bitIf (s.dlc.haltReq = true) 4) :=
  three_flags decide_eq_true_iff guarded_iff Iff.rfl

/-- The byte of the commit, the ACTIVE bank and the two links. -/
theorem bankAndLinkByte_eq (s : State) :
    flagBit s.validating 0 ||| flagBit (decide (s.activeBank = .bank1)) 1 |||
        flagBit (decide (s.portU.link = .up)) 2 ||| flagBit (decide (s.portD.link = .up)) 3 =
      BitVec.ofNat 8 (bitIf (s.commit ≠ none) 1 + bitIf (s.activeBank = .bank1) 2 + bitIf (s.portU.link = .up) 4 +
        bitIf (s.portD.link = .up) 8) :=
  four_flags validating_eq_true decide_eq_true_iff decide_eq_true_iff decide_eq_true_iff

theorem exec_readStatus {s : State} {f : Frame} {rest : List Frame} {n : Nat} (head : s.HeadCommand .readStatus [] f rest n) :
    exec .readStatus s = .next ((s.took rest n).answered f n .done (s.took rest n).statusRecord) := by
  rw [exec, execReadStatus, live_of_live head.live, head.dispatch_run rfl]
  rfl

/-- The head's slot is the one FREE slot that its taking claims. -/
theorem State.Head.took_freeCount {s : State} {f : Frame} {rest : List Frame} {n : Nat} (head : s.Head f rest n) :
    (s.took rest n).freeCount + 1 = s.freeCount := by
  obtain ⟨inside, free, -⟩ := lowestFree_spec head.slot
  exact freeCount_claim (took_loq rest n s) inside free rfl

theorem took_portU_link (rest : List Frame) (n : Nat) (s : State) : (s.took rest n).portU.link = s.portU.link :=
  judge_link

/-- Settles O30: taking the head moves one slot out of the FREE count; the flags of a byte add up by their weights. -/
theorem readStatusReportsTheBridge : Obligations.ReadStatusReportsTheBridge := by
  intro s t f rest n head ht low
  subst ht
  refine ⟨head.toHead.took_freeCount, rfl, ?_⟩
  rw [exec_readStatus head, State.statusRecord, positionByte_eq (s := s.took rest n) low, policyByte_eq, bankAndLinkByte_eq,
    took_portU_link]
  rfl

/-! ### GET_PARAM (R168) -/

section Params
variable {id : Nat}

/-- The current values of the parameters 1 to 14 in their order. -/
theorem paramValue_getElem? (cur : LineSettings) (p : Params) (low : 1 ≤ id) (high : id ≤ 14) :
    [cur.dropRate, cur.tResp, cur.tGap, cur.tGuard, cur.tBcast, p.offlineThreshold, p.reviveInterval, p.tickPeriod,
      p.scanEnable, p.classReserve, p.throughWeight, p.noticeHoldoff, p.checkPolicy, p.counterMode][id - 1]? =
      some (paramValue cur p id) := by
  interval_cases id <;> rfl

/-- Only the line settings 1 to 5 can have a pending value. -/
theorem paramPending_getElem? (pend : PendingSettings) (low : 1 ≤ id) {w : Nat} :
    [pend.dropRate, pend.tResp, pend.tGap, pend.tGuard, pend.tBcast][id - 1]? = some (some w) ↔
      paramPending pend id = some w := by
  rcases Nat.lt_or_ge 5 id with own | line
  · rw [paramPending_own own, List.getElem?_eq_none (by simp only [List.length_cons, List.length_nil]; omega)]
    simp
  · interval_cases id <;> simp [paramPending]

theorem runGetParam_unknown {i : Byte} (unknown : isParam i.toNat = false) (s : State) :
    runGetParam [i] s = refuseCommand s .badParam [] :=
  if_neg (by rw [show opByte [i] 0 = i from rfl, unknown]; decide)

theorem runGetParam_known {i : Byte} (known : isParam i.toNat = true) (s : State) : runGetParam [i] s = {
    state := s, code := .done
    payload := i :: twoBytes (paramValue s.dlc.cur s.params i.toNat) ++ pendingBytes (paramPending s.dlc.pend i.toNat) } :=
  if_pos known

theorem exec_getParam {s : State} {f : Frame} {rest : List Frame} {n : Nat} {i : Byte}
    (head : s.HeadCommand .getParam [i] f rest n) : exec .getParam s =
      .next ((runGetParam [i] (s.took rest n)).state.answered f n (runGetParam [i] (s.took rest n)).code
        (runGetParam [i] (s.took rest n)).payload) := by
  rw [exec, execGetParam, live_of_live head.live, head.dispatch_run rfl]

end Params

/-- Settles O31: the id is one of the 14 or is refused, and its pending value stands or does not. -/
theorem getParamReturnsCurrentAndPendingValue : Obligations.GetParamReturnsCurrentAndPendingValue := by
  intro s t f rest n i id cur pend head ht hid hcur hpend
  subst hcur hpend hid
  rw [exec_getParam head, ← ht]
  refine ⟨fun outside => ?_, fun v low current => ?_⟩
  · have stranger : isParam i.toNat = false := by
      rw [Bool.eq_false_iff, Ne, isParam_iff]
      omega
    rw [runGetParam_unknown stranger]
    rfl
  · have high : i.toNat ≤ 14 := by
      have inside := (List.getElem?_eq_some_iff.mp current).1
      simp only [List.length_cons, List.length_nil] at inside
      omega
    have value : paramValue s.dlc.cur s.params i.toNat = v :=
      Option.some.inj ((paramValue_getElem? s.dlc.cur s.params low high).symm.trans current)
    rw [runGetParam_known (isParam_iff.mpr ⟨low, high⟩), ht, took_dlc, took_params, value]
    refine ⟨fun w pending => ?_, fun settled => ?_⟩
    · rw [(paramPending_getElem? s.dlc.pend low).mp pending]
      rfl
    · have unset : paramPending s.dlc.pend i.toNat = none :=
        Option.eq_none_iff_forall_ne_some.mpr fun w => mt (paramPending_getElem? s.dlc.pend low).mpr (settled w)
      rw [unset]
      rfl

/-! ### CLEAR_FAULTS and READ_COUNTERS (R174, R176, R177) -/

section Faults
variable {s : State} {f : Frame} {rest : List Frame} {n : Nat} {mask : Byte}

/-- A mask names a bit above the six faults exactly when it is 64 or more. -/
theorem mask_outside_iff (mask : Byte) : (mask.getLsbD 6 || mask.getLsbD 7) = true ↔ 64 ≤ mask.toNat := by
  revert mask; decide +kernel

theorem runClearFaults_outside (outside : 64 ≤ mask.toNat) (s : State) :
    runClearFaults [mask] s = refuseCommand s .badValue [] :=
  if_pos ((mask_outside_iff mask).mpr outside)

/-- The state with the faults of a mask cleared. -/
def State.withoutFaults (mask : Byte) (s : State) : State := { s with faults := s.faults &&& ~~~(mask.setWidth 6) }

theorem runClearFaults_inside (inside : mask.toNat < 64) (s : State) : runClearFaults [mask] s = {
    state := s.withoutFaults mask, code := .done, payload := [(s.withoutFaults mask).faults.setWidth 8] } :=
  if_neg (mt (mask_outside_iff mask).mp (Nat.not_le.mpr inside))

theorem latched_withoutFaults (k : FaultKind) : (s.withoutFaults mask).latched k = (s.latched k && !mask.getLsbD k.code) := by
  simp [State.latched, State.withoutFaults, k.code_lt]

theorem exec_clearFaults (head : s.HeadCommand .clearFaults [mask] f rest n) : exec .clearFaults s =
    .next ((runClearFaults [mask] (s.took rest n)).state.answered f n (runClearFaults [mask] (s.took rest n)).code
      (runClearFaults [mask] (s.took rest n)).payload) := by
  rw [exec, execClearFaults, live_of_live head.live, head.dispatch_run rfl]

theorem exec_readCounters (head : s.HeadCommand .readCounters [] f rest n) : exec .readCounters s =
    .next ((runReadCounters [] (s.took rest n)).state.answered f n .done
      (s.counters.toList.flatMap fun c => [hiByte c, loByte c])) := by
  rw [exec, execReadCounters, live_of_live head.live, head.dispatch_run rfl]
  rfl

theorem toList_eq_map_vget {α : Type} {k : Nat} (v : Vector α k) (d : α) :
    v.toList = (List.range k).map fun i => vget v i d := by
  refine List.ext_getElem (by simp) fun i inside _ => ?_
  have entry := getElem?_toList v d (Vector.length_toList ▸ inside)
  rw [List.getElem?_eq_getElem inside] at entry
  rw [List.getElem_map, List.getElem_range]
  exact Option.some.inj entry

/-- The 14 counters in the order of R176. -/
theorem counters_toList (s : State) : s.counters.toList = [s.counter .chainCheckU, s.counter .chainCheckD,
    s.counter .receiveOverflow, s.counter .misdirected, s.counter .unreachable, s.counter .exchOk, s.counter .exchFail,
    s.counter .retries, s.counter .contention, s.counter .strayBytes, s.counter .refused, s.counter .expired,
    s.counter .scanOverruns, s.counter .syncs] :=
  toList_eq_map_vget s.counters 0#16

end Faults

/-- Settles O33: the mask is judged first and each fault's bit read after it; the counters are read before they clear. -/
theorem faultsAreClearedAndCountersRead : Obligations.FaultsAreClearedAndCountersRead := by
  refine ⟨fun s t f rest n mask head ht => ?_, fun s t f rest n bytes head ht hbytes => ?_⟩
  · rw [exec_clearFaults head, ← ht]
    refine ⟨fun outside => ?_, fun inside => ⟨t.withoutFaults mask, ?_, rfl, fun k => ?_⟩⟩
    · rw [runClearFaults_outside outside]
      rfl
    · rw [runClearFaults_inside inside]
    · rw [latched_withoutFaults, ht]
      rfl
  · rw [← counters_toList] at hbytes
    rw [exec_readCounters head, ← ht, hbytes]
    refine ⟨fun keep => ?_, fun clear => ⟨{ t with counters := Vector.replicate 14 0#16 }, ?_, rfl, fun c => ?_⟩⟩
    · rw [runReadCounters, ht, took_params, if_neg keep]
      rfl
    · rw [runReadCounters, ht, took_params, if_pos clear]
      rfl
    · exact vget_replicate _ _

end Sys2Proof.Machine
end

section
/-! ## The queue of commands: its front command is carried out, and an empty one leaves the sweep alone at work -/

namespace Sys2Proof.Machine

/-- Settles O1: the law of a step on a queue with a front command. -/
theorem stepRunsTheFrontCommand : Obligations.StepRunsTheFrontCommand :=
  fun _ _ _ queued => step_cons queued

/-! ### The idle step (R95, log entry 4) -/

theorem idleStep_of_no_commit {s : State} (none_pending : s.commit = none) : s.idleStep = s := by
  rw [State.idleStep, none_pending]

theorem idleStep_of_commit {s : State} {c : PendingCommit} (sweeping : s.commit = some c) :
    s.idleStep = { s with commit := some { c with cursor := sweepAdvance s.shadow c.cursor } } := by
  rw [State.idleStep, sweeping]

/-- Settles O2: an empty queue gives the idle step, which turns on whether a COMMIT is pending. -/
theorem emptyQueueMovesOnlyTheSweepCursor : Obligations.EmptyQueueMovesOnlyTheSweepCursor := by
  intro s empty
  rw [step_nil empty]
  refine ⟨fun none_pending => ?_, fun c sweeping => ?_⟩
  · rw [idleStep_of_no_commit none_pending]
  · rw [idleStep_of_commit sweeping]

end Sys2Proof.Machine
end
